-- ==== Sys2Proof/Word.lean ====
section
/-! DEFINITION. The byte, and the plain conversions between bytes and numbers. -/

namespace Sys2Proof

/-- A byte on a serial line, on the memory bus or in a record. -/
abbrev Byte := BitVec 8

/-- The byte of a number, its value taken modulo 256. -/
abbrev byteOf (n : Nat) : Byte := BitVec.ofNat 8 n

end Sys2Proof
end

