-- ==== Sys2Proof/Config.lean ====
section
/-! DEFINITION. What is fixed for every PZ-740: the numbers of the rules, and the free values, which have no body so that
no proof can see what they are. -/

namespace Sys2Proof.Config

/-- The largest time of day, duration and start time, in seconds (R16, R42). -/
abbrev maxSeconds : Nat := 86399

/-- Seconds in a day (R49). -/
abbrev daySeconds : Nat := 86400

/-- Crystal cycles in a slice on XTAL (R1). -/
abbrev crystalSlice : Nat := 16384

/-- RC cycles in a slice on RC (R1). -/
abbrev rcSlice : Nat := 2000000

/-- The bounds of a passing RC slice, in crystal cycles (R11). -/
abbrev qualifyLow : Nat := 15074
abbrev qualifyHigh : Nat := 17694

/-- The bounds of the gross figure G (R7). -/
abbrev grossLow : Nat := 301466
abbrev grossHigh : Nat := 353894

/-- Crystal cycles in a window on XTAL, to which the mains count is referred (R7). -/
abbrev windowCrystal : Nat := 327680

/-- RC cycles in a window on RC, to which the crystal count is scaled (R7). -/
abbrev windowRc : Nat := 40000000

/-- Quota of a panel and of the supervisor (R47). -/
abbrev panelQuota : Nat := 10
abbrev supervisorQuota : Nat := 4

/-- Age at which a sounding timer entry is silenced, in seconds (R159). -/
abbrev silenceAge : Nat := 600

/-- Most seconds of silence counted (R194). -/
abbrev maxSilence : Nat := 65534

/-- FREE VALUE (log 12). Whether SDA and SCL are both high when a memory job starts (R88): an input no command carries.
The argument is the number of free values read before. -/
opaque busLinesHigh : Nat → Bool

/-- FREE VALUE (log 13). Whether the self-test passes from its part in progress to the next in an RC millisecond
(R179, R180): the spec does not say when. The argument is the number of free values read before. -/
opaque selfTestAdvances : Nat → Bool

end Sys2Proof.Config
end

