-- ==== Sys2Proof/Syntax.lean ====
section
/-! DEFINITION. The names of the PZ-740, the fields a command carries, and the commands themselves: one constructor of
`Instr` for each row of spec/opcode_table.json. A request's fields stand as they are sent, so a value outside its range is
an operand too and the block that owns it gives the refusal its rule names. -/

namespace Sys2Proof

/-- A port, which is also the role of every request it receives (R187): A is PANEL_A, B is PANEL_B, C is SUPERVISOR. -/
inductive Port where
  | panelA | panelB | supervisor
  deriving DecidableEq, Repr

/-- Every Port, in the manual's order. -/
def Port.all : List Port := [.panelA, .panelB, .supervisor]

/-- One value for each Port. -/
structure PerPort (α : Type) where
  panelA : α
  panelB : α
  supervisor : α
  deriving DecidableEq, Repr

/-- The value of one Port. -/
def PerPort.get {α : Type} (t : PerPort α) : Port → α
  | .panelA => t.panelA
  | .panelB => t.panelB
  | .supervisor => t.supervisor

/-- The table with the value of one Port replaced. -/
def PerPort.set {α : Type} (t : PerPort α) (i : Port) (v : α) : PerPort α :=
  match i with
  | .panelA => { t with panelA := v }
  | .panelB => { t with panelB := v }
  | .supervisor => { t with supervisor := v }

/-- The place of each Port in that order, from 0. -/
def Port.index : Port → Nat
  | .panelA => 0
  | .panelB => 1
  | .supervisor => 2

/-- The table that gives each Port its value. -/
def PerPort.of {α : Type} (f : Port → α) : PerPort α :=
  ⟨f .panelA, f .panelB, f .supervisor⟩

/-- One of the two front panels (R23). -/
inductive Panel where
  | a | b
  deriving DecidableEq, Repr

/-- Every Panel, in the manual's order. -/
def Panel.all : List Panel := [.a, .b]

/-- One value for each Panel. -/
structure PerPanel (α : Type) where
  a : α
  b : α
  deriving DecidableEq, Repr

/-- The value of one Panel. -/
def PerPanel.get {α : Type} (t : PerPanel α) : Panel → α
  | .a => t.a
  | .b => t.b

/-- The table with the value of one Panel replaced. -/
def PerPanel.set {α : Type} (t : PerPanel α) (i : Panel) (v : α) : PerPanel α :=
  match i with
  | .a => { t with a := v }
  | .b => { t with b := v }

/-- The place of each Panel in that order, from 0. -/
def Panel.index : Panel → Nat
  | .a => 0
  | .b => 1

/-- The table that gives each Panel its value. -/
def PerPanel.of {α : Type} (f : Panel → α) : PerPanel α :=
  ⟨f .a, f .b⟩

/-- An electric load L0 to L6 (00_scope.md, Names). -/
inductive Load where
  | l0 | l1 | l2 | l3 | l4 | l5 | l6
  deriving DecidableEq, Repr

/-- Every Load, in the manual's order. -/
def Load.all : List Load := [.l0, .l1, .l2, .l3, .l4, .l5, .l6]

/-- One value for each Load. -/
structure PerLoad (α : Type) where
  l0 : α
  l1 : α
  l2 : α
  l3 : α
  l4 : α
  l5 : α
  l6 : α
  deriving DecidableEq, Repr

/-- The value of one Load. -/
def PerLoad.get {α : Type} (t : PerLoad α) : Load → α
  | .l0 => t.l0
  | .l1 => t.l1
  | .l2 => t.l2
  | .l3 => t.l3
  | .l4 => t.l4
  | .l5 => t.l5
  | .l6 => t.l6

/-- The table with the value of one Load replaced. -/
def PerLoad.set {α : Type} (t : PerLoad α) (i : Load) (v : α) : PerLoad α :=
  match i with
  | .l0 => { t with l0 := v }
  | .l1 => { t with l1 := v }
  | .l2 => { t with l2 := v }
  | .l3 => { t with l3 := v }
  | .l4 => { t with l4 := v }
  | .l5 => { t with l5 := v }
  | .l6 => { t with l6 := v }

/-- The place of each Load in that order, from 0. -/
def Load.index : Load → Nat
  | .l0 => 0
  | .l1 => 1
  | .l2 => 2
  | .l3 => 3
  | .l4 => 4
  | .l5 => 5
  | .l6 => 6

/-- The table that gives each Load its value. -/
def PerLoad.of {α : Type} (f : Load → α) : PerLoad α :=
  ⟨f .l0, f .l1, f .l2, f .l3, f .l4, f .l5, f .l6⟩

/-- A gas point Z1 to Z5 (R22). -/
inductive Gas where
  | z1 | z2 | z3 | z4 | z5
  deriving DecidableEq, Repr

/-- Every Gas, in the manual's order. -/
def Gas.all : List Gas := [.z1, .z2, .z3, .z4, .z5]

/-- One value for each Gas. -/
structure PerGas (α : Type) where
  z1 : α
  z2 : α
  z3 : α
  z4 : α
  z5 : α
  deriving DecidableEq, Repr

/-- The value of one Gas. -/
def PerGas.get {α : Type} (t : PerGas α) : Gas → α
  | .z1 => t.z1
  | .z2 => t.z2
  | .z3 => t.z3
  | .z4 => t.z4
  | .z5 => t.z5

/-- The table with the value of one Gas replaced. -/
def PerGas.set {α : Type} (t : PerGas α) (i : Gas) (v : α) : PerGas α :=
  match i with
  | .z1 => { t with z1 := v }
  | .z2 => { t with z2 := v }
  | .z3 => { t with z3 := v }
  | .z4 => { t with z4 := v }
  | .z5 => { t with z5 := v }

/-- The place of each Gas in that order, from 0. -/
def Gas.index : Gas → Nat
  | .z1 => 0
  | .z2 => 1
  | .z3 => 2
  | .z4 => 3
  | .z5 => 4

/-- The table that gives each Gas its value. -/
def PerGas.of {α : Type} (f : Gas → α) : PerGas α :=
  ⟨f .z1, f .z2, f .z3, f .z4, f .z5⟩

/-- A cooking point, in the order of the Point Table (R22). -/
inductive Point where
  | z1 | z2 | z3 | z4 | z5 | z6 | z7 | ov | gr
  deriving DecidableEq, Repr

/-- Every Point, in the manual's order. -/
def Point.all : List Point := [.z1, .z2, .z3, .z4, .z5, .z6, .z7, .ov, .gr]

/-- One value for each Point. -/
structure PerPoint (α : Type) where
  z1 : α
  z2 : α
  z3 : α
  z4 : α
  z5 : α
  z6 : α
  z7 : α
  ov : α
  gr : α
  deriving DecidableEq, Repr

/-- The value of one Point. -/
def PerPoint.get {α : Type} (t : PerPoint α) : Point → α
  | .z1 => t.z1
  | .z2 => t.z2
  | .z3 => t.z3
  | .z4 => t.z4
  | .z5 => t.z5
  | .z6 => t.z6
  | .z7 => t.z7
  | .ov => t.ov
  | .gr => t.gr

/-- The table with the value of one Point replaced. -/
def PerPoint.set {α : Type} (t : PerPoint α) (i : Point) (v : α) : PerPoint α :=
  match i with
  | .z1 => { t with z1 := v }
  | .z2 => { t with z2 := v }
  | .z3 => { t with z3 := v }
  | .z4 => { t with z4 := v }
  | .z5 => { t with z5 := v }
  | .z6 => { t with z6 := v }
  | .z7 => { t with z7 := v }
  | .ov => { t with ov := v }
  | .gr => { t with gr := v }

/-- The place of each Point in that order, from 0. -/
def Point.index : Point → Nat
  | .z1 => 0
  | .z2 => 1
  | .z3 => 2
  | .z4 => 3
  | .z5 => 4
  | .z6 => 5
  | .z7 => 6
  | .ov => 7
  | .gr => 8

/-- The table that gives each Point its value. -/
def PerPoint.of {α : Type} (f : Point → α) : PerPoint α :=
  ⟨f .z1, f .z2, f .z3, f .z4, f .z5, f .z6, f .z7, f .ov, f .gr⟩

/-- A gate reason (R22, R27). -/
inductive Reason where
  | delay | timerOff | halted | fault | overtemp
  deriving DecidableEq, Repr

/-- Every Reason, in the manual's order. -/
def Reason.all : List Reason := [.delay, .timerOff, .halted, .fault, .overtemp]

/-- One value for each Reason. -/
structure PerReason (α : Type) where
  delay : α
  timerOff : α
  halted : α
  fault : α
  overtemp : α
  deriving DecidableEq, Repr

/-- The value of one Reason. -/
def PerReason.get {α : Type} (t : PerReason α) : Reason → α
  | .delay => t.delay
  | .timerOff => t.timerOff
  | .halted => t.halted
  | .fault => t.fault
  | .overtemp => t.overtemp

/-- The table with the value of one Reason replaced. -/
def PerReason.set {α : Type} (t : PerReason α) (i : Reason) (v : α) : PerReason α :=
  match i with
  | .delay => { t with delay := v }
  | .timerOff => { t with timerOff := v }
  | .halted => { t with halted := v }
  | .fault => { t with fault := v }
  | .overtemp => { t with overtemp := v }

/-- The place of each Reason in that order, from 0. -/
def Reason.index : Reason → Nat
  | .delay => 0
  | .timerOff => 1
  | .halted => 2
  | .fault => 3
  | .overtemp => 4

/-- The table that gives each Reason its value. -/
def PerReason.of {α : Type} (f : Reason → α) : PerReason α :=
  ⟨f .delay, f .timerOff, f .halted, f .fault, f .overtemp⟩

/-- A pause cause (R42). -/
inductive PauseCause where
  | user | halt
  deriving DecidableEq, Repr

/-- Every PauseCause, in the manual's order. -/
def PauseCause.all : List PauseCause := [.user, .halt]

/-- One value for each PauseCause. -/
structure PerPause (α : Type) where
  user : α
  halt : α
  deriving DecidableEq, Repr

/-- The value of one PauseCause. -/
def PerPause.get {α : Type} (t : PerPause α) : PauseCause → α
  | .user => t.user
  | .halt => t.halt

/-- The table with the value of one PauseCause replaced. -/
def PerPause.set {α : Type} (t : PerPause α) (i : PauseCause) (v : α) : PerPause α :=
  match i with
  | .user => { t with user := v }
  | .halt => { t with halt := v }

/-- The place of each PauseCause in that order, from 0. -/
def PauseCause.index : PauseCause → Nat
  | .user => 0
  | .halt => 1

/-- The table that gives each PauseCause its value. -/
def PerPause.of {α : Type} (f : PauseCause → α) : PerPause α :=
  ⟨f .user, f .halt⟩

/-- A sequence channel, SQ-OV or SQ-GR (R74). -/
inductive SeqChan where
  | ov | gr
  deriving DecidableEq, Repr

/-- Every SeqChan, in the manual's order. -/
def SeqChan.all : List SeqChan := [.ov, .gr]

/-- One value for each SeqChan. -/
structure PerSeq (α : Type) where
  ov : α
  gr : α
  deriving DecidableEq, Repr

/-- The value of one SeqChan. -/
def PerSeq.get {α : Type} (t : PerSeq α) : SeqChan → α
  | .ov => t.ov
  | .gr => t.gr

/-- The table with the value of one SeqChan replaced. -/
def PerSeq.set {α : Type} (t : PerSeq α) (i : SeqChan) (v : α) : PerSeq α :=
  match i with
  | .ov => { t with ov := v }
  | .gr => { t with gr := v }

/-- The place of each SeqChan in that order, from 0. -/
def SeqChan.index : SeqChan → Nat
  | .ov => 0
  | .gr => 1

/-- The table that gives each SeqChan its value. -/
def PerSeq.of {α : Type} (f : SeqChan → α) : PerSeq α :=
  ⟨f .ov, f .gr⟩

/-- A sensing channel CAV, GRL, PRB or BRD (R143). -/
inductive Sensor where
  | cav | grl | prb | brd
  deriving DecidableEq, Repr

/-- Every Sensor, in the manual's order. -/
def Sensor.all : List Sensor := [.cav, .grl, .prb, .brd]

/-- One value for each Sensor. -/
structure PerSensor (α : Type) where
  cav : α
  grl : α
  prb : α
  brd : α
  deriving DecidableEq, Repr

/-- The value of one Sensor. -/
def PerSensor.get {α : Type} (t : PerSensor α) : Sensor → α
  | .cav => t.cav
  | .grl => t.grl
  | .prb => t.prb
  | .brd => t.brd

/-- The table with the value of one Sensor replaced. -/
def PerSensor.set {α : Type} (t : PerSensor α) (i : Sensor) (v : α) : PerSensor α :=
  match i with
  | .cav => { t with cav := v }
  | .grl => { t with grl := v }
  | .prb => { t with prb := v }
  | .brd => { t with brd := v }

/-- The place of each Sensor in that order, from 0. -/
def Sensor.index : Sensor → Nat
  | .cav => 0
  | .grl => 1
  | .prb => 2
  | .brd => 3

/-- The table that gives each Sensor its value. -/
def PerSensor.of {α : Type} (f : Sensor → α) : PerSensor α :=
  ⟨f .cav, f .grl, f .prb, f .brd⟩

/-- A hold cause (R173, in the order of R184). -/
inductive Hold where
  | supervisorSilent | timebase | boardOvertemp | supervisorRequest
  deriving DecidableEq, Repr

/-- Every Hold, in the manual's order. -/
def Hold.all : List Hold := [.supervisorSilent, .timebase, .boardOvertemp, .supervisorRequest]

/-- One value for each Hold. -/
structure PerHold (α : Type) where
  supervisorSilent : α
  timebase : α
  boardOvertemp : α
  supervisorRequest : α
  deriving DecidableEq, Repr

/-- The value of one Hold. -/
def PerHold.get {α : Type} (t : PerHold α) : Hold → α
  | .supervisorSilent => t.supervisorSilent
  | .timebase => t.timebase
  | .boardOvertemp => t.boardOvertemp
  | .supervisorRequest => t.supervisorRequest

/-- The table with the value of one Hold replaced. -/
def PerHold.set {α : Type} (t : PerHold α) (i : Hold) (v : α) : PerHold α :=
  match i with
  | .supervisorSilent => { t with supervisorSilent := v }
  | .timebase => { t with timebase := v }
  | .boardOvertemp => { t with boardOvertemp := v }
  | .supervisorRequest => { t with supervisorRequest := v }

/-- The place of each Hold in that order, from 0. -/
def Hold.index : Hold → Nat
  | .supervisorSilent => 0
  | .timebase => 1
  | .boardOvertemp => 2
  | .supervisorRequest => 3

/-- The table that gives each Hold its value. -/
def PerHold.of {α : Type} (f : Hold → α) : PerHold α :=
  ⟨f .supervisorSilent, f .timebase, f .boardOvertemp, f .supervisorRequest⟩

/-- A flag name of the fault record (R181). -/
inductive FaultFlag where
  | selftest | xtal | timebaseLost | timebaseSuspect | supervisorSilent | boardOvertemp | cavOvertemp | grlOvertemp | sensor | probe | memory | drive | stuckOn | valve | valveUnexpected
  deriving DecidableEq, Repr

/-- Every FaultFlag, in the manual's order. -/
def FaultFlag.all : List FaultFlag := [.selftest, .xtal, .timebaseLost, .timebaseSuspect, .supervisorSilent, .boardOvertemp, .cavOvertemp, .grlOvertemp, .sensor, .probe, .memory, .drive, .stuckOn, .valve, .valveUnexpected]

/-- One value for each FaultFlag. -/
structure PerFlag (α : Type) where
  selftest : α
  xtal : α
  timebaseLost : α
  timebaseSuspect : α
  supervisorSilent : α
  boardOvertemp : α
  cavOvertemp : α
  grlOvertemp : α
  sensor : α
  probe : α
  memory : α
  drive : α
  stuckOn : α
  valve : α
  valveUnexpected : α
  deriving DecidableEq, Repr

/-- The value of one FaultFlag. -/
def PerFlag.get {α : Type} (t : PerFlag α) : FaultFlag → α
  | .selftest => t.selftest
  | .xtal => t.xtal
  | .timebaseLost => t.timebaseLost
  | .timebaseSuspect => t.timebaseSuspect
  | .supervisorSilent => t.supervisorSilent
  | .boardOvertemp => t.boardOvertemp
  | .cavOvertemp => t.cavOvertemp
  | .grlOvertemp => t.grlOvertemp
  | .sensor => t.sensor
  | .probe => t.probe
  | .memory => t.memory
  | .drive => t.drive
  | .stuckOn => t.stuckOn
  | .valve => t.valve
  | .valveUnexpected => t.valveUnexpected

/-- The table with the value of one FaultFlag replaced. -/
def PerFlag.set {α : Type} (t : PerFlag α) (i : FaultFlag) (v : α) : PerFlag α :=
  match i with
  | .selftest => { t with selftest := v }
  | .xtal => { t with xtal := v }
  | .timebaseLost => { t with timebaseLost := v }
  | .timebaseSuspect => { t with timebaseSuspect := v }
  | .supervisorSilent => { t with supervisorSilent := v }
  | .boardOvertemp => { t with boardOvertemp := v }
  | .cavOvertemp => { t with cavOvertemp := v }
  | .grlOvertemp => { t with grlOvertemp := v }
  | .sensor => { t with sensor := v }
  | .probe => { t with probe := v }
  | .memory => { t with memory := v }
  | .drive => { t with drive := v }
  | .stuckOn => { t with stuckOn := v }
  | .valve => { t with valve := v }
  | .valveUnexpected => { t with valveUnexpected := v }

/-- The place of each FaultFlag in that order, from 0. -/
def FaultFlag.index : FaultFlag → Nat
  | .selftest => 0
  | .xtal => 1
  | .timebaseLost => 2
  | .timebaseSuspect => 3
  | .supervisorSilent => 4
  | .boardOvertemp => 5
  | .cavOvertemp => 6
  | .grlOvertemp => 7
  | .sensor => 8
  | .probe => 9
  | .memory => 10
  | .drive => 11
  | .stuckOn => 12
  | .valve => 13
  | .valveUnexpected => 14

/-- The table that gives each FaultFlag its value. -/
def PerFlag.of {α : Type} (f : FaultFlag → α) : PerFlag α :=
  ⟨f .selftest, f .xtal, f .timebaseLost, f .timebaseSuspect, f .supervisorSilent, f .boardOvertemp, f .cavOvertemp, f .grlOvertemp, f .sensor, f .probe, f .memory, f .drive, f .stuckOn, f .valve, f .valveUnexpected⟩

/-- A fault flag without members (R181). -/
inductive PlainFlag where
  | selftest | xtal | timebaseLost | timebaseSuspect | supervisorSilent | boardOvertemp | cavOvertemp | grlOvertemp | sensor | probe | memory
  deriving DecidableEq, Repr

/-- Every PlainFlag, in the manual's order. -/
def PlainFlag.all : List PlainFlag := [.selftest, .xtal, .timebaseLost, .timebaseSuspect, .supervisorSilent, .boardOvertemp, .cavOvertemp, .grlOvertemp, .sensor, .probe, .memory]

/-- One value for each PlainFlag. -/
structure PerPlain (α : Type) where
  selftest : α
  xtal : α
  timebaseLost : α
  timebaseSuspect : α
  supervisorSilent : α
  boardOvertemp : α
  cavOvertemp : α
  grlOvertemp : α
  sensor : α
  probe : α
  memory : α
  deriving DecidableEq, Repr

/-- The value of one PlainFlag. -/
def PerPlain.get {α : Type} (t : PerPlain α) : PlainFlag → α
  | .selftest => t.selftest
  | .xtal => t.xtal
  | .timebaseLost => t.timebaseLost
  | .timebaseSuspect => t.timebaseSuspect
  | .supervisorSilent => t.supervisorSilent
  | .boardOvertemp => t.boardOvertemp
  | .cavOvertemp => t.cavOvertemp
  | .grlOvertemp => t.grlOvertemp
  | .sensor => t.sensor
  | .probe => t.probe
  | .memory => t.memory

/-- The table with the value of one PlainFlag replaced. -/
def PerPlain.set {α : Type} (t : PerPlain α) (i : PlainFlag) (v : α) : PerPlain α :=
  match i with
  | .selftest => { t with selftest := v }
  | .xtal => { t with xtal := v }
  | .timebaseLost => { t with timebaseLost := v }
  | .timebaseSuspect => { t with timebaseSuspect := v }
  | .supervisorSilent => { t with supervisorSilent := v }
  | .boardOvertemp => { t with boardOvertemp := v }
  | .cavOvertemp => { t with cavOvertemp := v }
  | .grlOvertemp => { t with grlOvertemp := v }
  | .sensor => { t with sensor := v }
  | .probe => { t with probe := v }
  | .memory => { t with memory := v }

/-- The place of each PlainFlag in that order, from 0. -/
def PlainFlag.index : PlainFlag → Nat
  | .selftest => 0
  | .xtal => 1
  | .timebaseLost => 2
  | .timebaseSuspect => 3
  | .supervisorSilent => 4
  | .boardOvertemp => 5
  | .cavOvertemp => 6
  | .grlOvertemp => 7
  | .sensor => 8
  | .probe => 9
  | .memory => 10

/-- The table that gives each PlainFlag its value. -/
def PerPlain.of {α : Type} (f : PlainFlag → α) : PerPlain α :=
  ⟨f .selftest, f .xtal, f .timebaseLost, f .timebaseSuspect, f .supervisorSilent, f .boardOvertemp, f .cavOvertemp, f .grlOvertemp, f .sensor, f .probe, f .memory⟩

/-- An event class, in the order of its bits (R199). -/
inductive EventClass where
  | timerExpired | timerStarted | timerOrphaned | alertChanged | shortfall | pointChanged | seqChanged | memoryDone | faultChanged | stateChanged | feedback | timebaseChanged
  deriving DecidableEq, Repr

/-- Every EventClass, in the manual's order. -/
def EventClass.all : List EventClass := [.timerExpired, .timerStarted, .timerOrphaned, .alertChanged, .shortfall, .pointChanged, .seqChanged, .memoryDone, .faultChanged, .stateChanged, .feedback, .timebaseChanged]

/-- One value for each EventClass. -/
structure PerEvent (α : Type) where
  timerExpired : α
  timerStarted : α
  timerOrphaned : α
  alertChanged : α
  shortfall : α
  pointChanged : α
  seqChanged : α
  memoryDone : α
  faultChanged : α
  stateChanged : α
  feedback : α
  timebaseChanged : α
  deriving DecidableEq, Repr

/-- The value of one EventClass. -/
def PerEvent.get {α : Type} (t : PerEvent α) : EventClass → α
  | .timerExpired => t.timerExpired
  | .timerStarted => t.timerStarted
  | .timerOrphaned => t.timerOrphaned
  | .alertChanged => t.alertChanged
  | .shortfall => t.shortfall
  | .pointChanged => t.pointChanged
  | .seqChanged => t.seqChanged
  | .memoryDone => t.memoryDone
  | .faultChanged => t.faultChanged
  | .stateChanged => t.stateChanged
  | .feedback => t.feedback
  | .timebaseChanged => t.timebaseChanged

/-- The table with the value of one EventClass replaced. -/
def PerEvent.set {α : Type} (t : PerEvent α) (i : EventClass) (v : α) : PerEvent α :=
  match i with
  | .timerExpired => { t with timerExpired := v }
  | .timerStarted => { t with timerStarted := v }
  | .timerOrphaned => { t with timerOrphaned := v }
  | .alertChanged => { t with alertChanged := v }
  | .shortfall => { t with shortfall := v }
  | .pointChanged => { t with pointChanged := v }
  | .seqChanged => { t with seqChanged := v }
  | .memoryDone => { t with memoryDone := v }
  | .faultChanged => { t with faultChanged := v }
  | .stateChanged => { t with stateChanged := v }
  | .feedback => { t with feedback := v }
  | .timebaseChanged => { t with timebaseChanged := v }

/-- The place of each EventClass in that order, from 0. -/
def EventClass.index : EventClass → Nat
  | .timerExpired => 0
  | .timerStarted => 1
  | .timerOrphaned => 2
  | .alertChanged => 3
  | .shortfall => 4
  | .pointChanged => 5
  | .seqChanged => 6
  | .memoryDone => 7
  | .faultChanged => 8
  | .stateChanged => 9
  | .feedback => 10
  | .timebaseChanged => 11

/-- The table that gives each EventClass its value. -/
def PerEvent.of {α : Type} (f : EventClass → α) : PerEvent α :=
  ⟨f .timerExpired, f .timerStarted, f .timerOrphaned, f .alertChanged, f .shortfall, f .pointChanged, f .seqChanged, f .memoryDone, f .faultChanged, f .stateChanged, f .feedback, f .timebaseChanged⟩

/-! ## Fields of requests, as sent -/

/-- A timer handle: slot number and generation (R43, R202). -/
structure Handle where
  slot : Byte
  gen : Byte
  deriving DecidableEq, Repr

/-- The start condition of TIMER_CREATE and SEQ_START (R42, R80, R202); `beyond` is a form byte past its forms. -/
inductive StartField where
  | immediate
  | atTime (start : Nat)
  | atTemp (threshold : Int)
  | afterLeader (leader : Handle) (threshold : Option Int)
  | beyond
  deriving DecidableEq, Repr

/-- The demand of POINT_DEMAND (R25): the value sent for a gas point (0 ON, 1 OFF), or a list of duties. -/
inductive DemandField where
  | gas (value : Nat)
  | duties (ds : List Nat)
  deriving DecidableEq, Repr

/-- A step of a cooking program as sent (R76, R77): duration, element mask as a bitmap, duty cap, end action. -/
structure StepField where
  duration : Nat
  mask : Nat
  cap : Nat
  action : Nat
  deriving DecidableEq, Repr

/-- What POINT_READ names (R39): a point, ALL, or a form byte past the two. -/
inductive PointField where
  | point (code : Nat)
  | all
  | beyond
  deriving DecidableEq, Repr

/-- The filter of TIMER_LIST (R66): an owner, a point, or a form byte past the two. -/
inductive FilterField where
  | owner (code : Nat)
  | point (code : Nat)
  | beyond
  deriving DecidableEq, Repr

/-- What SEQ_READ names (R86): a channel, MEMORY, or a form byte past the two. -/
inductive ChannelField where
  | channel (code : Nat)
  | memory
  | beyond
  deriving DecidableEq, Repr

/-- The verifier mode of VERIFY_SET (R133): OFF, FIXED with a load, AUTO, or a form byte past the three. -/
inductive ModeField where
  | off
  | fixed (load : Nat)
  | auto
  | beyond
  deriving DecidableEq, Repr

/-- The designator of ALERT_ACK (R162): a timer handle, a system cause 1 to 8 (R205), OLDEST, or no designator. -/
inductive AckField where
  | timer (h : Handle)
  | cause (code : Nat)
  | oldest
  | beyond
  deriving DecidableEq, Repr

/-- The flags of FAULT_CLEAR (R182): a list of flag names by number, ALL, or a form byte past the two. -/
inductive FlagsField where
  | flags (codes : List Nat)
  | all
  | beyond
  deriving DecidableEq, Repr

/-- An entry of CFG_LOADS (R97): a load with its optional rated power, carry (0 ON, 1 OFF) and pin (0xFF is NONE). -/
structure LoadField where
  load : Nat
  power : Option Nat
  carry : Option Nat
  pin : Option Nat
  deriving DecidableEq, Repr

/-- A calibration entry of SENSE_CONFIG (R154): a channel with a gain, an offset, or both. -/
structure CalField where
  channel : Nat
  gain : Option Nat
  offset : Option Int
  deriving DecidableEq, Repr

/-- An entry of CFG_ASSIGN (R38): a point and a role, by their codes (R202). -/
structure AssignField where
  point : Nat
  role : Nat
  deriving DecidableEq, Repr

/-- The fields of TIMER_CREATE (R48). The kind is 0 MINDER, 1 COOK_END, 2 DELAY_START, 3 STEP; point 0 and level 0 stand
for an absent field (R202). -/
structure TimerFields where
  kind : Nat
  point : Nat
  duration : Nat
  start : StartField
  probe : Option Int
  level : Nat
  deriving DecidableEq, Repr

/-! ## What events carry -/

/-- The stores of the march test (R180). -/
inductive StoreName where
  | timerStore
  | planStore
  deriving DecidableEq, Repr

/-- What the self-test finds in the hardware (R180): the store of a word that read back wrong, whether the planner's
answer to the reference problem came out other than its arithmetic gives, and the lines read out of their off state,
bit `i` for the `i`-th line of the readback order. -/
structure SelfTestFindings where
  march : Option StoreName
  plannerFault : Bool
  lines : BitVec 28
  deriving DecidableEq, Repr

/-- How an attempt of a read burst ends (R90): 16 data bytes, or no acknowledge in the address stage. -/
inductive BurstEnd where
  | read (data : List Byte)
  | noAddressAck
  deriving DecidableEq, Repr

/-- How an attempt of a page write ends (R92): written, or no acknowledge in the address stage or on a data byte. -/
inductive PageEnd where
  | written
  | noAddressAck
  | noDataAck
  deriving DecidableEq, Repr

/-! ## The commands -/

/-- A command of the PZ-740, one constructor for each row of the table of operations and events. Events carry what the
part reads at its inputs; requests carry the port they arrived on and their fields. -/
inductive Instr where
  /-- COLD_RESET (R179). -/
  | coldReset
  /-- SELFTEST_END (R179, R180). -/
  | selftestEnd (found : SelfTestFindings)
  /-- SELFTEST_TIME_LIMIT (R179). -/
  | selftestTimeLimit
  /-- SLICE_BOUNDARY (R2): crystal cycles, mains edges and RC cycles counted in the slice that ends. -/
  | sliceBoundary (x m c : Nat)
  /-- VALVE_GRACE_OVER (R126). -/
  | valveGraceOver
  /-- DRIVE_TEST_COMPLETE (R137). -/
  | driveTestComplete
  /-- WINDOW_END (R6). -/
  | windowEnd
  /-- CRYSTAL_STOP (R5, R13). -/
  | crystalStop
  /-- CRYSTAL_START (R5). -/
  | crystalStart
  /-- MAINS_LOST (R4, R13). -/
  | mainsLost
  /-- MAINS_PRESENT (R4). -/
  | mainsPresent
  /-- SLICE_MIDDLE_SAMPLE (R125): contacts closed and valves open. -/
  | sliceMiddleSample (closed : PerLoad Bool) (opened : PerGas Bool)
  /-- PASS_COMPLETE (R110). -/
  | passComplete
  /-- TIMER_EXPIRY (R53). -/
  | timerExpiry
  /-- TIMER_START_AT_TIME (R49). -/
  | timerStartAtTime
  /-- TIMER_START_AT_TEMP (R49). -/
  | timerStartAtTemp
  /-- PROBE_STOP (R57). -/
  | probeStop
  /-- CONVERSION_END (R146): the raw samples of the conversion. -/
  | conversionEnd (samples : List (BitVec 10))
  /-- ALERT_SILENCE (R159). -/
  | alertSilence
  /-- FRAME_RECEIVED (R188): the CRC byte that ends a frame. -/
  | frameReceived (p : Port) (crc : Byte)
  /-- GAP_TIMEOUT (R188). -/
  | gapTimeout (p : Port)
  /-- FRAME_ERR (R188). -/
  | frameErr (p : Port)
  /-- BREAK (R190). -/
  | lineBreak (p : Port)
  /-- REPLY_SENT (R189). -/
  | replySent (p : Port)
  /-- PRESENCE_TIMEOUT (R195). -/
  | presenceTimeout (p : Panel)
  /-- WATCHDOG_EXPIRY (R196). -/
  | watchdogExpiry
  /-- BUS_LINES_FREE (R88). -/
  | busLinesFree
  /-- BUS_FREE_TIMEOUT (R88). -/
  | busFreeTimeout
  /-- CLOCK_STRETCH_TIMEOUT (R88). -/
  | clockStretchTimeout
  /-- READ_BURST_END (R90). -/
  | readBurstEnd (result : BurstEnd)
  /-- RETRY_WAIT_EXPIRY (R90). -/
  | retryWaitExpiry
  /-- PAGE_WRITE_END (R92). -/
  | pageWriteEnd (result : PageEnd)
  /-- WRITE_POLL (R92): whether the device address was acknowledged. -/
  | writePoll (acknowledged : Bool)
  /-- CLOCK_SET (R17). -/
  | clockSet (p : Port) (time : Nat)
  /-- CLOCK_READ (R18). -/
  | clockRead (p : Port)
  /-- TIMEBASE_READ (R18). -/
  | timebaseRead (p : Port)
  /-- POINT_DEMAND (R25). -/
  | pointDemand (p : Port) (point : Nat) (demand : DemandField)
  /-- POINT_READ (R39). -/
  | pointRead (p : Port) (what : PointField)
  /-- TIMER_CREATE (R48). -/
  | timerCreate (p : Port) (fields : TimerFields)
  /-- TIMER_ADJUST (R60). -/
  | timerAdjust (p : Port) (h : Handle) (delta : Int)
  /-- TIMER_PAUSE (R62). -/
  | timerPause (p : Port) (h : Handle)
  /-- TIMER_RESUME (R62). -/
  | timerResume (p : Port) (h : Handle)
  /-- TIMER_CANCEL (R63). -/
  | timerCancel (p : Port) (h : Handle)
  /-- TIMER_ADOPT (R68). -/
  | timerAdopt (p : Port) (h : Handle)
  /-- TIMER_READ (R66). -/
  | timerRead (p : Port) (h : Handle)
  /-- TIMER_LIST (R66). -/
  | timerList (p : Port) (filter : Option FilterField)
  /-- SEQ_LOAD (R78). -/
  | seqLoad (p : Port) (channel : Nat) (index : Nat)
  /-- SEQ_STORE (R77). -/
  | seqStore (p : Port) (channel : Nat) (steps : List StepField)
  /-- SEQ_START (R80). -/
  | seqStart (p : Port) (channel : Nat) (start : StartField)
  /-- SEQ_PAUSE (R84). -/
  | seqPause (p : Port) (channel : Nat)
  /-- SEQ_RESUME (R84). -/
  | seqResume (p : Port) (channel : Nat)
  /-- SEQ_ABORT (R85). -/
  | seqAbort (p : Port) (channel : Nat)
  /-- SEQ_READ (R86, R94). -/
  | seqRead (p : Port) (what : ChannelField)
  /-- LIB_WRITE (R91). -/
  | libWrite (p : Port) (index : Nat) (kind : Nat) (steps : List StepField)
  /-- PLAN_READ (R118): 0 ACTIVE, 1 PENDING. -/
  | planRead (p : Port) (which : Nat)
  /-- FEEDBACK_READ (R140). -/
  | feedbackRead (p : Port)
  /-- VERIFY_SET (R133). -/
  | verifySet (p : Port) (mode : Option ModeField) (tolerance relayMask valveMask : Option Nat)
  /-- DRIVE_TEST (R135). -/
  | driveTest (p : Port) (mask : Nat) (length : Nat)
  /-- DRIVE_TEST_ABORT (R139). -/
  | driveTestAbort (p : Port)
  /-- SENSE_READ (R155). -/
  | senseRead (p : Port)
  /-- SENSE_CONFIG (R154). -/
  | senseConfig (p : Port) (mask averaging : Option Nat) (cal : Option (List CalField)) (restore : Bool)
  /-- ALERT_LIST (R169). -/
  | alertList (p : Port)
  /-- ALERT_ACK (R162). -/
  | alertAck (p : Port) (what : AckField)
  /-- CFG_LOADS (R97). -/
  | cfgLoads (p : Port) (entries : List LoadField)
  /-- CFG_BUDGET (R98). -/
  | cfgBudget (p : Port) (watts : Nat)
  /-- CFG_ASSIGN (R38). -/
  | cfgAssign (p : Port) (entries : List AssignField)
  /-- CFG_RANK (R37): four points by their codes. -/
  | cfgRank (p : Port) (first second third fourth : Nat)
  /-- CFG_LIMITS (R151). -/
  | cfgLimits (p : Port) (cav grl : Option Int)
  /-- CFG_TIMEBASE (R19): the override is 0 AUTO, 1 for 50, 2 for 60. -/
  | cfgTimebase (p : Port) (mode tolerance : Option Nat)
  /-- CFG_MEMORY (R87). -/
  | cfgMemory (p : Port) (device base : Option Nat)
  /-- CFG_PORTS (R197). -/
  | cfgPorts (p : Port) (a b watchdog : Option Nat)
  /-- CFG_COMMIT (R176). -/
  | cfgCommit (p : Port)
  /-- STATE_READ (R184). -/
  | stateRead (p : Port)
  /-- HOLD_REQUEST (R174). -/
  | holdRequest (p : Port)
  /-- RESUME (R175). -/
  | resume (p : Port)
  /-- RESTART (R177). -/
  | restart (p : Port)
  /-- FAULT_READ (R185). -/
  | faultRead (p : Port)
  /-- FAULT_CLEAR (R182). -/
  | faultClear (p : Port) (flags : FlagsField)
  /-- FAULT_MASK (R183): the new mask as a bitmap. -/
  | faultMask (p : Port) (mask : Nat)
  /-- EVENTS_READ (R200). -/
  | eventsRead (p : Port)
  /-- EVENTS_CLEAR (R200): classes as a bitmap. -/
  | eventsClear (p : Port) (classes : Nat)
  /-- EVENTS_MASK (R200): classes as a bitmap. -/
  | eventsMask (p : Port) (classes : Nat)
  /-- COUNTERS_READ (R194): the port named, 0 A, 1 B, 2 C. -/
  | countersRead (p : Port) (port : Option Nat)
  /-- COUNTERS_CLEAR (R194). -/
  | countersClear (p : Port)
  /-- BYTE_RECEIVED (R188). -/
  | byteReceived (p : Port) (b : Byte)
  /-- LINE_HIGH_AFTER_BREAK (R190). -/
  | lineHighAfterBreak (p : Port)
  deriving DecidableEq, Repr

end Sys2Proof
end

