-- ==== Sys2Proof/Machine/State.lean ====
section
/-! DEFINITION. State as plain data, block by block as 00_scope.md cuts them, and State.reset. A value another value
determines is stored once: the gate of a point is its reason set being empty (R27), PAUSED is a started slot with a pause
cause (R45). -/

namespace Sys2Proof.Machine

/-! ## Timebase Unit (R1 to R21) -/

/-- The active source (R1). -/
inductive Source where
  | xtal | mains | rc
  deriving DecidableEq, Repr

/-- A nominal mains frequency (R8); UNKNOWN is the absence of one. -/
inductive Nominal where
  | hz50 | hz60
  deriving DecidableEq, Repr

/-- The crystal status (R5). -/
inductive CrystalStatus where
  | unqualified | qualified | failed
  deriving DecidableEq, Repr

/-- A cross-check window (R6): the counts M, X and C; whether mains was present and the crystal ran throughout so far;
whether the nominal has been known from its start (R7); whether it may detect the nominal (R9, log 21). -/
structure Window where
  m : Nat
  x : Nat
  c : Nat
  mains : Bool
  crystal : Bool
  known : Bool
  detect : Bool
  deriving DecidableEq, Repr

/-- The result of a window (R6, R18). -/
inductive WindowResult where
  | agree | disagree | grossFail | notEvaluated
  deriving DecidableEq, Repr

/-- The last window evaluated (R18): its result, M, R (absent when X is 0), G, and the notice MAINS_OFF_NOMINAL (R10). -/
structure LastWindow where
  result : WindowResult
  m : Nat
  r : Option Nat
  g : Nat
  offNominal : Bool
  deriving DecidableEq, Repr

structure Tbu where
  /-- active source (R1) -/
  source : Source
  /-- slice counter (R2) -/
  slice : Fin 40
  /-- seconds counter (R3) -/
  seconds : BitVec 32
  /-- time of day, `none` for UNSET (R16) -/
  timeOfDay : Option Nat
  /-- mains present (R4) -/
  mainsPresent : Bool
  /-- crystal running (R5) -/
  crystalRunning : Bool
  /-- crystal status (R5) -/
  crystal : CrystalStatus
  /-- detected nominal, `none` for UNKNOWN (R8) -/
  detected : Option Nominal
  /-- override, `none` for AUTO (R9) -/
  forced : Option Nominal
  /-- tolerance W (R19) -/
  tolerance : Nat
  /-- nominal in use at the start of the slice (R1, R9) -/
  sliceNominal : Option Nominal
  /-- crystal running throughout the slice so far (R11) -/
  sliceCrystal : Bool
  /-- window in progress, `none` between a source switch and the next boundary into slice 0 or 20 (R6) -/
  window : Option Window
  /-- window that the last boundary ended, with its source, until WINDOW_END evaluates it (log 7) -/
  ended : Option (Source × Window)
  /-- qualification, agreement and disagreement run (R11, R12, R10) -/
  qualRun : Nat
  agreeRun : Nat
  disagreeRun : Nat
  /-- last window (R18) -/
  last : Option LastWindow
  deriving DecidableEq, Repr

/-! ## Point Controller (R22 to R41) -/

/-- An electric point (R22). -/
inductive EPoint where
  | z6 | z7 | ov | gr
  deriving DecidableEq, Repr

/-- The members of the fault attribution sets of all points (R31): each member belongs to one point. -/
structure Attribution where
  drive : PerLoad Bool
  stuckOn : PerLoad Bool
  valveUnexpected : PerGas Bool
  valve : PerGas Bool
  sensorCav : Bool
  sensorGrl : Bool
  deriving DecidableEq, Repr

/-- The rank list (R37), from first to last. -/
structure Rank where
  first : EPoint
  second : EPoint
  third : EPoint
  fourth : EPoint
  deriving DecidableEq, Repr

structure Ptc where
  /-- owning panels (R23) -/
  panel : PerPoint Panel
  /-- demand of the gas points, `true` for ON (R24) -/
  gas : PerGas Bool
  /-- stored duty of each load (R24) -/
  duty : PerLoad Nat
  /-- gate reason sets (R27) -/
  reasons : PerPoint (PerReason Bool)
  /-- fault attribution sets (R31) -/
  attribution : Attribution
  /-- rank list (R37) -/
  rank : Rank
  deriving DecidableEq, Repr

/-! ## Timer Engine (R42 to R73) -/

/-- The kind of a timer (R44). -/
inductive Kind where
  | minder | cookEnd | delayStart | step
  deriving DecidableEq, Repr

/-- The owner of a timer (R47): a role, a sequence channel, or NONE. -/
inductive Owner where
  | role (p : Port)
  | channel (c : SeqChan)
  | nobody
  deriving DecidableEq, Repr

/-- Whether a timer has not started, has started, or has run out. A started timer is PAUSED while it holds a pause cause
and RUNNING otherwise (R45). -/
inductive Phase where
  | waiting | started | expired
  deriving DecidableEq, Repr

/-- The start condition of a timer (R42). A leader's handle leaves the condition when the leader expires (R50). -/
inductive Start where
  | immediate
  | atTime (start : Nat) (toStart : Nat)
  | atTemp (threshold : Int)
  | afterLeader (leader : Option Handle) (threshold : Option Int)
  deriving DecidableEq, Repr

/-- How a timer ended (R53). -/
inductive EndCause where
  | time | probe
  deriving DecidableEq, Repr

/-- The record of a non-FREE slot (R42). Level 0 is an absent alert level. `tickDue` says that the second tick in progress
brings the slot to 0 (log 5), `tempMark` that the last reading of its point's channel reached its AT_TEMP threshold, and
`probeMark` that the last PRB reading reached its PROBE stop (log 6). -/
structure Timer where
  kind : Kind
  point : Option Point
  owner : Owner
  phase : Phase
  duration : Nat
  remaining : Nat
  start : Start
  probe : Option Int
  follower : Option Handle
  pause : PerPause Bool
  level : Nat
  endCause : Option EndCause
  tickDue : Bool
  tempMark : Bool
  probeMark : Bool
  deriving DecidableEq, Repr

/-- A slot of the Timer Table: its generation, and its record while it is not FREE (R42). -/
structure Slot where
  gen : Byte
  timer : Option Timer
  deriving DecidableEq, Repr

structure Tme where
  /-- the 24 slots, in order (R42) -/
  slots : List Slot
  /-- the halt in force (R69) -/
  halt : Bool
  deriving DecidableEq, Repr

/-! ## Sequence Unit (R74 to R86) -/

/-- The end action of a step (R76). -/
inductive EndAction where
  | next | pauseForAck
  deriving DecidableEq, Repr

/-- A step of a cooking program (R76). The element mask is the bitmap of R206: bit `i` for L`i`. -/
structure Step where
  duration : Nat
  mask : Byte
  cap : Nat
  action : EndAction
  deriving DecidableEq, Repr

/-- The state of a channel (R74). -/
inductive ChanState where
  | empty | loading | ready | active | waitingAck | done | failed
  deriving DecidableEq, Repr

/-- Where a channel's steps came from (R74). -/
inductive StepSource where
  | stored
  | library (index : Nat)
  deriving DecidableEq, Repr

/-- Why the last load gave no program (R74). -/
inductive FailCause where
  | memNack | memBus | badRecord | wrongPoint
  deriving DecidableEq, Repr

/-- A channel record (R74). The step count is the length of the buffer; the current step counts from 1. -/
structure Channel where
  state : ChanState
  steps : List Step
  source : Option StepSource
  current : Option Nat
  slot : Option Handle
  control : Option Port
  fail : Option FailCause
  deriving DecidableEq, Repr

/-! ## Program Memory Controller (R87 to R95) -/

/-- The bus state (R88). -/
inductive BusState where
  | idle | waitFree | transfer | retryWait | pollWait
  deriving DecidableEq, Repr

/-- Who may have a job in the queue (R89). -/
inductive Requester where
  | channel (c : SeqChan)
  | supervisor
  deriving DecidableEq, Repr

/-- The kind of a job (R89): a READ with its issuing role, a WRITE with its 64-byte record. -/
inductive JobKind where
  | read (issuer : Port)
  | write (record : List Byte)
  deriving DecidableEq, Repr

/-- A memory job (R89). -/
structure Job where
  kind : JobKind
  index : Nat
  requester : Requester
  discard : Bool
  deriving DecidableEq, Repr

/-- The outcome of a job (R93). -/
inductive JobEnd where
  | ok | memNack | memTimeout | memBus | memVerify
  deriving DecidableEq, Repr

/-- The transfer a job is at: page `j` of a write or burst `j` of a read or readback (R90, R92). -/
inductive Transfer where
  | page (j : Nat)
  | burst (j : Nat)
  deriving DecidableEq, Repr

/-- The progress of the job in flight: its transfer, the attempts of it that failed, the unacknowledged polls, the bytes
read so far, and the settings it started with (R87, R90, R92). -/
structure Progress where
  transfer : Transfer
  attempts : Nat
  polls : Nat
  bytes : List Byte
  device : Nat
  base : Nat
  deriving DecidableEq, Repr

/-- The last result of each requester (R93, R94). -/
structure Results where
  ov : Option (JobEnd × Nat)
  gr : Option (JobEnd × Nat)
  supervisor : Option (JobEnd × Nat)
  deriving DecidableEq, Repr

structure Pmc where
  /-- device address and library base (R87) -/
  device : Nat
  base : Nat
  /-- bus state (R88) -/
  bus : BusState
  /-- job queue, oldest first; the oldest is in flight (R89) -/
  jobs : List Job
  /-- progress of the job in flight -/
  progress : Progress
  /-- last result per requester (R93) -/
  results : Results
  deriving DecidableEq, Repr

/-! ## Slice Planner (R96 to R120) -/

/-- A Load Table record (R96); power 0 is a load not fitted. -/
structure LoadRecord where
  power : Nat
  carry : Bool
  pin : Option Nat
  deriving DecidableEq, Repr

/-- A plan entry (R99). -/
structure Entry where
  d : Nat
  r : Nat
  g : Nat
  s : Option Nat
  p : Nat
  pinned : Bool
  shortfall : Bool
  deriving DecidableEq, Repr

/-- A plan record (R99). -/
structure Plan where
  serial : BitVec 16
  budget : Nat
  entries : PerLoad Entry
  deriving DecidableEq, Repr

/-- The restriction a channel presents for a load (R76). -/
inductive Restriction where
  | free
  | capped (cap : Nat)
  | held
  deriving DecidableEq, Repr

/-- What a pass reads of one load (R108): its point's gate, its stored duty, its restriction, its Load Table record, its
arrears, and its run in the active plan. -/
structure LoadInput where
  gateOpen : Bool
  duty : Nat
  restriction : Restriction
  record : LoadRecord
  arrears : Nat
  start : Option Nat
  grant : Nat
  deriving DecidableEq, Repr

/-- The snapshot of a pass (R108), with its serial. -/
structure Snapshot where
  serial : BitVec 16
  running : Bool
  loads : PerLoad LoadInput
  budget : Nat
  rank : Rank
  deriving DecidableEq, Repr

/-- The pending status with what the pending record or the pass in flight holds (R99, R108). -/
inductive Pending where
  | none
  | building (snapshot : Snapshot)
  | complete (plan : Plan)
  deriving DecidableEq, Repr

structure Spl where
  /-- Load Table (R96) -/
  loads : PerLoad LoadRecord
  /-- budget (R98) -/
  budget : Nat
  /-- active plan (R99) -/
  active : Plan
  /-- pending status, record and pass in flight (R99, R108) -/
  pending : Pending
  /-- serial of the last pass started (R108) -/
  serial : BitVec 16
  /-- arrears (R103) -/
  arrears : PerLoad Nat
  /-- withdrawal set (R115) -/
  withdrawals : PerLoad Bool
  /-- repeat counter (R112) -/
  repeats : Nat
  deriving DecidableEq, Repr

/-! ## Drive Unit (R121 to R142) -/

/-- A sample (R125): the slice, the contacts closed, the valves open, and the lines driven in it. -/
structure Sample where
  slice : Fin 40
  closed : PerLoad Bool
  opened : PerGas Bool
  en : PerLoad Bool
  gp : PerGas Bool
  deriving DecidableEq, Repr

/-- The RELAY conformity group (R127). -/
structure RelayGroup where
  mask : PerLoad Bool
  mismatch : Bool
  recorded : Option Load
  deriving DecidableEq, Repr

/-- The VALVE conformity group (R127). -/
structure ValveGroup where
  mask : PerGas Bool
  mismatch : Bool
  recorded : Option Gas
  deriving DecidableEq, Repr

/-- The valve grace of a gas point (R126). -/
inductive Grace where
  | none
  | counting (n : Nat)
  | over
  deriving DecidableEq, Repr

/-- The verifier mode (R132). -/
inductive VerifierMode where
  | off
  | fixed (l : Load)
  | auto
  deriving DecidableEq, Repr

/-- The verifier's last result (R132). -/
structure VerifierResult where
  load : Load
  count : Nat
  pass : Bool
  deriving DecidableEq, Repr

/-- The verifier (R132); its count is in `Counts`, the standings in `Dru`. -/
structure Verifier where
  mode : VerifierMode
  tolerance : Nat
  verified : Option Load
  position : Option Load
  usable : Bool
  last : Option VerifierResult
  deriving DecidableEq, Repr

/-- The verification standing of a load (R132). -/
inductive Standing where
  | none | pass | fail
  deriving DecidableEq, Repr

/-- The counts that a slice adds to at most once (R125). -/
structure Counts where
  /-- unexpected-open run (R129) -/
  openRun : PerGas Nat
  /-- verifier count (R132) -/
  verify : Nat
  /-- driven count and closed-while-low count (R134) -/
  driven : PerLoad Nat
  closedLow : PerLoad Nat
  /-- drive-test counts (R136) -/
  test : PerLoad Nat
  deriving DecidableEq, Repr

/-- The status of the drive-test record (R138). -/
inductive TestStatus where
  | none | running | complete | aborted
  deriving DecidableEq, Repr

/-- A bar: its load and a number of slices (R135). -/
structure Bar where
  load : Load
  slices : Nat
  deriving DecidableEq, Repr

/-- The drive-test record (R138): the bars as given, whether the first has begun, and the bars not yet ended, the first of
them the bar in progress with its slices left. The test counts are in `Counts`. -/
structure DriveTest where
  status : TestStatus
  mask : PerLoad Bool
  length : Nat
  bars : List Bar
  begun : Bool
  left : List Bar
  outcome : PerLoad Standing
  deriving DecidableEq, Repr

structure Dru where
  /-- enable lines, permission lines, master lines: `true` for high (R121, R123, R124) -/
  en : PerLoad Bool
  gp : PerGas Bool
  gms : Bool
  ems : Bool
  /-- withdrawal set (R122) -/
  withdrawLoads : PerLoad Bool
  withdrawGas : PerGas Bool
  /-- last sample (R125) -/
  lastSample : Option Sample
  /-- conformity groups (R127) -/
  relay : RelayGroup
  valve : ValveGroup
  /-- valve graces (R126) -/
  grace : PerGas Grace
  /-- a slice boundary has been taken since SELFTEST ended, so graces count (R126, log 8) -/
  graceBegun : Bool
  /-- the sixth boundary of a grace has been taken; VALVE_GRACE_OVER ends it (log 8) -/
  graceDue : PerGas Bool
  /-- burner-out indications (R130) -/
  burnerOut : PerGas Bool
  /-- verifier and standings (R132) -/
  verifier : Verifier
  standing : PerLoad Standing
  /-- last stuck-on findings (R134) -/
  findings : PerLoad Bool
  /-- counts, and the counts as the slice in progress found them (R125) -/
  counts : Counts
  atSlice : Counts
  /-- the unexpected-open run of a point latched in the slice in progress, which leaves it 0 there (R125, R129) -/
  runSpent : PerGas Bool
  /-- the slice in progress, and every slice of the period before it, was sampled (R125, R134) -/
  sampled : Bool
  allSampled : Bool
  /-- drive-test record (R138) -/
  test : DriveTest
  deriving DecidableEq, Repr

/-! ## Sensing Unit (R143 to R156) -/

/-- A reading (R143). -/
inductive Reading where
  | temp (deg : Int)
  | open
  | short
  | unavailable
  deriving DecidableEq, Repr

/-- A channel record (R143). -/
structure SensorRecord where
  reading : Reading
  mean : Option Nat
  gain : Nat
  offset : Int
  updatedAt : Option (BitVec 32)
  deriving DecidableEq, Repr

structure Snu where
  /-- channel mask as stored (R144) -/
  mask : PerSensor Bool
  /-- averaging setting, and the N of the last scan begun (R145) -/
  averaging : Nat
  scanN : Option Nat
  /-- channels the last scan took, and those of it still to convert (R144) -/
  lastScan : PerSensor Bool
  scanLeft : List Sensor
  /-- channel records (R143) -/
  channels : PerSensor SensorRecord
  /-- CAV limit and GRL limit (R150) -/
  cavLimit : Int
  grlLimit : Int
  deriving DecidableEq, Repr

/-! ## Alert Controller (R157 to R170) -/

/-- A system cause, in the order of R157. -/
inductive SystemCause where
  | lockout | hold | driveFault | valveFault | overtemp | sensorFault | timebase | memoryFault
  deriving DecidableEq, Repr

/-- The source of an alert entry (R157); a system entry carries its cause-present mark. -/
inductive AlertSource where
  | timer (h : Handle)
  | system (c : SystemCause) (present : Bool)
  deriving DecidableEq, Repr

/-- An alert entry (R157). -/
structure Alert where
  source : AlertSource
  point : Option Point
  raisedAt : BitVec 32
  startLevel : Nat
  level : Nat
  sounding : Bool
  deriving DecidableEq, Repr

/-- The kinds of notice (R166). -/
inductive Notice where
  | started | ready | step
  deriving DecidableEq, Repr

structure Alc where
  /-- Alert List, oldest first (R157) -/
  entries : List Alert
  /-- notice queue, oldest first (R166) -/
  notices : List Notice
  /-- notice playing and its slice, 1 to 4 (R167) -/
  playing : Option (Notice × Nat)
  /-- BUZ (R165) -/
  buz : Bool
  deriving DecidableEq, Repr

/-! ## State Controller (R171 to R186) -/

/-- The operating states (R171). -/
inductive OpState where
  | selftest | config | run | hold | lockout
  deriving DecidableEq, Repr

/-- A flag of the fault record with its member where it has members (R181). -/
inductive FaultId where
  | plain (f : PlainFlag)
  | drive (l : Load)
  | stuckOn (l : Load)
  | valve (z : Gas)
  | valveUnexpected (z : Gas)
  deriving DecidableEq, Repr

/-- The fault flags (R181): the flags without members, and the members of the other four. -/
structure Faults where
  plain : PerPlain Bool
  drive : PerLoad Bool
  stuckOn : PerLoad Bool
  valve : PerGas Bool
  valveUnexpected : PerGas Bool
  deriving DecidableEq, Repr

/-- The status of the self-test (R180). -/
inductive SelfTestStatus where
  | inProgress | pass | fail
  deriving DecidableEq, Repr

/-- The failing part (R180); an output is named by its place in the readback order. -/
inductive FailingPart where
  | none
  | timerStore
  | planStore
  | planner
  | output (line : Fin 28)
  | timeLimit
  deriving DecidableEq, Repr

/-- The part of the self-test in progress (R180). -/
inductive SelfTestPart where
  | march | reference | readback
  deriving DecidableEq, Repr

/-- The self-test result record (R180). -/
structure SelfTest where
  status : SelfTestStatus
  failing : FailingPart
  part : Option SelfTestPart
  deriving DecidableEq, Repr

/-- The outcome of a CFG_COMMIT (R176): OK, or the refusal with its detail (a refusal outside CONFIG has none, log 20). -/
inductive CommitResult where
  | ok
  | refusedState
  | timebase
  | rank
  | load (l : Load)
  | cavMask
  deriving DecidableEq, Repr

structure Stc where
  /-- operating state and when it was entered (R171) -/
  op : OpState
  enteredAt : BitVec 32
  /-- hold cause set (R173) -/
  holds : PerHold Bool
  /-- fault record (R181) -/
  faults : Faults
  /-- first-fault with its time (R181) -/
  firstFault : Option (FaultId × BitVec 32)
  /-- fault mask (R183) -/
  faultMask : PerFlag Bool
  /-- self-test result (R180) -/
  selfTest : SelfTest
  /-- last commit result (R176) -/
  lastCommit : Option CommitResult
  deriving DecidableEq, Repr

/-! ## Port units (R187 to R201) -/

/-- The status codes (R193), in the order of their values. -/
inductive Status where
  | ok | accepted | busy | refusedState | notPermitted | notOwner | notAssigned | tableFull | quota | staleHandle
  | pointTimed | badValue | clockUnset | noSensor | unknownRequest | badLength
  deriving DecidableEq, Repr

/-- A reply (R193): reply code, status and data. -/
structure Reply where
  code : Byte
  status : Status
  data : List Byte
  deriving DecidableEq, Repr

/-- A valid frame in the receive buffer (R189): request code and payload. -/
structure Frame where
  code : Byte
  payload : List Byte
  deriving DecidableEq, Repr

/-- The receiver (R188, R190): HUNT; LENGTH; BODY with the bytes from the length byte on and the number of bytes awaited;
or at rest after a break. -/
inductive Receiver where
  | hunt
  | length
  | body (bytes : List Byte) (awaited : Nat)
  | rest
  deriving DecidableEq, Repr

/-- What has become of the frame in service (R189): handed to its block as a request, or its reply in transmission as
reply frames (R193). -/
inductive Service where
  | idle
  | handed (request : Instr)
  | replying (frames : List (List Byte))
  deriving DecidableEq, Repr

/-- The error counters (R194). -/
structure Counters where
  gap : Nat
  crcErr : Nat
  overrun : Nat
  frameErr : Nat
  breaks : Nat
  deriving DecidableEq, Repr

structure PortUnit where
  /-- receiver state (R188) -/
  rx : Receiver
  /-- receive buffer, oldest first; the oldest is in service (R189) -/
  buffer : List Frame
  /-- service of the oldest frame (R189) -/
  service : Service
  /-- the last reply formed for the port (log 16) -/
  lastReply : Option Reply
  /-- requests that a break cut off between their dispatch and their block, oldest first: no reply is begun (R190, log 16) -/
  cutOff : List Instr
  /-- error counters (R194) -/
  counters : Counters
  /-- pending set and event mask (R198) -/
  posted : PerEvent Bool
  eventMask : PerEvent Bool
  deriving DecidableEq, Repr

/-- The presence of a panel (R195): PRESENT or ABSENT, the timeout in seconds, and the RC milliseconds of silence since
the last valid frame, absent before the first (log 2). -/
structure Presence where
  present : Bool
  timeout : Nat
  silence : Option Nat
  deriving DecidableEq, Repr

/-- The states of the watchdog (R196). -/
inductive WatchdogState where
  | disarmed | running | expired
  deriving DecidableEq, Repr

/-- The supervisor watchdog (R196); the timeout is in units of 0.5 s. -/
structure Watchdog where
  state : WatchdogState
  timeout : Nat
  deriving DecidableEq, Repr

/-- The output lines that follow a set at every event: FLT and ATN-A to ATN-C asserted (R183, R198), IND1 to IND9 high
(R168). -/
structure Pins where
  flt : Bool
  atn : PerPort Bool
  ind : PerPoint Bool
  deriving DecidableEq, Repr

/-! ## The whole part -/

/-- The state of the PZ-740, one field for each block, and the model's own two: the count of free values read (log 12)
and the queue of waiting commands (log 27). -/
structure State where
  tbu : Tbu
  ptc : Ptc
  tme : Tme
  squ : PerSeq Channel
  pmc : Pmc
  spl : Spl
  dru : Dru
  snu : Snu
  alc : Alc
  stc : Stc
  ports : PerPort PortUnit
  presence : PerPanel Presence
  watchdog : Watchdog
  pins : Pins
  free : Nat
  pending : List Instr
  deriving DecidableEq, Repr

/-! ## Replacing one block's state -/

/-- The state with `tbu` replaced. -/
def State.setTbu (s : State) (v : Tbu) : State := { s with tbu := v }

/-- The state with `ptc` replaced. -/
def State.setPtc (s : State) (v : Ptc) : State := { s with ptc := v }

/-- The state with `tme` replaced. -/
def State.setTme (s : State) (v : Tme) : State := { s with tme := v }

/-- The state with `squ` replaced. -/
def State.setSqu (s : State) (v : PerSeq Channel) : State := { s with squ := v }

/-- The state with `pmc` replaced. -/
def State.setPmc (s : State) (v : Pmc) : State := { s with pmc := v }

/-- The state with `spl` replaced. -/
def State.setSpl (s : State) (v : Spl) : State := { s with spl := v }

/-- The state with `dru` replaced. -/
def State.setDru (s : State) (v : Dru) : State := { s with dru := v }

/-- The state with `snu` replaced. -/
def State.setSnu (s : State) (v : Snu) : State := { s with snu := v }

/-- The state with `alc` replaced. -/
def State.setAlc (s : State) (v : Alc) : State := { s with alc := v }

/-- The state with `stc` replaced. -/
def State.setStc (s : State) (v : Stc) : State := { s with stc := v }

/-- The state with `ports` replaced. -/
def State.setPorts (s : State) (v : PerPort PortUnit) : State := { s with ports := v }

/-- The state with `presence` replaced. -/
def State.setPresence (s : State) (v : PerPanel Presence) : State := { s with presence := v }

/-- The state with `watchdog` replaced. -/
def State.setWatchdog (s : State) (v : Watchdog) : State := { s with watchdog := v }

/-- The state with `pins` replaced. -/
def State.setPins (s : State) (v : Pins) : State := { s with pins := v }

/-- The state with `free` replaced. -/
def State.setFree (s : State) (v : Nat) : State := { s with free := v }

/-- The state with `pending` replaced. -/
def State.setPending (s : State) (v : List Instr) : State := { s with pending := v }

/-- Why a step stops with a fault: never. The spec gives every command an effect or a refusal to its sender, and both are
next states, so there is no constructor (safe). -/
inductive Fault where
  deriving DecidableEq, Repr

/-- Why a step is refused. -/
inductive Refusal where
  /-- Raised by an arm of exec that has no meaning yet (safe); no arm raises it. -/
  | notModelled (mnemonic : String)
  deriving DecidableEq, Repr

/-! ## After a cold reset -/

/-- An empty plan entry with offset `p` (R99). -/
def Entry.empty (p : Nat) (pinned : Bool) : Entry :=
  { d := 0, r := 0, g := 0, s := none, p := p, pinned := pinned, shortfall := false }

/-- A FREE slot of the cold reset (R73). -/
def Slot.reset : Slot := { gen := 0, timer := none }

/-- The Timer Engine after a cold reset (R73). -/
def Tme.reset : Tme := { slots := List.replicate 24 Slot.reset, halt := false }

/-- An EMPTY channel (R74, R95). -/
def Channel.reset : Channel :=
  { state := .empty, steps := [], source := none, current := none, slot := none, control := none, fail := none }

/-- A window at its start (R6): nothing counted; `mains`, `crystal` and `known` as they stand. -/
def Window.fresh (mains crystal known : Bool) : Window :=
  { m := 0, x := 0, c := 0, mains := mains, crystal := crystal, known := known, detect := true }

/-- The Timebase Unit after a cold reset (R21). -/
def Tbu.reset : Tbu :=
  { source := .rc, slice := 0, seconds := 0, timeOfDay := none, mainsPresent := false, crystalRunning := false,
    crystal := .unqualified, detected := none, forced := none, tolerance := 10, sliceNominal := none,
    sliceCrystal := false, window := some (Window.fresh false false false), ended := none, qualRun := 0, agreeRun := 0,
    disagreeRun := 0, last := none }

/-- No member in any fault attribution set (R40). -/
def Attribution.empty : Attribution :=
  { drive := .of fun _ => false, stuckOn := .of fun _ => false, valveUnexpected := .of fun _ => false,
    valve := .of fun _ => false, sensorCav := false, sensorGrl := false }

/-- The Point Controller after a cold reset (R40). -/
def Ptc.reset : Ptc :=
  { panel := { z1 := .a, z2 := .a, z3 := .a, z4 := .a, z5 := .a, z6 := .a, z7 := .a, ov := .b, gr := .b }
    gas := .of fun _ => false
    duty := .of fun _ => 0
    reasons := .of fun _ => { delay := false, timerOff := false, halted := true, fault := false, overtemp := false }
    attribution := Attribution.empty
    rank := { first := .ov, second := .z6, third := .z7, fourth := .gr } }

/-- A job's progress before anything has moved (R90, R92). -/
def Progress.fresh (transfer : Transfer) (device base : Nat) : Progress :=
  { transfer := transfer, attempts := 0, polls := 0, bytes := [], device := device, base := base }

/-- The Program Memory Controller after a cold reset (R87, R95). -/
def Pmc.reset : Pmc :=
  { device := 0x50, base := 0, bus := .idle, jobs := [], progress := Progress.fresh (.burst 0) 0x50 0,
    results := { ov := none, gr := none, supervisor := none } }

/-- The plan of the cold reset (R119). -/
def Plan.reset : Plan := { serial := 0, budget := 3600, entries := .of fun _ => Entry.empty 0 false }

/-- The Slice Planner after a cold reset (R119). -/
def Spl.reset : Spl :=
  { loads := .of fun l => { power := 0, carry := decide (l ≠ .l2 ∧ l ≠ .l3 ∧ l ≠ .l4), pin := none }
    budget := 3600
    active := Plan.reset
    pending := .none
    serial := 0
    arrears := .of fun _ => 0
    withdrawals := .of fun _ => false
    repeats := 0 }

/-- Counts at 0 (R141). -/
def Counts.zero : Counts :=
  { openRun := .of fun _ => 0, verify := 0, driven := .of fun _ => 0, closedLow := .of fun _ => 0, test := .of fun _ => 0 }

/-- The drive-test record of the cold reset: NONE (R138), with an empty mask and a T of 0 (log 28). -/
def DriveTest.reset : DriveTest :=
  { status := .none, mask := .of fun _ => false, length := 0, bars := [], begun := false, left := [],
    outcome := .of fun _ => .none }

/-- The Drive Unit after a cold reset (R132, R141). -/
def Dru.reset : Dru :=
  { en := .of fun _ => false, gp := .of fun _ => false, gms := false, ems := false
    withdrawLoads := .of fun _ => false, withdrawGas := .of fun _ => false
    lastSample := none
    relay := { mask := .of fun _ => true, mismatch := false, recorded := none }
    valve := { mask := .of fun _ => true, mismatch := false, recorded := none }
    grace := .of fun _ => .counting 0
    graceBegun := false
    graceDue := .of fun _ => false
    burnerOut := .of fun _ => false
    verifier := { mode := .auto, tolerance := 2, verified := none, position := none, usable := false, last := none }
    standing := .of fun _ => .none
    findings := .of fun _ => false
    counts := Counts.zero
    atSlice := Counts.zero
    runSpent := .of fun _ => false
    sampled := false
    allSampled := true
    test := DriveTest.reset }

/-- The Sensing Unit after a cold reset (R156). -/
def Snu.reset : Snu :=
  { mask := .of fun _ => true, averaging := 8, scanN := none, lastScan := .of fun _ => false, scanLeft := []
    channels := .of fun _ => { reading := .unavailable, mean := none, gain := 64, offset := 0, updatedAt := none }
    cavLimit := 300, grlLimit := 350 }

/-- The Alert Controller after a cold reset, and emptied (R170). -/
def Alc.reset : Alc := { entries := [], notices := [], playing := none, buz := false }

/-- A fault record with every flag clear (R186). -/
def Faults.clear : Faults :=
  { plain := .of fun _ => false, drive := .of fun _ => false, stuckOn := .of fun _ => false, valve := .of fun _ => false,
    valveUnexpected := .of fun _ => false }

/-- The State Controller after a cold reset (R186). -/
def Stc.reset : Stc :=
  { op := .selftest, enteredAt := 0
    holds := { supervisorSilent := false, timebase := true, boardOvertemp := false, supervisorRequest := false }
    faults := Faults.clear
    firstFault := none
    faultMask := .of fun _ => true
    selfTest := { status := .inProgress, failing := .none, part := some .march }
    lastCommit := none }

/-- A port unit after a cold reset (R201). -/
def PortUnit.reset : PortUnit :=
  { rx := .hunt, buffer := [], service := .idle, lastReply := none, cutOff := []
    counters := { gap := 0, crcErr := 0, overrun := 0, frameErr := 0, breaks := 0 }
    posted := .of fun _ => false, eventMask := .of fun _ => true }

/-- The part at the end of a cold reset: SELFTEST entered and its first part begun, counting on RC (R179), every block at
the value its chapter gives, no command waiting (log 27, log 28). -/
def State.reset : State :=
  { tbu := Tbu.reset
    ptc := Ptc.reset
    tme := Tme.reset
    squ := .of fun _ => Channel.reset
    pmc := Pmc.reset
    spl := Spl.reset
    dru := Dru.reset
    snu := Snu.reset
    alc := Alc.reset
    stc := Stc.reset
    ports := .of fun _ => PortUnit.reset
    presence := .of fun _ => { present := false, timeout := 30, silence := none }
    watchdog := { state := .disarmed, timeout := 4 }
    pins := { flt := false, atn := .of fun _ => false, ind := .of fun _ => false }
    free := 0
    pending := [] }

end Sys2Proof.Machine
end

