-- ==== Sys2Proof/Machine/Operands.lean ====
section
/-! DEFINITION. The fixed relations between points, loads, ports and channels (R22, R23, R74), and the operand forms of a
request: what each code, bitmap and value of a field stands for (R202, R203, R205). A code that stands for nothing gives
`none`, and the block that owns the field refuses it. -/

namespace Sys2Proof

/-! ## Points, loads, ports and channels, and their codes (R22, R23, R74, R202) -/

/-- The loads of a point, in ascending load number (R22). -/
def Point.loads : Point → List Load
  | .z6 => [.l0]
  | .z7 => [.l1]
  | .ov => [.l2, .l3, .l4]
  | .gr => [.l5, .l6]
  | _ => []

/-- The gas point a point is (R22). -/
def Point.gas : Point → Option Gas
  | .z1 => some .z1
  | .z2 => some .z2
  | .z3 => some .z3
  | .z4 => some .z4
  | .z5 => some .z5
  | _ => none

/-- Whether a point is of kind ELECTRIC (R22). -/
def Point.electric (p : Point) : Bool := p.gas.isNone

/-- The point of a gas burner. -/
def Gas.point : Gas → Point
  | .z1 => .z1
  | .z2 => .z2
  | .z3 => .z3
  | .z4 => .z4
  | .z5 => .z5

/-- The point of a load (R22). -/
def Load.point : Load → Point
  | .l0 => .z6
  | .l1 => .z7
  | .l2 | .l3 | .l4 => .ov
  | .l5 | .l6 => .gr

/-- The port of a panel (R187). -/
def Panel.port : Panel → Port
  | .a => .panelA
  | .b => .panelB

/-- The panel at a port, if a panel is there (R187). -/
def Port.panel : Port → Option Panel
  | .panelA => some .a
  | .panelB => some .b
  | .supervisor => none

/-- The other panel. -/
def Panel.other : Panel → Panel
  | .a => .b
  | .b => .a

/-- The point of a sequence channel (R74). -/
def SeqChan.point : SeqChan → Point
  | .ov => .ov
  | .gr => .gr

/-- The channel of a point that has one. -/
def Point.channel : Point → Option SeqChan
  | .ov => some .ov
  | .gr => some .gr
  | _ => none

/-- The sensing channel an AT_TEMP timer of a point waits on (R44). -/
def Point.sensor : Point → Option Sensor
  | .ov => some .cav
  | .gr => some .grl
  | _ => none

/-- The flag a plain flag is. -/
def PlainFlag.flag : PlainFlag → FaultFlag
  | .selftest => .selftest
  | .xtal => .xtal
  | .timebaseLost => .timebaseLost
  | .timebaseSuspect => .timebaseSuspect
  | .supervisorSilent => .supervisorSilent
  | .boardOvertemp => .boardOvertemp
  | .cavOvertemp => .cavOvertemp
  | .grlOvertemp => .grlOvertemp
  | .sensor => .sensor
  | .probe => .probe
  | .memory => .memory

/-- A point by its code, 1 to 9. -/
def Point.ofCode : Nat → Option Point
  | 0 => none
  | n + 1 => Point.all[n]?

/-- The code of a point. -/
def Point.code (p : Point) : Nat := p.index + 1

/-- A load by its code, 0 to 6. -/
def Load.ofCode (n : Nat) : Option Load := Load.all[n]?

/-- The code of a role (R202). -/
def Port.code : Port → Nat
  | .panelA => 1
  | .panelB => 2
  | .supervisor => 3

/-- The code of a sequence channel as an owner. -/
def SeqChan.ownerCode : SeqChan → Nat
  | .ov => 4
  | .gr => 5

/-- A panel by its role code, as CFG_ASSIGN names it (R38). -/
def Panel.ofCode : Nat → Option Panel
  | 1 => some .a
  | 2 => some .b
  | _ => none

/-- A sequence channel as a request names it: the values of R74 in order. -/
def SeqChan.ofCode : Nat → Option SeqChan
  | 0 => some .ov
  | 1 => some .gr
  | _ => none

/-- A sequence channel by the point kind of a program record (R206). -/
def SeqChan.ofKind : Nat → Option SeqChan
  | 8 => some .ov
  | 9 => some .gr
  | _ => none

/-- A sensing channel by its place in R143. -/
def Sensor.ofCode (n : Nat) : Option Sensor := Sensor.all[n]?

/-- A port by its place in R194. -/
def Port.ofCode (n : Nat) : Option Port := Port.all[n]?

/-- The loads of a channel's point as an element mask (R76, R206). -/
def SeqChan.maskBits : SeqChan → Nat
  | .ov => 0b0011100
  | .gr => 0b1100000

end Sys2Proof

namespace Sys2Proof.Machine

/-! ## The model's own types, bitmaps (low-order bit for the first member, R202; a bit past the members is no set), and
values -/

/-- An electric point as a point. -/
def EPoint.point : EPoint → Point
  | .z6 => .z6
  | .z7 => .z7
  | .ov => .ov
  | .gr => .gr

/-- The electric points. -/
def EPoint.all : List EPoint := [.z6, .z7, .ov, .gr]

/-- The rank list from first to last (R37). -/
def Rank.toList (r : Rank) : List EPoint := [r.first, r.second, r.third, r.fourth]

/-- Whether a rank list is a permutation of the four electric points (R37). -/
def Rank.permutation (r : Rank) : Bool := EPoint.all.all fun e => r.toList.contains e

/-- The system causes, in the order of R157. -/
def SystemCause.all : List SystemCause :=
  [.lockout, .hold, .driveFault, .valveFault, .overtemp, .sensorFault, .timebase, .memoryFault]

/-- The code of an owner. -/
def Owner.code : Owner → Nat
  | .nobody => 0
  | .role p => p.code
  | .channel c => c.ownerCode

/-- An owner by its code. -/
def Owner.ofCode : Nat → Option Owner
  | 0 => some .nobody
  | 1 => some (.role .panelA)
  | 2 => some (.role .panelB)
  | 3 => some (.role .supervisor)
  | 4 => some (.channel .ov)
  | 5 => some (.channel .gr)
  | _ => none

/-- An electric point by its point code, as CFG_RANK names it (R37). -/
def EPoint.ofCode : Nat → Option EPoint
  | 6 => some .z6
  | 7 => some .z7
  | 8 => some .ov
  | 9 => some .gr
  | _ => none

/-- A timer kind as TIMER_CREATE names it: the values of R42 in order (log 18). -/
def Kind.ofCode : Nat → Option Kind
  | 0 => some .minder
  | 1 => some .cookEnd
  | 2 => some .delayStart
  | 3 => some .step
  | _ => none

/-- The kind in a timer record (R203). -/
def Kind.code : Kind → Nat
  | .minder => 1
  | .cookEnd => 2
  | .delayStart => 3
  | .step => 4

/-- A system cause by its number in R205, 1 to 8. -/
def SystemCause.ofCode : Nat → Option SystemCause
  | 0 => none
  | n + 1 => SystemCause.all[n]?

/-- The number of a system cause (R205). -/
def SystemCause.code : SystemCause → Nat
  | .lockout => 1
  | .hold => 2
  | .driveFault => 3
  | .valveFault => 4
  | .overtemp => 5
  | .sensorFault => 6
  | .timebase => 7
  | .memoryFault => 8

/-- The end action of a step (R206). -/
def EndAction.ofCode : Nat → Option EndAction
  | 0 => some .next
  | 1 => some .pauseForAck
  | _ => none

/-- The code of an end action (R206). -/
def EndAction.code : EndAction → Nat
  | .next => 0
  | .pauseForAck => 1

/-- An override by its place in R19: AUTO, 50, 60. The outer `none` is a value past the three. -/
def overrideOfCode : Nat → Option (Option Nominal)
  | 0 => some none
  | 1 => some (some .hz50)
  | 2 => some (some .hz60)
  | _ => none

/-- A pin as sent (R97, R202): 0 to 39, or NONE as 0xFF. The outer `none` is a value past these. -/
def pinOfCode (n : Nat) : Option (Option Nat) :=
  if n < 40 then some (some n) else if n = 0xFF then some none else none

/-- A setting of ON or OFF as sent: ON is 0, OFF is 1 (R202). -/
def onOffOfCode : Nat → Option Bool
  | 0 => some true
  | 1 => some false
  | _ => none

/-- A rated power that CFG_LOADS takes (R97). -/
def powerAllowed (w : Nat) : Bool := w = 0 || (w % 10 = 0 && 10 ≤ w && w ≤ 3000)

/-- The loads of a bitmap. -/
def loadsOfBits (n : Nat) : Option (PerLoad Bool) := if n < 2 ^ 7 then some (.of fun l => n.testBit l.index) else none

/-- The gas points, or valve sense lines, of a bitmap. -/
def gasOfBits (n : Nat) : Option (PerGas Bool) := if n < 2 ^ 5 then some (.of fun z => n.testBit z.index) else none

/-- The sensing channels of a bitmap. -/
def sensorsOfBits (n : Nat) : Option (PerSensor Bool) :=
  if n < 2 ^ 4 then some (.of fun c => n.testBit c.index) else none

/-- The flag names of a bitmap. -/
def flagsOfBits (n : Nat) : Option (PerFlag Bool) := if n < 2 ^ 15 then some (.of fun f => n.testBit f.index) else none

/-- The event classes of a bitmap. -/
def eventsOfBits (n : Nat) : Option (PerEvent Bool) := if n < 2 ^ 12 then some (.of fun e => n.testBit e.index) else none

/-- A value clamped to a range (00_scope.md, Numbers). -/
def clampNat (low high n : Nat) : Nat := max low (min high n)

/-- A value clamped to a range of integers. -/
def clampInt (low high n : Int) : Int := max low (min high n)

/-- The averaging setting a value is lowered to (R145). -/
def averagingOf (n : Nat) : Nat := if 16 ≤ n then 16 else if 8 ≤ n then 8 else if 4 ≤ n then 4 else 2

/-- A budget as stored (R98): rounded down to a multiple of 10, then clamped. -/
def budgetOf (w : Nat) : Nat := clampNat 1000 7400 (w / 10 * 10)

/-- A step that SEQ_STORE or LIB_WRITE takes for a channel (R77): duration and cap clamped; `none` where it refuses. -/
def stepOfField (c : SeqChan) (f : StepField) : Option Step :=
  if f.duration = 0 ∨ f.mask &&& c.maskBits ≠ f.mask then none
  else (EndAction.ofCode f.action).map fun a =>
    { duration := min f.duration Config.maxSeconds, mask := byteOf f.mask, cap := min f.cap 100, action := a }

/-- The steps of a list of 1 to 8 fields (R77). -/
def stepsOfFields (c : SeqChan) (fs : List StepField) : Option (List Step) :=
  if fs.length = 0 ∨ 8 < fs.length then none else fs.mapM (stepOfField c)

end Sys2Proof.Machine
end

