-- ==== Sys2Proof/Machine/Codec.lean ====
section
/-! DEFINITION. Bytes: the encodings of R202, the CRCs of R188 and R79, and the reply frames of R193. -/

namespace Sys2Proof.Machine

/-! ## Field encodings (R202), high-order byte first -/

/-- An unsigned number in one byte. -/
def enc1 (n : Nat) : List Byte := [byteOf n]

/-- An unsigned number in two bytes. -/
def enc2 (n : Nat) : List Byte := [byteOf (n / 256), byteOf n]

/-- An unsigned number in three bytes. -/
def enc3 (n : Nat) : List Byte := [byteOf (n / 65536), byteOf (n / 256), byteOf n]

/-- An unsigned number in four bytes. -/
def enc4 (n : Nat) : List Byte := [byteOf (n / 16777216), byteOf (n / 65536), byteOf (n / 256), byteOf n]

/-- A temperature, two bytes of two's complement. -/
def encTemp (t : Int) : List Byte := enc2 (t % 65536).toNat

/-- A calibration offset, one byte of two's complement. -/
def encOffset (t : Int) : List Byte := enc1 (t % 256).toNat

/-- An absent value of `k` bytes. -/
def encAbsent (k : Nat) : List Byte := List.replicate k 0xFF

/-- An optional value, absent as `k` bytes of 0xFF. -/
def encOpt {α : Type} (k : Nat) (f : α → List Byte) : Option α → List Byte
  | none => encAbsent k
  | some v => f v

/-- A yes-or-no field: yes is the first value listed (R202, log 19). -/
def encYes (b : Bool) : List Byte := enc1 (if b then 0 else 1)

/-- The level of a line: 1 high, 0 low (log 19). -/
def encLevel (b : Bool) : List Byte := enc1 b.toNat

/-- A handle. -/
def encHandle (h : Handle) : List Byte := [h.slot, h.gen]

/-- A list: a count byte and the items. -/
def encList {α : Type} (f : α → List Byte) (xs : List α) : List Byte := enc1 xs.length ++ xs.flatMap f

/-- The bitmap of a set, low-order bit for the first member. -/
def bitmap (bs : List Bool) : Nat := bs.foldr (fun b n => b.toNat + 2 * n) 0

/-- A set of loads, of gas points, of sensing channels, of flag names, of event classes. -/
def encLoads (t : PerLoad Bool) : List Byte := enc1 (bitmap (Load.all.map t.get))
def encGas (t : PerGas Bool) : List Byte := enc1 (bitmap (Gas.all.map t.get))
def encSensors (t : PerSensor Bool) : List Byte := enc1 (bitmap (Sensor.all.map t.get))
def encFlags (t : PerFlag Bool) : List Byte := enc2 (bitmap (FaultFlag.all.map t.get))
def encEvents (t : PerEvent Bool) : List Byte := enc2 (bitmap (EventClass.all.map t.get))
def encHolds (t : PerHold Bool) : List Byte := enc1 (bitmap (Hold.all.map t.get))

/-! ## CRCs -/

/-- One bit of the CRC-8 with polynomial x⁸+x⁵+x³+x²+x+1 (R188). -/
def crc8Bit (c : Byte) : Byte := if c.msb then (c <<< 1) ^^^ 0x2F else c <<< 1

/-- One byte of the CRC-8. -/
def crc8Byte (c b : Byte) : Byte :=
  crc8Bit (crc8Bit (crc8Bit (crc8Bit (crc8Bit (crc8Bit (crc8Bit (crc8Bit (c ^^^ b))))))))

/-- The CRC-8 of a port frame (R188): initial value 0, most significant bit first, no final inversion. -/
def crc8 (bs : List Byte) : Byte := bs.foldl crc8Byte 0

/-- One bit of the CRC-16 with polynomial x¹⁶+x¹²+x⁵+1 (R79). -/
def crc16Bit (c : BitVec 16) : BitVec 16 := if c.msb then (c <<< 1) ^^^ 0x1021 else c <<< 1

/-- One byte of the CRC-16. -/
def crc16Byte (c : BitVec 16) (b : Byte) : BitVec 16 :=
  crc16Bit (crc16Bit (crc16Bit (crc16Bit (crc16Bit (crc16Bit (crc16Bit (crc16Bit
    (c ^^^ (b.setWidth 16 <<< 8)))))))))

/-- The CRC-16 of a program record (R79): initial value 0xFFFF, most significant bit first, no final inversion. -/
def crc16 (bs : List Byte) : BitVec 16 := bs.foldl crc16Byte 0xFFFF

/-- The number two bytes spell, high-order first. -/
def dec2 (hi lo : Byte) : Nat := hi.toNat * 256 + lo.toNat

/-- The number three bytes spell, high-order first. -/
def dec3 (a b c : Byte) : Nat := a.toNat * 65536 + b.toNat * 256 + c.toNat

/-! ## Replies (R193) -/

/-- The value of a status. -/
def Status.code : Status → Byte
  | .ok => 0x00
  | .accepted => 0x01
  | .busy => 0x02
  | .refusedState => 0x03
  | .notPermitted => 0x04
  | .notOwner => 0x05
  | .notAssigned => 0x06
  | .tableFull => 0x07
  | .quota => 0x08
  | .staleHandle => 0x09
  | .pointTimed => 0x0A
  | .badValue => 0x0B
  | .clockUnset => 0x0C
  | .noSensor => 0x0D
  | .unknownRequest => 0x0E
  | .badLength => 0x0F

/-- The reply code of a request code; an unknown code of 0x80 or above is sent as received. -/
def replyCode (code : Byte) : Byte := if code.msb then code else code + 0x80

/-- Reply data cut into parts of 57 bytes with the remainder in the last; empty data make one empty part. The first
argument bounds the number of cuts. -/
def cutParts : Nat → List Byte → List (List Byte)
  | 0, bs => [bs]
  | k + 1, bs => if bs.length ≤ 57 then [bs] else bs.take 57 :: cutParts k (bs.drop 57)

/-- One reply frame: part `n` of a reply, `last` for its last part. -/
def replyFrame (r : Reply) (n : Nat) (last : Bool) (data : List Byte) : List Byte :=
  let body := [byteOf (3 + data.length), r.code, r.status.code, byteOf (n % 16 + if last then 0x80 else 0)] ++ data
  0xC3 :: body ++ [crc8 body]

/-- The frames of the parts of a reply, from part `n` on. -/
def replyFramesFrom (r : Reply) : Nat → List (List Byte) → List (List Byte)
  | _, [] => []
  | n, [part] => [replyFrame r n true part]
  | n, part :: rest => replyFrame r n false part :: replyFramesFrom r (n + 1) rest

/-- The reply frames of a reply (R193). -/
def Reply.frames (r : Reply) : List (List Byte) := replyFramesFrom r 0 (cutParts r.data.length r.data)

end Sys2Proof.Machine
end

