-- ==== Sys2Proof/Decode.lean ====
section
/-! DEFINITION. What bits and bytes spell: `decodeTableWord` over the rows of the table that give bits (none does), and the
payload of a request frame read by the encoding of R202. -/

namespace Sys2Proof

/-- The command a word spells by the table's bits: no row of spec/opcode_table.json gives bits (log 27). -/
def decodeTableWord (_nbits _w : Nat) : Option Instr := none

namespace Machine

/-! ## Reading fields (R202) -/

/-- A reader of a field: the field and the bytes left, or nothing where the bytes run out. -/
abbrev Field (α : Type) := StateT (List Byte) Option α

/-- One byte. -/
def u1 : Field Nat
  | [] => none
  | b :: rest => some (b.toNat, rest)

/-- Two bytes, high-order first. -/
def u2 : Field Nat := do
  let a ← u1
  let b ← u1
  return a * 256 + b

/-- Three bytes, high-order first. -/
def u3 : Field Nat := do
  let a ← u2
  let b ← u1
  return a * 256 + b

/-- A temperature. -/
def temperature : Field Int := do
  let n ← u2
  return (BitVec.ofNat 16 n).toInt

/-- A calibration offset. -/
def calOffset : Field Int := do
  let n ← u1
  return (BitVec.ofNat 8 n).toInt

/-- The delta of TIMER_ADJUST. -/
def timeDelta : Field Int := do
  let n ← u3
  return (BitVec.ofNat 24 n).toInt

/-- A handle. -/
def handleField : Field Handle := do
  let a ← u1
  let b ← u1
  return { slot := byteOf a, gen := byteOf b }

/-- A field present where bit `i` of a presence byte is set. -/
def ifBit {α : Type} (presence i : Nat) (f : Field α) : Field (Option α) :=
  if presence.testBit i then do
    let v ← f
    return some v
  else return none

/-- `n` items. -/
def items {α : Type} : Nat → Field α → Field (List α)
  | 0, _ => return []
  | n + 1, f => do
    let v ← f
    let vs ← items n f
    return v :: vs

/-- A list: a count byte and the items. -/
def listField {α : Type} (f : Field α) : Field (List α) := do
  let n ← u1
  items n f

/-- Every byte left. -/
def restField : Field (List Nat) := fun bs => some (bs.map BitVec.toNat, [])

/-! ## Fields of several forms -/

/-- A start condition of TIMER_CREATE. -/
def startField : Field StartField := do
  match ← u1 with
  | 0 => return .immediate
  | 1 => return .atTime (← u3)
  | 2 => return .atTemp (← temperature)
  | 3 =>
    let h ← handleField
    let b ← u1
    return .afterLeader h (← ifBit b 0 temperature)
  | _ => return .beyond

/-- A start condition of SEQ_START: IMMEDIATE or AT_TIME (R80). -/
def seqStartField : Field StartField := do
  match ← u1 with
  | 0 => return .immediate
  | 1 => return .atTime (← u3)
  | _ => return .beyond

/-- A step. -/
def stepField : Field StepField := do
  let d ← u3
  let m ← u1
  let c ← u1
  let a ← u1
  return { duration := d, mask := m, cap := c, action := a }

/-- What POINT_READ names. -/
def pointField : Field PointField := do
  match ← u1 with
  | 0 => return .point (← u1)
  | 1 => return .all
  | _ => return .beyond

/-- The filter of TIMER_LIST. -/
def filterField : Field FilterField := do
  match ← u1 with
  | 0 => return .owner (← u1)
  | 1 => return .point (← u1)
  | _ => return .beyond

/-- What SEQ_READ names. -/
def channelField : Field ChannelField := do
  match ← u1 with
  | 0 => return .channel (← u1)
  | 1 => return .memory
  | _ => return .beyond

/-- The mode of VERIFY_SET. -/
def modeField : Field ModeField := do
  match ← u1 with
  | 0 => return .off
  | 1 => return .fixed (← u1)
  | 2 => return .auto
  | _ => return .beyond

/-- The designator of ALERT_ACK. -/
def ackField : Field AckField := do
  match ← u1 with
  | 0 => return .timer (← handleField)
  | 1 => return .cause (← u1)
  | 2 => return .oldest
  | _ => return .beyond

/-- The flags of FAULT_CLEAR. -/
def flagsField : Field FlagsField := do
  match ← u1 with
  | 0 => return .flags (← listField u1)
  | 1 => return .all
  | _ => return .beyond

/-- An entry of CFG_LOADS. -/
def loadField : Field LoadField := do
  let l ← u1
  let b ← u1
  let p ← ifBit b 0 u2
  let c ← ifBit b 1 u1
  let o ← ifBit b 2 u1
  return { load := l, power := p, carry := c, pin := o }

/-- A calibration entry. -/
def calField : Field CalField := do
  let c ← u1
  let b ← u1
  let g ← ifBit b 0 u1
  let o ← ifBit b 1 calOffset
  return { channel := c, gain := g, offset := o }

/-- An entry of CFG_ASSIGN. -/
def assignField : Field AssignField := do
  let p ← u1
  let r ← u1
  return { point := p, role := r }

/-- The fields of TIMER_CREATE (log 18). -/
def timerFields : Field TimerFields := do
  let k ← u1
  let p ← u1
  let d ← u3
  let s ← startField
  let b ← u1
  let t ← ifBit b 0 temperature
  let l ← u1
  return { kind := k, point := p, duration := d, start := s, probe := t, level := l }

/-- The demand of POINT_DEMAND: a value for a gas point, a list of duties for an electric one, and the bytes as they are
where the point is not one of the nine (log 18). -/
def demandField (point : Nat) : Field DemandField :=
  match Point.ofCode point with
  | none => do return .duties (← restField)
  | some p => if p.electric then do return .duties (← listField u1) else do return .gas (← u1)

/-! ## Requests (R192) -/

/-- What a request without fields is. -/
def bare (i : Instr) : Field Instr := return i

/-- The payload of the timer and point requests. -/
def timerPayload (p : Port) : Nat → Option (Field Instr)
  | 0x10 => some do
    let x ← u1
    return .pointDemand p x (← demandField x)
  | 0x11 => some do return .pointRead p (← pointField)
  | 0x12 => some do return .timerCreate p (← timerFields)
  | 0x13 => some do
    let h ← handleField
    return .timerAdjust p h (← timeDelta)
  | 0x14 => some do return .timerPause p (← handleField)
  | 0x15 => some do return .timerResume p (← handleField)
  | 0x16 => some do return .timerCancel p (← handleField)
  | 0x17 => some do return .timerAdopt p (← handleField)
  | 0x18 => some do return .timerRead p (← handleField)
  | 0x19 => some do
    let b ← u1
    return .timerList p (← ifBit b 0 filterField)
  | _ => none

/-- The payload of the sequence and library requests. -/
def seqPayload (p : Port) : Nat → Option (Field Instr)
  | 0x20 => some do
    let c ← u1
    return .seqLoad p c (← u1)
  | 0x21 => some do
    let c ← u1
    return .seqStore p c (← listField stepField)
  | 0x22 => some do
    let c ← u1
    return .seqStart p c (← seqStartField)
  | 0x23 => some do return .seqPause p (← u1)
  | 0x24 => some do return .seqResume p (← u1)
  | 0x25 => some do return .seqAbort p (← u1)
  | 0x26 => some do return .seqRead p (← channelField)
  | 0x27 => some do
    let i ← u1
    let k ← u1
    return .libWrite p i k (← listField stepField)
  | _ => none

/-- The payload of the planner, drive, sensing and alert requests; the restore of SENSE_CONFIG is bit 3 of its presence
byte and no byte of its own (log 18). -/
def drivePayload (p : Port) : Nat → Option (Field Instr)
  | 0x30 => some do return .planRead p (← u1)
  | 0x31 => some (bare (.feedbackRead p))
  | 0x32 => some do
    let b ← u1
    let m ← ifBit b 0 modeField
    let t ← ifBit b 1 u1
    let r ← ifBit b 2 u1
    return .verifySet p m t r (← ifBit b 3 u1)
  | 0x33 => some do
    let m ← u1
    return .driveTest p m (← u2)
  | 0x34 => some (bare (.driveTestAbort p))
  | 0x38 => some (bare (.senseRead p))
  | 0x39 => some do
    let b ← u1
    let m ← ifBit b 0 u1
    let a ← ifBit b 1 u1
    let c ← ifBit b 2 (listField calField)
    return .senseConfig p m a c (b.testBit 3)
  | 0x3C => some (bare (.alertList p))
  | 0x3D => some do return .alertAck p (← ackField)
  | _ => none

/-- The payload of the configuration and state requests; the four entries of CFG_RANK are four point bytes with no count
byte before them (log 18). -/
def configPayload (p : Port) : Nat → Option (Field Instr)
  | 0x40 => some do return .cfgLoads p (← listField loadField)
  | 0x41 => some do return .cfgBudget p (← u2)
  | 0x42 => some do return .cfgAssign p (← listField assignField)
  | 0x43 => some do
    let a ← u1
    let b ← u1
    let c ← u1
    return .cfgRank p a b c (← u1)
  | 0x44 => some do
    let b ← u1
    let c ← ifBit b 0 temperature
    return .cfgLimits p c (← ifBit b 1 temperature)
  | 0x45 => some do
    let b ← u1
    let m ← ifBit b 0 u1
    return .cfgTimebase p m (← ifBit b 1 u1)
  | 0x46 => some do
    let b ← u1
    let d ← ifBit b 0 u1
    return .cfgMemory p d (← ifBit b 1 u2)
  | 0x47 => some do
    let b ← u1
    let x ← ifBit b 0 u1
    let y ← ifBit b 1 u1
    return .cfgPorts p x y (← ifBit b 2 u1)
  | 0x48 => some (bare (.cfgCommit p))
  | 0x49 => some (bare (.stateRead p))
  | 0x4A => some (bare (.holdRequest p))
  | 0x4B => some (bare (.resume p))
  | 0x4C => some (bare (.restart p))
  | _ => none

/-- The payload of the clock, fault, event and counter requests. -/
def reportPayload (p : Port) : Nat → Option (Field Instr)
  | 0x01 => some do return .clockSet p (← u3)
  | 0x02 => some (bare (.clockRead p))
  | 0x03 => some (bare (.timebaseRead p))
  | 0x50 => some (bare (.faultRead p))
  | 0x51 => some do return .faultClear p (← flagsField)
  | 0x52 => some do return .faultMask p (← u2)
  | 0x58 => some (bare (.eventsRead p))
  | 0x59 => some do return .eventsClear p (← u2)
  | 0x5A => some do return .eventsMask p (← u2)
  | 0x5B => some do
    let b ← u1
    return .countersRead p (← ifBit b 0 u1)
  | 0x5C => some (bare (.countersClear p))
  | _ => none

/-- The payload of a request code: none where the code is not in the table of R192. -/
def payloadOf (p : Port) (code : Nat) : Option (Field Instr) :=
  (timerPayload p code).or ((seqPayload p code).or ((drivePayload p code).or ((configPayload p code).or
    (reportPayload p code))))

/-- What a frame's code and payload spell (R191). -/
inductive Parsed where
  | unknownRequest
  | badLength
  | ok (i : Instr)
  deriving DecidableEq, Repr

/-- A request read from a frame on a port: its code must be in the table, and its fields must take up the whole payload
(R191, R192, R202). -/
def decodeRequest (p : Port) (code : Byte) (payload : List Byte) : Parsed :=
  match payloadOf p code.toNat with
  | none => .unknownRequest
  | some f =>
    match f.run payload with
    | some (i, []) => .ok i
    | _ => .badLength

end Machine

end Sys2Proof
end

