-- ==== Sys2Proof/Machine/Flags.lean ====
section
/-! DEFINITION. The flags of the part: event classes in the pending sets (R198), the fault record and first-fault (R181),
the system causes tested against it (R160), and the output lines that follow these sets (R168, R183, R198). -/

namespace Sys2Proof.Machine

/-! ## Event classes (R198) -/

/-- A port unit with an event class in its pending set. -/
def PortUnit.post (u : PortUnit) (c : EventClass) : PortUnit := { u with posted := u.posted.set c true }

/-- An event class posted to the pending sets of the ports that `who` names (R198). -/
def State.postTo (s : State) (c : EventClass) (who : Port → Bool) : State :=
  s.setPorts (.of fun p => if who p then (s.ports.get p).post c else s.ports.get p)

/-- An event class posted to every port. -/
def State.postAll (s : State) (c : EventClass) : State := s.postTo c fun _ => true

/-- The supervisor and the owning panel of a point (R36). -/
def State.pointAudience (s : State) (p : Point) (q : Port) : Bool :=
  q = .supervisor || q = (s.ptc.panel.get p).port

/-! ## The fault record (R181) -/

/-- The flag name of a flag or member. -/
def FaultId.flag : FaultId → FaultFlag
  | .plain f => f.flag
  | .drive _ => .drive
  | .stuckOn _ => .stuckOn
  | .valve _ => .valve
  | .valveUnexpected _ => .valveUnexpected

/-- Whether a flag or member is latched. -/
def Faults.get (t : Faults) : FaultId → Bool
  | .plain f => t.plain.get f
  | .drive l => t.drive.get l
  | .stuckOn l => t.stuckOn.get l
  | .valve z => t.valve.get z
  | .valveUnexpected z => t.valveUnexpected.get z

/-- The record with one flag or member set. -/
def Faults.set (t : Faults) (i : FaultId) (v : Bool) : Faults :=
  match i with
  | .plain f => { t with plain := t.plain.set f v }
  | .drive l => { t with drive := t.drive.set l v }
  | .stuckOn l => { t with stuckOn := t.stuckOn.set l v }
  | .valve z => { t with valve := t.valve.set z v }
  | .valveUnexpected z => { t with valveUnexpected := t.valveUnexpected.set z v }

/-- Every flag and member, in the order of R181. -/
def FaultId.all : List FaultId :=
  PlainFlag.all.map .plain ++ Load.all.map .drive ++ Load.all.map .stuckOn ++ Gas.all.map .valve ++
    Gas.all.map .valveUnexpected

/-- Whether a flag is latched: a flag with members is while at least one member is (R181). -/
def Faults.flagged (t : Faults) : FaultFlag → Bool
  | .selftest => t.plain.selftest
  | .xtal => t.plain.xtal
  | .timebaseLost => t.plain.timebaseLost
  | .timebaseSuspect => t.plain.timebaseSuspect
  | .supervisorSilent => t.plain.supervisorSilent
  | .boardOvertemp => t.plain.boardOvertemp
  | .cavOvertemp => t.plain.cavOvertemp
  | .grlOvertemp => t.plain.grlOvertemp
  | .sensor => t.plain.sensor
  | .probe => t.plain.probe
  | .memory => t.plain.memory
  | .drive => Load.all.any t.drive.get
  | .stuckOn => Load.all.any t.stuckOn.get
  | .valve => Gas.all.any t.valve.get
  | .valveUnexpected => Gas.all.any t.valveUnexpected.get

/-- Whether any flag is latched. -/
def Faults.any (t : Faults) : Bool := FaultFlag.all.any t.flagged

/-- The State Controller with a flag or member latched: it becomes first-fault where every flag was clear (R181). -/
def Stc.latched (t : Stc) (i : FaultId) (now : BitVec 32) : Stc :=
  { t with faults := t.faults.set i true, firstFault := if t.faults.any then t.firstFault else some (i, now) }

/-- A flag or member latched by its block: nothing where it is latched already, else FAULT_CHANGED (R181). -/
def State.latch (s : State) (i : FaultId) : State :=
  if s.stc.faults.get i then s else (s.setStc (s.stc.latched i s.tbu.seconds)).postAll .faultChanged

/-! ## System causes (R160) -/

/-- Whether a system cause is present. -/
def State.causePresent (s : State) : SystemCause → Bool
  | .lockout => s.stc.op = .lockout
  | .hold => s.stc.op = .hold
  | .driveFault => s.stc.faults.flagged .drive || s.stc.faults.flagged .stuckOn
  | .valveFault => s.stc.faults.flagged .valve || s.stc.faults.flagged .valveUnexpected
  | .overtemp =>
    s.stc.faults.flagged .cavOvertemp || s.stc.faults.flagged .grlOvertemp || s.stc.faults.flagged .boardOvertemp
  | .sensorFault => s.stc.faults.flagged .sensor || s.stc.faults.flagged .probe
  | .timebase => s.stc.holds.timebase
  | .memoryFault => s.stc.faults.flagged .memory

/-! ## Lines that follow a set -/

/-- FLT is asserted while a latched flag has its name in the mask (R183). -/
def Stc.flt (t : Stc) : Bool := FaultFlag.all.any fun f => t.faults.flagged f && t.faultMask.get f

/-- A port's attention line is asserted while an unmasked class is pending (R198). -/
def PortUnit.atn (u : PortUnit) : Bool := EventClass.all.any fun c => u.posted.get c && u.eventMask.get c

/-- The indicator of a point is high while an entry of the Alert List names the point (R168). -/
def Alc.ind (a : Alc) (p : Point) : Bool := a.entries.any fun e => e.point = some p

/-- The lines FLT, ATN-A to ATN-C and IND1 to IND9 as the sets they follow have them. -/
def State.lines (s : State) : Pins :=
  { flt := s.stc.flt, atn := .of fun p => (s.ports.get p).atn, ind := .of s.alc.ind }

end Sys2Proof.Machine
end

