-- ==== Sys2Proof/Machine/Placement.lean ====
section
/-! DEFINITION. What a planning pass computes from its snapshot: effective duties, requests and the placement of the runs
(R100 to R107). -/

namespace Sys2Proof.Machine

/-! ## From demand to request -/

/-- The effective duty of a load (R100). -/
def effectiveDuty (running : Bool) (i : LoadInput) : Nat :=
  if running && i.gateOpen && i.record.power ≠ 0 then
    match i.restriction with
    | .free => i.duty
    | .capped c => min i.duty c
    | .held => 0
  else 0

/-- The slices an effective duty calls for (R101). -/
def slicesOf (pct : Nat) : Nat := (pct * 40 + 50) / 100

/-- Normalisation of a request (R102). -/
def normalise (r : Nat) : Nat := if r = 1 then 2 else if r = 39 then 40 else r

/-- The normalised request of a load that asks for `d` slices and is owed `a` (R102). -/
def requestOf (carry : Bool) (d a : Nat) : Nat := normalise (if carry && 0 < d then min 40 (d + a) else d)

/-- The arrears of a load after a plan that asked `d` and granted `g` became active (R103). -/
def arrearsAfter (carry : Bool) (a d g : Nat) : Nat := if carry then min 40 (a + d - g) else 0

/-- The preferred offset of a load, and whether it comes from a pin (R105). -/
def preferredOffset (i : LoadInput) : Nat × Bool :=
  match i.record.pin with
  | some o => (o, true)
  | none => (if 0 < i.grant then i.start.getD 0 else 0, false)

/-! ## Runs and occupancy -/

/-- Whether a run with start `s` and length `g` covers slice `n`; a run may wrap past slice 39 (R99). -/
def covers (s g n : Nat) : Bool := (n + 40 - s) % 40 < g

/-- A run placed by a pass, with the rated power it adds to each slice it covers (R104). -/
structure Run where
  start : Nat
  length : Nat
  watts : Nat
  deriving DecidableEq, Repr

/-- The occupancy of a slice: the watts of the runs that cover it (R104). -/
def occupancy (runs : List Run) (n : Nat) : Nat :=
  (runs.map fun r => if covers r.start r.length n then r.watts else 0).sum

/-- Whether a run of length `n` from `s` fits under the budget with the runs placed before it (R106, step 2). -/
def fits (runs : List Run) (budget watts s n : Nat) : Bool :=
  (List.range 40).all fun k => !covers s n k || occupancy runs k + watts ≤ budget

/-- The start offsets tried, from the preferred one on (R106, step 2). -/
def offsetsFrom (p : Nat) : List Nat := (List.range 40).map fun k => (p + k) % 40

/-- The allowed run lengths, longest first (R106, step 4). -/
def allowedLengths : List Nat := 40 :: ((List.range 37).map fun k => 38 - k)

/-- The first of the lengths for which some offset is accepted, with the first such offset (R106, steps 2 to 4). -/
def searchRun (runs : List Run) (budget watts p : Nat) : List Nat → Option (Nat × Nat)
  | [] => none
  | n :: shorter =>
    match (offsetsFrom p).find? fun s => fits runs budget watts s n with
    | some s => some (s, n)
    | none => searchRun runs budget watts p shorter

/-- The run given to a load of rated power `watts` that asks for `r` slices (R106). -/
def placeRun (runs : List Run) (budget watts p r : Nat) : Option (Nat × Nat) :=
  if r = 0 ∨ budget < watts then none
  else searchRun runs budget watts p (allowedLengths.filter fun n => n ≤ r)

/-! ## A pass -/

/-- The entry of a load before placement: its d and r, its preferred offset, and nothing granted (R101, R102, R105). -/
def requestEntry (running : Bool) (i : LoadInput) : Entry :=
  let d := slicesOf (effectiveDuty running i)
  let r := requestOf i.record.carry d i.arrears
  { d := d, r := r, g := 0, s := none, p := (preferredOffset i).1, pinned := (preferredOffset i).2,
    shortfall := decide (0 < r) }

/-- An entry with its run granted (R107). -/
def Entry.granted (e : Entry) (s n : Nat) : Entry := { e with g := n, s := some s, shortfall := decide (n < e.r) }

/-- What a pass has placed: the runs, and the entries of the loads. -/
structure Placing where
  runs : List Run
  entries : PerLoad Entry
  deriving DecidableEq, Repr

/-- One load taken in placement order (R104, R106). -/
def placeLoad (t : Snapshot) (acc : Placing) (l : Load) : Placing :=
  let i := t.loads.get l
  let e := requestEntry t.running i
  match placeRun acc.runs t.budget i.record.power e.p e.r with
  | none => acc
  | some (s, n) =>
    { runs := ⟨s, n, i.record.power⟩ :: acc.runs, entries := acc.entries.set l (e.granted s n) }

/-- The loads in placement order: the points in rank order, the loads of a point in ascending number (R104). -/
def Rank.placementOrder (r : Rank) : List Load := r.toList.flatMap fun e => e.point.loads

/-- A pass before its first load. -/
def Snapshot.placing (t : Snapshot) : Placing :=
  { runs := [], entries := .of fun l => requestEntry t.running (t.loads.get l) }

/-- The plan of a pass (R104, R107). -/
def Snapshot.plan (t : Snapshot) : Plan :=
  { serial := t.serial, budget := t.budget,
    entries := (t.rank.placementOrder.foldl (placeLoad t) t.placing).entries }

/-! ## Plans -/

/-- Whether a load's run in a plan covers a slice. -/
def Entry.covers (e : Entry) (n : Nat) : Bool :=
  match e.s with
  | some s => Machine.covers s e.g n
  | none => false

/-- The sum of the rated powers of the loads whose runs cover a slice (R118). -/
def Plan.total (t : Plan) (powers : Load → Nat) (n : Nat) : Nat :=
  (Load.all.map fun l => if (t.entries.get l).covers n then powers l else 0).sum

/-- An entry emptied: it keeps its p and pinned (R99). -/
def Entry.emptied (e : Entry) : Entry := Entry.empty e.p e.pinned

/-- A plan with the entries of some loads emptied (R113, R115). -/
def Plan.without (t : Plan) (out : Load → Bool) : Plan :=
  { t with entries := .of fun l => if out l then (t.entries.get l).emptied else t.entries.get l }

/-! ## The reference problem of the self-test (R180) -/

/-- A load of the reference problem. -/
def referenceLoad (power duty : Nat) (carry : Bool) : LoadInput :=
  { gateOpen := true, duty := duty, restriction := .free, record := { power := power, carry := carry, pin := none },
    arrears := 0, start := none, grant := 0 }

/-- The reference problem: the budget-limited period of the worked plans. -/
def referenceProblem : Snapshot :=
  { serial := 0, running := true, budget := 4600,
    rank := { first := .ov, second := .z6, third := .z7, fourth := .gr },
    loads :=
      { l0 := referenceLoad 1800 50 true, l1 := referenceLoad 1200 30 true, l2 := referenceLoad 1200 0 false,
        l3 := referenceLoad 1400 0 false, l4 := referenceLoad 2000 60 false, l5 := referenceLoad 1650 100 true,
        l6 := referenceLoad 1150 100 true } }

/-- The expected grants and starts. -/
def referenceAnswer : List (Load × Nat × Nat) :=
  [(.l4, 24, 0), (.l0, 20, 0), (.l1, 12, 20), (.l5, 16, 24), (.l6, 20, 20)]

/-- Whether a plan is the expected answer, no slice above 4600 W (R180). -/
def referenceMet (t : Plan) : Bool :=
  (referenceAnswer.all fun (l, g, s) => (t.entries.get l).g = g && (t.entries.get l).s = some s) &&
    (List.range 40).all fun n => t.total (fun l => (referenceProblem.loads.get l).record.power) n ≤ 4600

end Sys2Proof.Machine
end

