-- ==== Sys2Proof/Machine/Ops.lean ====
section
/-! DEFINITION. The operations the blocks share: passes and withdrawals (R108, R115, R122), gates and their reasons (R27 to
R36), fault attribution (R31), master lines (R124), the operating state with its hold causes (R171 to R178), system
entries (R161), and what closes every command. -/

namespace Sys2Proof.Machine

/-! ## Restrictions and passes -/

/-- The step a channel is at. -/
def Channel.step (c : Channel) : Option Step := c.current.bind fun k => c.steps[k - 1]?

/-- Whether a load is in a step's element mask (R76). -/
def Step.has (t : Step) (l : Load) : Bool := t.mask.getLsbD l.index

/-- The restriction a channel presents for a load of its point (R76). -/
def Channel.restriction (c : Channel) (l : Load) : Restriction :=
  match c.state with
  | .active =>
    match c.step with
    | some t => if t.has l then .capped t.cap else .held
    | none => .held
  | .waitingAck => .held
  | _ => .free

/-- The restriction of a load (R76, R100): none for the loads of Z6 and Z7. -/
def State.restriction (s : State) (l : Load) : Restriction :=
  match l.point.channel with
  | some c => (s.squ.get c).restriction l
  | none => .free

/-- Whether a point's gate is OPEN: its reason set is empty (R27). -/
def State.gateOpen (s : State) (p : Point) : Bool := Reason.all.all fun r => !(s.ptc.reasons.get p).get r

/-- What a pass reads of a load as the state stands (R108). -/
def State.loadInput (s : State) (l : Load) : LoadInput :=
  { gateOpen := s.gateOpen l.point, duty := s.ptc.duty.get l, restriction := s.restriction l,
    record := s.spl.loads.get l, arrears := s.spl.arrears.get l, start := (s.spl.active.entries.get l).s,
    grant := (s.spl.active.entries.get l).g }

/-- The snapshot of a pass as the state stands (R108). -/
def State.snapshot (s : State) (serial : BitVec 16) : Snapshot :=
  { serial := serial, running := s.stc.op = .run, loads := .of s.loadInput, budget := s.spl.budget, rank := s.ptc.rank }

/-- A pass started: the next serial, BUILDING, and a snapshot; a pass in flight is abandoned (R108, R110). -/
def State.startPass (s : State) : State :=
  s.setSpl { s.spl with serial := s.spl.serial + 1, pending := .building (s.snapshot (s.spl.serial + 1)) }

/-! ## Withdrawals -/

/-- The withdrawal of a load announced to the Slice Planner, for which it is a trigger, and to the Drive Unit (R35, R109,
R115, R122; one trigger for each load, log 15). -/
def State.withdrawLoad (s : State) (l : Load) : State :=
  ((s.setSpl { s.spl with withdrawals := s.spl.withdrawals.set l true }).setDru
    { s.dru with withdrawLoads := s.dru.withdrawLoads.set l true }).startPass

/-- The withdrawals of some loads, in order. -/
def State.withdrawLoads (s : State) (ls : List Load) : State := ls.foldl State.withdrawLoad s

/-- The withdrawal of a gas point's permission line announced to the Drive Unit (R34, R122). -/
def State.withdrawGas (s : State) (z : Gas) : State :=
  s.setDru { s.dru with withdrawGas := s.dru.withdrawGas.set z true }

/-! ## Gates -/

/-- A point's reason set replaced, without an announcement. -/
def State.storeReasons (s : State) (p : Point) (r : PerReason Bool) : State :=
  s.setPtc { s.ptc with reasons := s.ptc.reasons.set p r }

/-- The announcement of a gate that stood at `was` before (R34). -/
def State.announceGate (s : State) (p : Point) (was : Bool) : State :=
  match was, s.gateOpen p with
  | true, false =>
    match p.gas with
    | some z => s.withdrawGas z
    | none => (s.withdrawLoads p.loads).startPass
  | false, true => if p.electric then s.startPass else s
  | _, _ => s

/-- A point's reason set changed: POINT_CHANGED and the gate's announcement; nothing where the set stays as it was (R27,
R34, R36). -/
def State.changeReasons (s : State) (p : Point) (r : PerReason Bool) : State :=
  if r = s.ptc.reasons.get p then s
  else ((s.storeReasons p r).postTo .pointChanged (s.pointAudience p)).announceGate p (s.gateOpen p)

/-- A reason added to a point (R27). -/
def State.addReason (s : State) (p : Point) (r : Reason) : State :=
  s.changeReasons p ((s.ptc.reasons.get p).set r true)

/-- A reason removed from a point (R27). -/
def State.removeReason (s : State) (p : Point) (r : Reason) : State :=
  s.changeReasons p ((s.ptc.reasons.get p).set r false)

/-- HALTED added to every point (R30): each gate that closes is announced. -/
def State.haltGates (s : State) : State := Point.all.foldl (fun t p => t.addReason p .halted) s

/-- HALTED removed from every point, the planner signalled once where an electric gate opens (R30). -/
def State.unhaltGates (s : State) : State :=
  let t := (s.setPtc { s.ptc with reasons := .of fun p => (s.ptc.reasons.get p).set .halted false }).postTo
    .pointChanged fun q => Point.all.any fun p => (s.ptc.reasons.get p).halted && s.pointAudience p q
  if Point.all.any fun p => p.electric && !s.gateOpen p && t.gateOpen p then t.startPass else t

/-! ## Fault attribution -/

/-- The members of the attribution set of one point (R31). -/
def Attribution.onPoint (a : Attribution) (p : Point) : Attribution :=
  { drive := .of fun l => a.drive.get l && l.point = p
    stuckOn := .of fun l => a.stuckOn.get l && l.point = p
    valveUnexpected := .of fun z => a.valveUnexpected.get z && z.point = p
    valve := .of fun z => a.valve.get z && z.point = p
    sensorCav := a.sensorCav && p = .ov
    sensorGrl := a.sensorGrl && p = .gr }

/-- Whether the attribution set of a point has a member. -/
def Attribution.holds (a : Attribution) (p : Point) : Bool := a.onPoint p ≠ Attribution.empty

/-- FAULT of one point after its attribution set stood at `was`: in the reason set exactly while the set has a member
(R31); POINT_CHANGED where a member came or went (R36). -/
def State.followAttribution (s : State) (p : Point) (was : Attribution) : State :=
  if s.ptc.attribution.onPoint p = was then s
  else (s.postTo .pointChanged (s.pointAudience p)).changeReasons p
    ((s.ptc.reasons.get p).set .fault (s.ptc.attribution.holds p))

/-- The attribution sets replaced, point by point in the order of the Point Table (R31, R32). -/
def State.setAttribution (s : State) (a : Attribution) : State :=
  Point.all.foldl (fun t p => t.followAttribution p (s.ptc.attribution.onPoint p))
    (s.setPtc { s.ptc with attribution := a })

/-- DRIVE latched for a load, with its member (R31, R132). -/
def State.latchDrive (s : State) (l : Load) : State :=
  if s.stc.faults.drive.get l then s
  else (s.latch (.drive l)).setAttribution { s.ptc.attribution with drive := s.ptc.attribution.drive.set l true }

/-! ## Master lines and the drive test -/

/-- The level of GMS that the operating state asks (R124). -/
def gmsOf (op : OpState) : Bool := op = .run || op = .hold

/-- The level of EMS that the operating state and the drive test ask (R124). -/
def emsOf (op : OpState) (test : TestStatus) : Bool := op = .run || op = .hold || (op = .config && test = .running)

/-- The master lines as R124 has them. -/
def State.setMasters (s : State) : State :=
  s.setDru { s.dru with gms := gmsOf s.stc.op, ems := emsOf s.stc.op s.dru.test.status }

/-- A running drive test ended early: ABORTED, its counts kept, STATE_CHANGED (R138). The caller sets EMS. -/
def State.abortTest (s : State) : State :=
  if s.dru.test.status = .running then
    (s.setDru { s.dru with test := { s.dru.test with status := .aborted } }).postAll .stateChanged
  else s

/-! ## The halt in force -/

/-- A slot is PAUSED or would start into PAUSED: its pause cause set is not empty (R45). -/
def Timer.paused (t : Timer) : Bool := t.pause.user || t.pause.halt

/-- A WAITING slot with an AT_TIME condition (R49). -/
def Timer.waitsTime (t : Timer) : Bool :=
  t.phase = .waiting && match t.start with
    | .atTime _ _ => true
    | _ => false

/-- A slot's record with one pause cause set or cleared. A cause that is set takes the slot out of the tick and out of the
reading that marked it, but for an AT_TIME wait, which counts on, and for a PROBE stop, which acts on a PAUSED slot too
(R49, R52, R57, R70, R71; log 5, log 6). -/
def Timer.setPause (t : Timer) (c : PauseCause) (v : Bool) : Timer :=
  { t with
    pause := t.pause.set c v
    tickDue := t.tickDue && (!v || t.waitsTime)
    tempMark := t.tempMark && !v }

/-- A non-FREE slot's record changed. -/
def Slot.mapTimer (f : Timer → Timer) (x : Slot) : Slot := { x with timer := x.timer.map f }

/-- HALT added to every WAITING, RUNNING or PAUSED slot that has a point (R69). -/
def Timer.halted (t : Timer) : Timer := if t.point.isSome && t.phase ≠ .expired then t.setPause .halt true else t

/-- The halt in force (R69). -/
def Tme.halted (t : Tme) : Tme := { slots := t.slots.map (Slot.mapTimer Timer.halted), halt := true }

/-- The halt no longer in force, and HALT removed from every slot (R71). -/
def Tme.unhalted (t : Tme) : Tme :=
  { slots := t.slots.map (Slot.mapTimer fun r => r.setPause .halt false), halt := false }

/-! ## Operating state and hold causes -/

/-- An operating state entered: stamped, STATE_CHANGED, and each block told (R171, R172). -/
def State.enterState (s : State) (op : OpState) : State :=
  let a := (s.setStc { s.stc with op := op, enteredAt := s.tbu.seconds }).postAll .stateChanged
  let b := (if op = .config then a else a.abortTest).setMasters
  match op with
  | .run => (b.setTme b.tme.unhalted).unhaltGates
  | .hold | .lockout => (b.setTme b.tme.halted).haltGates
  | .config | .selftest => (b.setTme b.tme.unhalted).haltGates

/-- Whether the hold cause set is empty. -/
def Stc.noHold (t : Stc) : Bool := Hold.all.all fun h => !t.holds.get h

/-- The hold cause set replaced: STATE_CHANGED (R171, R173). -/
def State.storeHolds (s : State) (h : PerHold Bool) : State :=
  (s.setStc { s.stc with holds := h }).postAll .stateChanged

/-- A hold cause added; in RUN with the set empty before, the part enters HOLD (R173). -/
def State.addHold (s : State) (h : Hold) : State :=
  if s.stc.holds.get h then s
  else
    let t := s.storeHolds (s.stc.holds.set h true)
    if s.stc.op = .run ∧ s.stc.noHold then t.enterState .hold else t

/-- A hold cause removed (R173). -/
def State.removeHold (s : State) (h : Hold) : State :=
  if s.stc.holds.get h then s.storeHolds (s.stc.holds.set h false) else s

/-- A LOCKOUT request taken by the State Controller (R178). -/
def State.requestLockout (s : State) : State :=
  match s.stc.op with
  | .config | .run | .hold => s.enterState .lockout
  | .selftest | .lockout => s

/-! ## System entries -/

/-- Whether an entry is the entry of a system cause. -/
def Alert.forCause (e : Alert) (c : SystemCause) : Bool :=
  match e.source with
  | .system d _ => d = c
  | .timer _ => false

/-- A system entry that joins (R161). -/
def systemEntry (c : SystemCause) (now : BitVec 32) : Alert :=
  { source := .system c true, point := none, raisedAt := now, startLevel := 4, level := 4, sounding := true }

/-- The Alert List replaced, ALERT_CHANGED posted to the ports that `who` names (R157, R164). -/
def State.storeAlerts (s : State) (es : List Alert) (who : Port → Bool) : State :=
  (s.setAlc { s.alc with entries := es }).postTo .alertChanged who

/-- The list after a system cause became present (R161). -/
def causeAppears (es : List Alert) (c : SystemCause) (now : BitVec 32) : List Alert :=
  if es.any fun e => e.forCause c then es.map fun e => if e.forCause c then { e with source := .system c true } else e
  else es ++ [systemEntry c now]

/-- The list after a system cause cleared (R161). -/
def causeClears (es : List Alert) (c : SystemCause) : List Alert :=
  (es.filter fun e => !(e.forCause c && !e.sounding)).map fun e =>
    if e.forCause c then { e with source := .system c false } else e

/-- A change of a system cause acted on by the Alert Controller (R161). -/
def State.followCause (s : State) (c : SystemCause) (present : Bool) : State :=
  let es := if present then causeAppears s.alc.entries c s.tbu.seconds else causeClears s.alc.entries c
  if es = s.alc.entries then s else s.storeAlerts es fun _ => true

/-- Every system cause that a command changed acted on, in the order of R157; during SELFTEST nothing (R161). -/
def State.followCauses (old new : State) : State :=
  if new.stc.op = .selftest then new
  else SystemCause.all.foldl (fun t c =>
    if new.causePresent c = old.causePresent c then t else t.followCause c (new.causePresent c)) new

/-! ## What closes every command -/

/-- The snapshot of a pass that the command started, taken after all of the command's changes (R109). -/
def State.retakeSnapshot (old new : State) : State :=
  match new.spl.pending with
  | .building b =>
    if new.spl.serial = old.spl.serial then new
    else new.setSpl { new.spl with pending := .building (new.snapshot b.serial) }
  | _ => new

/-- The lines FLT, ATN and IND set from the sets they follow. -/
def State.setLines (s : State) : State := s.setPins s.lines

/-- What every command ends with: the system causes it changed, the snapshot of the pass it started, and the lines. -/
def settle (old new : State) : State := (old.retakeSnapshot (old.followCauses new)).setLines

end Sys2Proof.Machine
end

