-- ==== Sys2Proof/Machine/Slots.lean ====
section
/-! DEFINITION. The operations on timer slots, their alert entries, notices and sequence channels that several commands
share: starting, expiring, acknowledging and freeing a slot (R42 to R57, R63, R65, R81 to R85). -/

namespace Sys2Proof.Machine

/-! ## Slots -/

/-- A RUNNING slot (R45). -/
def Timer.running (t : Timer) : Bool := t.phase = .started && !t.paused

/-- The record in a slot, if the slot is not FREE. -/
def Tme.timer (t : Tme) (n : Nat) : Option Timer := (t.slots[n]?).bind Slot.timer

/-- Every record of the Timer Table changed. -/
def Tme.mapTimers (f : Timer → Timer) (t : Tme) : Tme := { t with slots := t.slots.map (Slot.mapTimer f) }

/-- The handle of a slot's timer (R43). -/
def Tme.handle (t : Tme) (n : Nat) : Handle := { slot := byteOf n, gen := ((t.slots[n]?).map Slot.gen).getD 0 }

/-- A slot's record replaced; `none` frees the slot, which keeps its generation (R42, R43). -/
def Tme.setTimer (t : Tme) (n : Nat) (v : Option Timer) : Tme :=
  { t with slots := t.slots.modify n fun x => { x with timer := v } }

/-- A FREE slot taken into use: its generation goes up by 1, from 255 to 0 (R43). -/
def Tme.takeSlot (t : Tme) (n : Nat) (v : Timer) : Tme :=
  { t with slots := t.slots.modify n fun x => { gen := x.gen + 1, timer := some v } }

/-- The lowest-numbered FREE slot (R43). -/
def Tme.firstFree (t : Tme) : Option Nat := t.slots.findIdx? fun x => x.timer.isNone

/-- The handle checks of R43: the timer a handle names, or the refusal. -/
def Tme.lookup (t : Tme) (h : Handle) : Except Status Timer :=
  match (if h.slot.toNat < 24 then t.slots[h.slot.toNat]? else none) with
  | none => .error .badValue
  | some x =>
    if x.gen ≠ h.gen then .error .staleHandle
    else match x.timer with
      | none => .error .refusedState
      | some r => .ok r

/-- The records of the non-FREE slots. -/
def Tme.timers (t : Tme) : List Timer := t.slots.filterMap Slot.timer

/-- The number of slots an owner holds (R47). -/
def Tme.held (t : Tme) (o : Owner) : Nat := t.timers.countP fun r => r.owner = o

/-- Whether a point has a non-FREE slot of a kind (R46). -/
def Tme.hasKind (t : Tme) (p : Point) (k : Kind) : Bool := t.timers.any fun r => r.point = some p && r.kind = k

/-- The quota of a role (R47). -/
def Port.quota : Port → Nat
  | .panelA | .panelB => Config.panelQuota
  | .supervisor => Config.supervisorQuota

/-- Whether a role holds its quota (R47). -/
def Tme.quotaFull (t : Tme) (p : Port) : Bool := Port.quota p ≤ t.held (.role p)

/-- The record of one slot replaced in the state. -/
def State.setTimer (s : State) (n : Nat) (v : Option Timer) : State := s.setTme (s.tme.setTimer n v)

/-- Seconds from the time of day to a start time (R49). -/
def secondsTo (start timeOfDay : Nat) : Nat := (start + Config.daySeconds - timeOfDay) % Config.daySeconds

/-- The start condition of a slot that has started: no seconds are left to go. -/
def Start.met : Start → Start
  | .atTime start _ => .atTime start 0
  | .afterLeader _ threshold => .afterLeader none threshold
  | c => c

/-- A slot that starts: remaining is its duration (R45). -/
def Timer.started (t : Timer) : Timer :=
  { t with
    phase := .started, remaining := t.duration, start := t.start.met, tickDue := false, tempMark := false,
    probeMark := false }

/-- A slot that expires: remaining 0, no pause cause, its end cause (R53). -/
def Timer.expired (t : Timer) (c : EndCause) : Timer :=
  { t with
    phase := .expired, remaining := 0, pause := { user := false, halt := false }, endCause := some c,
    tickDue := false, tempMark := false, probeMark := false }

/-- A slot set running for a new time: RUNNING, or PAUSED by HALT where `halt` (R56, R61). -/
def Timer.reloaded (t : Timer) (remaining : Nat) (halt : Bool) : Timer :=
  { t with
    phase := .started, remaining := remaining, pause := { user := false, halt := halt }, endCause := none,
    tickDue := false, tempMark := false, probeMark := false }

/-! ## Posting for a timer, entries and notices -/

/-- The ports that hear of a timer (R164, R199): its owner, both panels where it has none, a STEP slot's controlling port;
the owning panel of its point; the supervisor. -/
def State.timerAudience (s : State) (t : Timer) (q : Port) : Bool :=
  q = .supervisor ||
    (match t.owner with
      | .role p => q = p
      | .nobody => true
      | .channel c => (s.squ.get c).control = some q) ||
    (match t.point with
      | some p => q = (s.ptc.panel.get p).port
      | none => false)

/-- Whether an entry is the entry of a timer (R157). -/
def Alert.forTimer (e : Alert) (h : Handle) : Bool :=
  match e.source with
  | .timer g => g = h
  | .system _ _ => false

/-- The entry of a timer that expires (R158). -/
def timerEntry (h : Handle) (t : Timer) (now : BitVec 32) : Alert :=
  { source := .timer h, point := t.point, raisedAt := now, startLevel := t.level, level := t.level, sounding := true }

/-- A timer's alert entry raised (R158). -/
def State.raiseEntry (s : State) (h : Handle) (t : Timer) : State :=
  s.storeAlerts (s.alc.entries ++ [timerEntry h t s.tbu.seconds]) (s.timerAudience t)

/-- A timer's alert entry removed (R158). -/
def State.removeEntry (s : State) (h : Handle) (t : Timer) : State :=
  s.storeAlerts (s.alc.entries.filter fun e => !e.forTimer h) (s.timerAudience t)

/-- A notice queued, or dropped where the queue holds 4 (R166). -/
def State.queueNotice (s : State) (k : Notice) : State :=
  if s.alc.notices.length < 4 then s.setAlc { s.alc with notices := s.alc.notices ++ [k] } else s

/-! ## Channels -/

/-- Whether a channel is ACTIVE or WAITING_ACK, so that it restricts the loads of its point (R76). -/
def Channel.engaged (c : Channel) : Bool := c.state = .active || c.state = .waitingAck

/-- The ports that hear of a channel (R75): its controlling port, the owning panel of its point, the supervisor. -/
def State.seqAudience (s : State) (c : SeqChan) (q : Port) : Bool :=
  q = .supervisor || (s.squ.get c).control = some q || q = (s.ptc.panel.get c.point).port

/-- A channel record replaced: SEQ_CHANGED, the controlling port taken after the change (R75). -/
def State.changeChannel (s : State) (c : SeqChan) (v : Channel) : State :=
  let t := s.setSqu (s.squ.set c v)
  t.postTo .seqChanged (t.seqAudience c)

/-- A channel that enters EMPTY: no program, no controlling port (R74, R75). -/
def Channel.emptied : Channel := Channel.reset

/-! ## Expiry -/

/-- A MINDER or COOK_END or held STEP slot rests EXPIRED: its entry is raised and TIMER_EXPIRED posted (R53, R56). -/
def State.restExpired (s : State) (n : Nat) (t : Timer) (c : EndCause) : State :=
  ((s.setTimer n (some (t.expired c))).raiseEntry (s.tme.handle n) t).postTo .timerExpired (s.timerAudience t)

/-- The channel's STEP slot reloaded with its next step, which becomes the current one; replan (R81, R82). -/
def State.reloadStep (s : State) (n : Nat) (t : Timer) (c : SeqChan) (k : Nat) (next : Step) : State :=
  (((s.setTimer n (some { t.reloaded next.duration s.tme.halt with duration := next.duration })).changeChannel c
    { s.squ.get c with state := .active, current := some (k + 1) })).startPass

/-- The expiry of a STEP slot handed to the Sequence Unit (R56, R81 to R83). -/
def State.expireStep (s : State) (n : Nat) (t : Timer) (c : SeqChan) : State :=
  let ch := s.squ.get c
  match ch.state, ch.current with
  | .active, some k =>
    match ch.step, ch.steps[k]? with
    | some cur, some next =>
      match cur.action with
      | .next => (s.queueNotice .step).reloadStep n t c k next
      | .pauseForAck => ((s.restExpired n t .time).changeChannel c { ch with state := .waitingAck }).startPass
    | _, _ => (((s.restExpired n t .time).changeChannel c { ch with state := .done }).addReason c.point .timerOff).startPass
  | _, _ => s

/-- The follower of an expired DELAY_START leaves its wait: it starts, or becomes an AT_TEMP wait (R50, R55). -/
def Timer.released (t : Timer) : Timer :=
  match t.start with
  | .afterLeader _ (some threshold) => { t with start := .atTemp threshold }
  | _ => t.started

/-- The follower of a leader released, TIMER_STARTED posted if it started (R55). -/
def State.releaseFollower (s : State) (h : Handle) : State :=
  match s.tme.lookup h with
  | .error _ => s
  | .ok f =>
    let t := s.setTimer h.slot.toNat (some f.released)
    if f.released.phase = .started then t.postTo .timerStarted (s.timerAudience f) else t

/-- The expiry of a DELAY_START (R55). -/
def State.expireDelay (s : State) (n : Nat) (t : Timer) : State :=
  let a := match t.point with
    | some p => s.removeReason p .delay
    | none => s
  let b := match t.follower with
    | some h => a.releaseFollower h
    | none => a
  (((b.queueNotice .started).postTo .timerExpired (s.timerAudience t))).setTimer n none

/-- A slot expires, according to its kind (R53 to R56). -/
def State.expire (s : State) (n : Nat) (t : Timer) (c : EndCause) : State :=
  match t.kind with
  | .minder => s.restExpired n t c
  | .cookEnd =>
    (match t.point with
      | some p => s.addReason p .timerOff
      | none => s).restExpired n t c
  | .delayStart => s.expireDelay n t
  | .step =>
    match t.owner with
    | .channel ch => s.expireStep n t ch
    | _ => s

/-! ## Starts -/

/-- A WAITING slot starts at a tick, a CLOCK_SET or a reading: TIMER_STARTED and its notice (R49). -/
def State.startSlot (s : State) (n : Nat) (t : Timer) (k : Notice) : State :=
  ((s.setTimer n (some t.started)).postTo .timerStarted (s.timerAudience t)).queueNotice k

/-! ## The second tick -/

/-- What the second tick does to a record: counts down, or marks what it brings to 0 (R52, log 5). -/
def Timer.tick (t : Timer) : Timer :=
  match t.phase, t.start with
  | .waiting, .atTime start k =>
    if k ≤ 1 then { t with tickDue := true } else { t with start := .atTime start (k - 1), tickDue := false }
  | .started, _ =>
    if t.paused then { t with tickDue := false }
    else if t.remaining ≤ 1 then { t with tickDue := true }
    else { t with remaining := t.remaining - 1, tickDue := false }
  | _, _ => { t with tickDue := false }

/-- The lowest slot that the tick marked and that is still RUNNING or waiting for its time (R52, log 5). -/
def Tme.tickSlot (t : Tme) : Option Nat :=
  t.slots.findIdx? fun x =>
    match x.timer with
    | some r => r.tickDue && (r.running || r.waitsTime)
    | none => false

/-! ## Acknowledgement and release -/

/-- A slot freed (R42). -/
def State.freeSlot (s : State) (n : Nat) : State := s.setTimer n none

/-- An acknowledged timer entry handed to the Timer Engine, and by it to the Sequence Unit for a STEP slot (R65, R82,
R83). The entry has left the list. -/
def State.acknowledgeSlot (s : State) (n : Nat) (t : Timer) : State :=
  match t.kind, t.owner with
  | .step, .channel c =>
    let ch := s.squ.get c
    match ch.state, ch.current with
    | .waitingAck, some k =>
      match ch.steps[k]? with
      | some next => s.reloadStep n t c k next
      | none => s
    | .done, _ => (s.freeSlot n).changeChannel c { ch with slot := none }
    | _, _ => s
  | .step, _ => s
  | _, _ => s.freeSlot n

/-- A channel's STEP slot freed, its entry removed if it is EXPIRED (R77, R78, R85). -/
def State.freeStepSlot (s : State) (c : SeqChan) : State :=
  match (s.squ.get c).slot with
  | none => s
  | some h =>
    match s.tme.lookup h with
    | .error _ => s
    | .ok t => (if t.phase = .expired then s.removeEntry h t else s).freeSlot h.slot.toNat

end Sys2Proof.Machine
end

