-- ==== Sys2Proof/Machine/Requests.lean ====
section
/-! DEFINITION. What every request and every event shares: the checks of R191 that stand before a block's own, the first
check that fails, the reply and its transmission (R189, R193). -/

namespace Sys2Proof.Machine

/-- What a block makes of a request: the state after it, the status and the data of the reply. -/
structure Taken where
  state : State
  status : Status
  data : List Byte

/-- A request refused: the state as it was, a status, no data (R193). -/
def State.refuse (s : State) (c : Status) : Taken := { state := s, status := c, data := [] }

/-- A request taken and answered OK with its data. -/
def State.taken (s : State) (data : List Byte) : Taken := { state := s, status := .ok, data := data }

/-- A request taken whose work ends later (R193). -/
def State.accepted (s : State) : Taken := { state := s, status := .accepted, data := [] }

/-- The status of the first check that fails. -/
def firstFailure : List (Bool × Status) → Option Status
  | [] => none
  | (fails, c) :: rest => if fails then some c else firstFailure rest

/-- The outcome of a request after its checks: refused at the first that fails, else taken. -/
def State.checked (s : State) (checks : List (Bool × Status)) (take : Taken) : Taken :=
  match firstFailure checks with
  | some c => s.refuse c
  | none => take

/-! ## The checks of a port unit (R191, R192) -/

/-- The codes of the requests that R192 allows the supervisor alone. -/
def supervisorCodes : List Byte :=
  [0x27, 0x32, 0x33, 0x34, 0x39, 0x40, 0x41, 0x42, 0x43, 0x44, 0x45, 0x46, 0x47, 0x48, 0x4A, 0x4B, 0x4C, 0x51, 0x52]

/-- The codes of the requests that reach their block in SELFTEST: STATE_READ and FAULT_READ (R191). -/
def selftestCodes : List Byte := [0x49, 0x50]

/-- Whether a role is allowed a request (R192). -/
def roleAllowed (code : Byte) (p : Port) : Bool := p = .supervisor || !supervisorCodes.contains code

/-- The refusal of the last two checks of R191, of role and SELFTEST, in that order; none where both are passed. -/
def portRefusal (op : OpState) (code : Byte) (p : Port) : Option Status :=
  if roleAllowed code p = false then some .notPermitted
  else if op = .selftest ∧ selftestCodes.contains code = false then some .busy
  else none

/-! ## Requests and their replies (R189, R190, R193) -/

/-- A port unit after a block has formed a reply (R189, R190; log 16): none is begun to a request that a break cut off;
the reply to the request of the frame in service goes into transmission. -/
def PortUnit.answer (u : PortUnit) (i : Instr) (r : Reply) : PortUnit :=
  if u.cutOff.contains i then { u with lastReply := some r, cutOff := u.cutOff.erase i }
  else { u with lastReply := some r, service := if u.service = .handed i then .replying r.frames else u.service }

/-- The reply to a request on a port. -/
def State.answer (s : State) (p : Port) (i : Instr) (r : Reply) : State :=
  s.setPorts (s.ports.set p ((s.ports.get p).answer i r))

/-- What becomes of a request before and in its block: refused under R191, or taken as its block takes it. A request
whose frame its port has dispatched passes here, since neither its role nor, but for a cold reset, SELFTEST can have
come since (log 16). -/
def State.dispatch (s : State) (code : Byte) (p : Port) (take : Taken) : Taken :=
  match portRefusal s.stc.op code p with
  | some c => s.refuse c
  | none => take

/-- The reply a request code and a block's answer make. -/
def Taken.reply (t : Taken) (code : Byte) : Reply := { code := replyCode code, status := t.status, data := t.data }

/-- A request `i` with code `code` from port `p` in state `s`, answered as `take` says where R191 lets it through. -/
def request (i : Instr) (code : Byte) (p : Port) (s : State) (take : Taken) : Host.Outcome State Fault Refusal :=
  let t := s.dispatch code p take
  .next (settle s (t.state.answer p i (t.reply code)))

/-- An event with its effect. -/
def event (s after : State) : Host.Outcome State Fault Refusal := .next (settle s after)

end Sys2Proof.Machine
end

