-- ==== Sys2Proof/Machine/Alerts.lean ====
section
/-! DEFINITION. The Alert Controller: escalation and silencing, acknowledgement, the buzzer and notices, ALERT_LIST (R157 to
R169). -/

namespace Sys2Proof.Machine

/-! ## Ageing (R159) -/

/-- Whether an entry is a timer's. -/
def Alert.isTimer (e : Alert) : Bool :=
  match e.source with
  | .timer _ => true
  | .system _ _ => false

/-- The age of an entry, modulo 2³². -/
def Alert.age (e : Alert) (now : BitVec 32) : Nat := (now - e.raisedAt).toNat

/-- An entry at a second tick: a SOUNDING timer entry rises by one level for each whole 60 s of age. -/
def Alert.escalated (now : BitVec 32) (e : Alert) : Alert :=
  if e.isTimer && e.sounding then { e with level := min 4 (e.startLevel + e.age now / 60) } else e

/-- The escalation of a second tick (R159). -/
def State.escalate (s : State) : State :=
  s.setAlc { s.alc with entries := s.alc.entries.map (Alert.escalated s.tbu.seconds) }

/-- Whether an entry is due to be silenced. -/
def Alert.silenceDue (now : BitVec 32) (e : Alert) : Bool :=
  e.isTimer && e.sounding && Config.silenceAge ≤ e.age now

/-- An entry silenced: it keeps its level. -/
def Alert.silenced (e : Alert) : Alert := { e with sounding := false }

/-- The ports that hear of an entry (R164). -/
def State.entryAudience (s : State) (e : Alert) (q : Port) : Bool :=
  match e.source with
  | .timer h =>
    match s.tme.lookup h with
    | .ok t => s.timerAudience t q
    | .error _ => true
  | .system _ _ => true

/-- The entry at a place in the list silenced (R159, R162). -/
def State.silenceAt (s : State) (n : Nat) (e : Alert) : State :=
  s.storeAlerts (s.alc.entries.set n e.silenced) (s.entryAudience e)

/-- The first entry that meets a condition, with its place. -/
def Alc.first (a : Alc) (f : Alert → Bool) : Option (Nat × Alert) :=
  (a.entries.findIdx? f).bind fun n => (a.entries[n]?).map fun e => (n, e)

/-- The first SOUNDING timer entry whose age has reached 600 s silenced (R159, log 10). -/
def State.silenceOldest (s : State) : State :=
  match s.alc.first (Alert.silenceDue s.tbu.seconds) with
  | some (n, e) => s.silenceAt n e
  | none => s

/-- ALERT_SILENCE (R159). -/
def execAlertSilence (s : State) : Host.Outcome State Fault Refusal := event s s.silenceOldest

/-! ## Acknowledgement (R162) -/

/-- The outcome of an acknowledgement: 0 REMOVED, 1 SILENCED, 2 UNCHANGED (R205). -/
inductive AckOutcome where
  | removed | silenced | unchanged
  deriving DecidableEq, Repr

/-- The byte of an outcome (R205). -/
def AckOutcome.code : AckOutcome → Nat
  | .removed => 0
  | .silenced => 1
  | .unchanged => 2

/-- The source of an entry in bytes 0 to 2 (R205). -/
def encSource : AlertSource → List Byte
  | .timer h => enc1 0 ++ encHandle h
  | .system c _ => enc1 1 ++ enc1 c.code ++ enc1 0

/-- The entry of a timer acknowledged: removed, and the Timer Engine told (R65, R162). -/
def State.ackTimer (s : State) (h : Handle) : State :=
  match s.tme.lookup h with
  | .ok t => (s.removeEntry h t).acknowledgeSlot h.slot.toNat t
  | .error _ => s.storeAlerts (s.alc.entries.filter fun e => !e.forTimer h) fun _ => true

/-- The entry of a system cause acknowledged (R162). -/
def State.ackSystem (s : State) (c : SystemCause) (present : Bool) (n : Nat) (e : Alert) : State × AckOutcome :=
  if present then if e.sounding then (s.silenceAt n e, .silenced) else (s, .unchanged)
  else (s.storeAlerts (s.alc.entries.filter fun x => !x.forCause c) fun _ => true, .removed)

/-- The designated entry acted on (R162). -/
def State.ackEntry (s : State) (n : Nat) (e : Alert) : Taken :=
  match e.source with
  | .timer h => (s.ackTimer h).taken (encSource e.source ++ enc1 AckOutcome.removed.code)
  | .system c present =>
    (s.ackSystem c present n e).1.taken (encSource e.source ++ enc1 (s.ackSystem c present n e).2.code)

/-- The first entry that meets a condition acted on; REFUSED_STATE where there is none (R162). -/
def State.ackFirst (s : State) (f : Alert → Bool) : Taken :=
  match s.alc.first f with
  | some (n, e) => s.ackEntry n e
  | none => s.refuse .refusedState

/-- ALERT_ACK in the Alert Controller (R162). -/
def State.takeAlertAck (s : State) : AckField → Taken
  | .timer h =>
    match s.tme.lookup h with
    | .error c => s.refuse c
    | .ok _ => s.ackFirst fun e => e.forTimer h
  | .cause code =>
    match SystemCause.ofCode code with
    | none => s.refuse .badValue
    | some c => s.ackFirst fun e => e.forCause c
  | .oldest => s.ackFirst Alert.sounding
  | .beyond => s.refuse .badValue

/-- ALERT_ACK (R162). -/
def execAlertAck (p : Port) (what : AckField) (s : State) : Host.Outcome State Fault Refusal :=
  request (.alertAck p what) 0x3D p s (s.takeAlertAck what)

/-! ## The buzzer (R165, R167) -/

/-- The sounding level: the highest level among the SOUNDING entries (R165). -/
def Alc.soundingLevel (a : Alc) : Option Nat := ((a.entries.filter Alert.sounding).map Alert.level).max?

/-- The spacing of a level, in slices (R165). -/
def spacing (level : Nat) : Nat := if level ≤ 1 then 16 else if level = 2 then 8 else if level = 3 then 4 else 2

/-- The notice that plays in the slice that begins, with its slice of four, and the queue left (R167). -/
def Alc.nextNotice (a : Alc) : Option (Notice × Nat) × List Notice :=
  let start := match a.notices with
    | [] => (none, [])
    | k :: rest => (some (k, 1), rest)
  match a.playing with
  | some (k, i) => if i < 4 then (some (k, i + 1), a.notices) else start
  | none => start

/-- Whether BUZ is high in a slice of a notice: in the first and the third (R167). -/
def noticeHigh : Option (Notice × Nat) → Bool
  | some (_, i) => i = 1 || i = 3
  | none => false

/-- The Alert Controller at the boundary into slice `n` (R165, R167). -/
def Alc.atBoundary (a : Alc) (n : Fin 40) : Alc :=
  match a.soundingLevel with
  | some level => { a with buz := n.val % spacing level = 0, playing := none }
  | none => { a with buz := noticeHigh a.nextNotice.1, playing := a.nextNotice.1, notices := a.nextNotice.2 }

/-- BUZ and the notices set for the slice that has begun; BUZ low in SELFTEST (R165). -/
def State.setBuzzer (s : State) : State :=
  s.setAlc (if s.stc.op = .selftest then { s.alc with buz := false } else s.alc.atBoundary s.tbu.slice)

/-! ## ALERT_LIST (R169, R205) -/

/-- The kind and owner of the slot of a timer entry; 0xFF for a system entry (R205). -/
def State.encSlotOwner (s : State) : AlertSource → List Byte
  | .timer h =>
    match s.tme.lookup h with
    | .ok t => enc1 t.kind.code ++ enc1 t.owner.code
    | .error _ => encAbsent 2
  | .system _ _ => encAbsent 2

/-- Byte 11 of an entry: cause present (R205). -/
def encPresent : AlertSource → List Byte
  | .system _ true => enc1 1
  | _ => enc1 0

/-- An entry of 14 bytes (R205). -/
def State.encAlert (s : State) (e : Alert) : List Byte :=
  encSource e.source ++ enc1 ((e.point.map Point.code).getD 0) ++ enc4 e.raisedAt.toNat ++ enc1 e.startLevel ++ enc1 e.level ++
    enc1 (if e.sounding then 0 else 1) ++ encPresent e.source ++ s.encSlotOwner e.source

/-- A kind of notice (R205). -/
def Notice.code : Notice → Nat
  | .started => 1
  | .ready => 2
  | .step => 3

/-- The notice playing and its slice (R205). -/
def encPlaying : Option (Notice × Nat) → List Byte
  | none => enc1 0 ++ encAbsent 1
  | some (k, i) => enc1 k.code ++ enc1 i

/-- The reply of ALERT_LIST (R169, R205). -/
def State.alertRecord (s : State) : List Byte :=
  encList s.encAlert s.alc.entries ++ enc1 (s.alc.soundingLevel.getD 0) ++ encPlaying s.alc.playing ++
    encList (fun k => enc1 (Notice.code k)) s.alc.notices ++ enc2 (bitmap (Point.all.map s.alc.ind))

/-- ALERT_LIST (R169). -/
def execAlertList (p : Port) (s : State) : Host.Outcome State Fault Refusal :=
  request (.alertList p) 0x3C p s (s.taken s.alertRecord)

end Sys2Proof.Machine
end

