-- ==== Sys2Proof/Machine/Drive.lean ====
section
/-! DEFINITION. The Drive Unit: the lines of a slice, samples, conformity groups, valve rules, the verifier, the stuck-on check,
the drive test, and its requests (R121 to R140). -/

namespace Sys2Proof.Machine

/-- Whether a load is fitted (R96). -/
def State.fitted (s : State) (l : Load) : Bool := (s.spl.loads.get l).power ≠ 0

/-! ## The drive test's bars (R135, R136) -/

/-- The bars after a slice of the first has ended. -/
def nextBars : List Bar → List Bar
  | [] => []
  | b :: rest => if b.slices ≤ 1 then rest else { b with slices := b.slices - 1 } :: rest

/-- The drive test at a slice boundary: the first bar begins, or the bar in progress has a slice less (R136). -/
def DriveTest.atBoundary (t : DriveTest) : DriveTest :=
  if t.status = .running then
    if t.begun then { t with left := nextBars t.left } else { t with begun := true }
  else t

/-- The load whose bar covers the slice in progress (R136). -/
def DriveTest.load (t : DriveTest) : Option Load :=
  if t.status = .running ∧ t.begun then t.left.head?.map Bar.load else none

/-- The test has run out of bars, so its completion is due (R137, log 9). -/
def DriveTest.exhausted (t : DriveTest) : Bool := t.status = .running && t.begun && t.left.isEmpty

/-! ## The lines of a slice (R121 to R123, R126) -/

/-- The level of an enable line for the slice in progress (R121, R136; a bar whatever the withdrawal set, log 34). -/
def State.enableLine (s : State) (l : Load) : Bool :=
  (s.stc.op = .run && s.gateOpen l.point && !s.dru.withdrawLoads.get l && (s.spl.active.entries.get l).covers s.tbu.slice.val) ||
    s.dru.test.load = some l

/-- The level of a permission line for the slice in progress (R123). -/
def State.permissionLine (s : State) (z : Gas) : Bool :=
  s.stc.op = .run && s.gateOpen z.point && !s.dru.withdrawGas.get z

/-- A valve grace at a boundary at which the permission line goes from `was` to `is`; `counts` once counting has begun
(R126, log 8). -/
def Grace.atBoundary (g : Grace) (counts was is : Bool) : Grace :=
  if is then .none
  else if was then .counting 0
  else
    match g with
    | .counting n => if counts && n < 5 then .counting (n + 1) else .counting n
    | _ => g

/-- Whether a grace stands at its sixth boundary (R126, log 8). -/
def Grace.dueAt (g : Grace) (due counts was is : Bool) : Bool :=
  !is && !was && (due || (counts && g = .counting 5))

/-- The Drive Unit with the lines of the slice that has begun, the graces, and the withdrawal set emptied (R121 to R126). -/
def State.setDriveLines (s : State) : State :=
  let t := s.setDru { s.dru with test := s.dru.test.atBoundary }
  let out := t.stc.op ≠ .selftest
  let counts := out && s.dru.graceBegun
  t.setDru { t.dru with
    en := .of t.enableLine
    gp := .of t.permissionLine
    grace := .of fun z => (s.dru.grace.get z).atBoundary counts (s.dru.gp.get z) (t.permissionLine z)
    graceDue := .of fun z =>
      (s.dru.grace.get z).dueAt (s.dru.graceDue.get z) counts (s.dru.gp.get z) (t.permissionLine z)
    graceBegun := s.dru.graceBegun || out
    withdrawLoads := .of fun _ => false
    withdrawGas := .of fun _ => false }

/-- VALVE_GRACE_OVER in the Drive Unit: every grace whose sixth boundary has been taken becomes OVER (R126, log 8). -/
def State.endGraces (s : State) : State :=
  s.setDru { s.dru with
    grace := .of fun z => if s.dru.graceDue.get z then .over else s.dru.grace.get z
    graceDue := .of fun _ => false }

/-- VALVE_GRACE_OVER (R126). -/
def execValveGraceOver (s : State) : Host.Outcome State Fault Refusal := event s s.endGraces

/-! ## The period boundary: verifier and stuck-on check (R132, R134) -/

/-- A slice that has ended: a period with an unsampled slice is not usable, nor all sampled (R132, R134). -/
def Dru.endSlice (d : Dru) : Dru :=
  { d with
    verifier := { d.verifier with usable := d.verifier.usable && d.sampled }
    allSampled := d.allSampled && d.sampled }

/-- The standing of a load set. -/
def State.setStanding (s : State) (l : Load) (v : Standing) : State :=
  s.setDru { s.dru with standing := s.dru.standing.set l v }

/-- The verdict on a count of mismatches: PASS at or below the tolerance, FAIL above it, with DRIVE latched (R132, R137). -/
def State.judge (s : State) (l : Load) (count : Nat) : State :=
  if s.dru.verifier.tolerance < count then (s.setStanding l .fail).latchDrive l else s.setStanding l .pass

/-- The evaluation of the period that has ended (R132). -/
def State.verify (s : State) : State :=
  match s.dru.verifier.verified with
  | some l =>
    if s.dru.verifier.usable then
      (s.setDru { s.dru with verifier := { s.dru.verifier with
        last := some { load := l, count := s.dru.counts.verify, pass := s.dru.counts.verify ≤ s.dru.verifier.tolerance }
        } }).judge l s.dru.counts.verify
    else s
  | none => s

/-- The loads in ascending order after a load, wrapping from L6 to L0 and ending with the load itself. -/
def loadsAfter : Option Load → List Load
  | none => Load.all
  | some l => Load.all.drop (l.index + 1) ++ Load.all.take (l.index + 1)

/-- The load the AUTO mode chooses (R132). -/
def State.autoLoad (s : State) : Option Load := (loadsAfter s.dru.verifier.position).find? s.fitted

/-- The verified load of the new period, from the mode (R132). -/
def State.chooseVerified (s : State) : Option Load :=
  match s.dru.verifier.mode with
  | .off => none
  | .fixed l => if s.fitted l then some l else none
  | .auto => s.autoLoad

/-- The verifier at the start of a period: its load chosen and the count 0; usable unless a drive test runs (R132, log 31). -/
def State.startVerifier (s : State) : State :=
  let v := s.dru.verifier
  s.setDru { s.dru with
    verifier := { v with
      verified := s.chooseVerified
      position := if v.mode = .auto then s.autoLoad.or v.position else v.position
      usable := decide (s.dru.test.status ≠ .running) || s.dru.test.exhausted }
    counts := { s.dru.counts with verify := 0 } }

/-- Whether the counts of a period show a load stuck (R134). -/
def Counts.stuck (c : Counts) (l : Load) : Bool := c.driven.get l = 0 && 20 ≤ c.closedLow.get l

/-- STUCK_ON latched for a load, its member added, EMS lowered and LOCKOUT requested (R134, R178). -/
def State.latchStuck (s : State) (l : Load) : State :=
  if s.stc.faults.stuckOn.get l then s
  else
    let t := (s.latch (.stuckOn l)).setAttribution
      { s.ptc.attribution with stuckOn := s.ptc.attribution.stuckOn.set l true }
    (t.setDru { t.dru with ems := false }).requestLockout

/-- The stuck-on check of one fitted load (R134). -/
def State.checkStuck (s : State) (l : Load) : State :=
  let stuck := s.dru.counts.stuck l
  let t := s.setDru { s.dru with findings := s.dru.findings.set l stuck }
  if stuck then t.latchStuck l else t

/-- The stuck-on check of the period that has ended, where every slice of it was sampled (R134). DESIGN CHOICE: the loads are
examined and latch from L0 to L6, which decides first-fault where several are found stuck (R181; log 39). -/
def State.checkAllStuck (s : State) : State :=
  if s.dru.allSampled then Load.all.foldl (fun t l => if s.fitted l then t.checkStuck l else t) s else s

/-- The stuck-on counts at the start of a period (R134). -/
def State.startStuckCounts (s : State) : State :=
  s.setDru { s.dru with
    counts := { s.dru.counts with driven := .of fun _ => 0, closedLow := .of fun _ => 0 }
    allSampled := true }

/-- The Drive Unit at a period boundary, after the lines of slice 0 (R132, R134). -/
def State.drivePeriod (s : State) : State := (s.verify.startVerifier.checkAllStuck).startStuckCounts

/-- The counts as the new slice finds them, the slice not yet sampled (R125). -/
def State.openSlice (s : State) : State :=
  s.setDru { s.dru with atSlice := s.dru.counts, runSpent := .of fun _ => false, sampled := false }

/-! ## The sample (R125 to R130) -/

/-- Whether a relay line mismatches: its contact against its driven line (R126). -/
def Sample.relayOff (t : Sample) (l : Load) : Bool := t.closed.get l != t.en.get l

/-- Whether a valve line mismatches its expected value, the demand and grace of its point as they stand (R126). -/
def Sample.valveOff (t : Sample) (demand : Bool) (g : Grace) (z : Gas) : Bool :=
  if t.gp.get z then t.opened.get z != demand else g = .over && t.opened.get z

/-- The sample of the slice in progress (R125). -/
def State.sampleOf (s : State) (closed : PerLoad Bool) (opened : PerGas Bool) : Sample :=
  { slice := s.tbu.slice, closed := closed, opened := opened, en := s.dru.en, gp := s.dru.gp }

/-- The RELAY group at a sample: FEEDBACK to the supervisor at an entry to MISMATCH (R127). -/
def State.evalRelay (s : State) (t : Sample) : State :=
  match Load.all.find? fun l => s.dru.relay.mask.get l && t.relayOff l with
  | none => s.setDru { s.dru with relay := { s.dru.relay with mismatch := false } }
  | some l =>
    if s.dru.relay.mismatch then s
    else (s.setDru { s.dru with relay := { s.dru.relay with mismatch := true, recorded := some l } }).postTo .feedback
      fun q => q = .supervisor

/-- The VALVE group at a sample: FEEDBACK to the supervisor and the owning panel of the point at an entry to MISMATCH
(R127). -/
def State.evalValve (s : State) (t : Sample) : State :=
  match Gas.all.find? fun z => s.dru.valve.mask.get z && t.valveOff (s.ptc.gas.get z) (s.dru.grace.get z) z with
  | none => s.setDru { s.dru with valve := { s.dru.valve with mismatch := false } }
  | some z =>
    if s.dru.valve.mismatch then s
    else (s.setDru { s.dru with valve := { s.dru.valve with mismatch := true, recorded := some z } }).postTo .feedback
      (s.pointAudience z.point)

/-- VALVE latched for a gas point, its member added, GMS lowered and LOCKOUT requested (R128, R178). -/
def State.latchValve (s : State) (z : Gas) : State :=
  if s.stc.faults.valve.get z then s
  else
    let t := (s.latch (.valve z)).setAttribution { s.ptc.attribution with valve := s.ptc.attribution.valve.set z true }
    (t.setDru { t.dru with gms := false }).requestLockout

/-- The rule of R128 on one gas point. -/
def State.valveRule (t : Sample) (s : State) (z : Gas) : State :=
  if s.dru.grace.get z = .over ∧ t.opened.get z then s.latchValve z else s

/-- Whether a sample finds a gas point's valve open with its line high and its demand OFF (R129). -/
def Sample.unexpectedOpen (t : Sample) (demand : Bool) (z : Gas) : Bool := t.gp.get z && !demand && t.opened.get z

/-- The unexpected-open run that a sample leaves, from the run the slice began with (R125, R129, log 25). -/
def nextRun (run : Nat) (found : Bool) : Nat := if found then min 6 (run + 1) else 0

/-- The unexpected-open run of a gas point replaced. -/
def State.setRun (s : State) (z : Gas) (n : Nat) : State :=
  s.setDru { s.dru with counts := { s.dru.counts with openRun := s.dru.counts.openRun.set z n } }

/-- VALVE_UNEXPECTED latched for a gas point, its member added, its run 0 for the rest of the slice (R125, R129). -/
def State.latchUnexpected (s : State) (z : Gas) : State :=
  let t := (s.latch (.valveUnexpected z)).setAttribution
    { s.ptc.attribution with valveUnexpected := s.ptc.attribution.valveUnexpected.set z true }
  let u := t.setRun z 0
  u.setDru { u.dru with runSpent := u.dru.runSpent.set z true }

/-- The rule of R129 on one gas point: a slice whose earlier sample latched leaves the run at 0 (log 25). -/
def State.unexpectedRule (t : Sample) (s : State) (z : Gas) : State :=
  let n := nextRun (s.dru.atSlice.openRun.get z) (t.unexpectedOpen (s.ptc.gas.get z) z)
  if s.dru.runSpent.get z then s.setRun z 0
  else if n = 6 ∧ s.stc.faults.valveUnexpected.get z = false then s.latchUnexpected z else s.setRun z n

/-- Whether a sample finds the burner-out condition (R130). -/
def Sample.burnerOut (t : Sample) (demand : Bool) (z : Gas) : Bool := t.gp.get z && demand && !t.opened.get z

/-- The rule of R130 on one gas point: BURNER_OUT to its owning panel where the indication was clear. -/
def State.burnerRule (t : Sample) (s : State) (z : Gas) : State :=
  let out := t.burnerOut (s.ptc.gas.get z) z
  let u := s.setDru { s.dru with burnerOut := s.dru.burnerOut.set z out }
  if out && !s.dru.burnerOut.get z then u.postTo .feedback fun q => q = (s.ptc.panel.get z.point).port else u

/-- The counts that a sample leaves, from those the slice began with, the runs of R129 apart (R132, R134, R136); the test
counts of a test that has ended stay (R138). -/
def State.sampleCounts (s : State) (t : Sample) : Counts :=
  let c := s.dru.atSlice
  { openRun := s.dru.counts.openRun
    verify := c.verify + match s.dru.verifier.verified with
      | some l => (t.relayOff l).toNat
      | none => 0
    driven := .of fun l => c.driven.get l + (t.en.get l).toNat
    closedLow := .of fun l => c.closedLow.get l + (!t.en.get l && t.closed.get l).toNat
    test :=
      if s.dru.test.load.isSome then .of fun l => c.test.get l + (s.dru.test.mask.get l && t.relayOff l).toNat
      else s.dru.counts.test }

/-- A sample taken: recorded, the counts, the groups and the valve rules (R125 to R130, R132, R134, R136). R128 acts on Z1
to Z5, then R129, then R130, an order that decides first-fault where several latch (DESIGN CHOICE, log 35). -/
def State.takeSample (s : State) (t : Sample) : State :=
  let a := s.setDru { s.dru with lastSample := some t, sampled := true, counts := s.sampleCounts t }
  let b := (a.evalRelay t).evalValve t
  let c := Gas.all.foldl (State.valveRule t) b
  let d := Gas.all.foldl (State.unexpectedRule t) c
  Gas.all.foldl (State.burnerRule t) d

/-- SLICE_MIDDLE_SAMPLE (R125): no sample in SELFTEST. -/
def execSliceMiddleSample (closed : PerLoad Bool) (opened : PerGas Bool) (s : State) : Host.Outcome State Fault Refusal :=
  event s (if s.stc.op = .selftest then s else s.takeSample (s.sampleOf closed opened))

/-! ## The drive test (R135, R137 to R139) -/

/-- The loads of a set, in ascending number. -/
def PerLoad.members (t : PerLoad Bool) : List Load := Load.all.filter t.get

/-- The bars of a test of `total` slices over some loads: the last has what is left (R135). -/
def barsOf (total : Nat) (ls : List Load) : List Bar :=
  let b := total / ls.length
  match ls.getLast? with
  | none => []
  | some last =>
    ls.dropLast.map (fun l => { load := l, slices := b }) ++ [{ load := last, slices := total - b * (ls.length - 1) }]

/-- A drive test begun (R135). -/
def State.beginTest (s : State) (mask : PerLoad Bool) (total : Nat) : State :=
  let bars := barsOf total (PerLoad.members mask)
  let d := s.dru
  (s.setDru { d with
    test := { status := .running, mask := mask, length := total, bars := bars, begun := false, left := bars,
              outcome := .of fun _ => .none }
    counts := { d.counts with test := .of fun _ => 0 }
    atSlice := { d.atSlice with test := .of fun _ => 0 }
    verifier := { d.verifier with usable := false } }).setMasters

/-- DRIVE_TEST in the Drive Unit (R135). -/
def State.takeDriveTest (s : State) (bits length : Nat) : Taken :=
  if s.stc.op ≠ .config then s.refuse .refusedState
  else if s.dru.test.status = .running then s.refuse .busy
  else
    match loadsOfBits bits with
    | none => s.refuse .badValue
    | some mask =>
      let ls := PerLoad.members mask
      s.checked
        [(ls.isEmpty, .badValue), (ls.any fun l => !s.fitted l, .badValue),
         (ls.any fun l => decide (s.spl.budget < (s.spl.loads.get l).power), .badValue)]
        (s.beginTest mask (clampNat 10 400 length)).accepted

/-- DRIVE_TEST (R135). -/
def execDriveTest (p : Port) (mask length : Nat) (s : State) : Host.Outcome State Fault Refusal :=
  request (.driveTest p mask length) 0x33 p s (s.takeDriveTest mask length)

/-- The outcome of a test count (R137). -/
def testOutcome (tolerance count : Nat) : Standing := if tolerance < count then .fail else .pass

/-- The completion of a drive test (R137). DESIGN CHOICE: the loads of the mask are evaluated and latch from L0 to L6, which decides
first-fault where several DRIVE latch (R181; log 39). -/
def State.completeTest (s : State) : State :=
  let d := s.dru
  let a := (s.setDru { d with test := { d.test with
    status := .complete
    outcome := .of fun l =>
      if d.test.mask.get l then testOutcome d.verifier.tolerance (d.counts.test.get l) else .none } }).setMasters
  ((PerLoad.members d.test.mask).foldl (fun t l => t.judge l (d.counts.test.get l)) a).postAll .stateChanged

/-- DRIVE_TEST_COMPLETE (R137): when the last bar has ended. -/
def execDriveTestComplete (s : State) : Host.Outcome State Fault Refusal :=
  event s (if s.dru.test.exhausted then s.completeTest else s)

/-- DRIVE_TEST_ABORT in the Drive Unit (R139). -/
def State.takeDriveTestAbort (s : State) : Taken :=
  if s.dru.test.status = .running then s.abortTest.setMasters.taken [] else s.refuse .refusedState

/-- DRIVE_TEST_ABORT (R139). -/
def execDriveTestAbort (p : Port) (s : State) : Host.Outcome State Fault Refusal :=
  request (.driveTestAbort p) 0x34 p s s.takeDriveTestAbort

/-! ## VERIFY_SET (R133) -/

/-- The mode a field names; the outer `none` is a mode that R133 refuses. -/
def modeOfField : ModeField → Option VerifierMode
  | .off => some .off
  | .fixed n => (Load.ofCode n).map .fixed
  | .auto => some .auto
  | .beyond => none

/-- A mode: 0 OFF; 1 FIXED and its load; 2 AUTO. -/
def VerifierMode.enc : VerifierMode → List Byte
  | .off => enc1 0
  | .fixed l => enc1 1 ++ enc1 l.index
  | .auto => enc1 2

/-- The Drive Unit with the fields of a VERIFY_SET stored (R133). -/
def Dru.verifySet (d : Dru) (mode : Option ModeField) (tolerance relay valve : Option Nat) : Dru :=
  { d with
    verifier := { d.verifier with
      mode := (mode.bind modeOfField).getD d.verifier.mode
      tolerance := (tolerance.map (clampNat 0 10)).getD d.verifier.tolerance }
    relay := { d.relay with mask := (relay.bind loadsOfBits).getD d.relay.mask }
    valve := { d.valve with mask := (valve.bind gasOfBits).getD d.valve.mask } }

/-- The settings of VERIFY_SET as stored. -/
def Dru.settings (d : Dru) : List Byte :=
  d.verifier.mode.enc ++ enc1 d.verifier.tolerance ++ encLoads d.relay.mask ++ encGas d.valve.mask

/-- VERIFY_SET in the Drive Unit (R133). -/
def State.takeVerifySet (s : State) (mode : Option ModeField) (tolerance relay valve : Option Nat) : Taken :=
  let d := s.dru.verifySet mode tolerance relay valve
  s.checked
    [(mode.isNone && tolerance.isNone && relay.isNone && valve.isNone, .badValue),
     (mode.any fun m => (modeOfField m).isNone, .badValue), (relay.any fun n => (loadsOfBits n).isNone, .badValue),
     (valve.any fun n => (gasOfBits n).isNone, .badValue), (s.stc.op = .lockout, .refusedState),
     ((relay.isSome || valve.isSome) && s.stc.op ≠ .config, .refusedState)]
    ((s.setDru d).taken d.settings)

/-- VERIFY_SET (R133). -/
def execVerifySet (p : Port) (mode : Option ModeField) (tolerance relayMask valveMask : Option Nat) (s : State) :
    Host.Outcome State Fault Refusal :=
  request (.verifySet p mode tolerance relayMask valveMask) 0x32 p s
    (s.takeVerifySet mode tolerance relayMask valveMask)

/-! ## FEEDBACK_READ (R140) -/

/-- The last sample: slice, contacts closed as a bitmap, valves open as a bitmap (log 19). -/
def encSample : Option Sample → List Byte
  | none => encAbsent 3
  | some t => enc1 t.slice.val ++ encLoads t.closed ++ encGas t.opened

/-- A valve grace: 0 NONE; 1 COUNTING and its count; 2 OVER (log 19). -/
def Grace.enc : Grace → List Byte
  | .none => enc1 0
  | .counting n => enc1 1 ++ enc1 n
  | .over => enc1 2

/-- A load, absent where there is none. -/
def encLoad (l : Option Load) : List Byte := encOpt 1 (fun x => enc1 (Load.index x)) l

/-- A standing, in the order of R132. -/
def Standing.code : Standing → Nat
  | .none => 0
  | .pass => 1
  | .fail => 2

/-- The outcome of a tested load, PASS or FAIL, absent before the test has completed (R138, R202). -/
def encOutcome : Standing → List Byte
  | .none => encAbsent 1
  | .pass => enc1 0
  | .fail => enc1 1

/-- The verifier's last result, absent where there is none (log 19). -/
def encVerdict : Option VerifierResult → List Byte
  | none => encAbsent 3
  | some r => enc1 r.load.index ++ enc1 r.count ++ enc1 (if r.pass then 0 else 1)

/-- The conformity groups: mask, state, recorded line, a line by its place in its group (R202, log 19). -/
def Dru.groups (d : Dru) : List Byte :=
  encLoads d.relay.mask ++ enc1 d.relay.mismatch.toNat ++ encLoad d.relay.recorded ++ encGas d.valve.mask ++
    enc1 d.valve.mismatch.toNat ++ encOpt 1 (fun z => enc1 (Gas.index z)) d.valve.recorded

/-- The verifier part. -/
def Dru.verifierRecord (d : Dru) : List Byte :=
  let v := d.verifier
  v.mode.enc ++ enc1 v.tolerance ++ encLoad v.verified ++ enc1 d.counts.verify ++ encYes v.usable ++ encLoad v.position ++
    encVerdict v.last ++ Load.all.flatMap fun l => enc1 (d.standing.get l).code

/-- The status of the drive-test record. -/
def TestStatus.code : TestStatus → Nat
  | .none => 0
  | .running => 1
  | .complete => 2
  | .aborted => 3

/-- The drive-test record (R138, R140); with status NONE its mask is empty and its T is 0 (log 19, log 28). -/
def Dru.testRecord (d : Dru) : List Byte :=
  let t := d.test
  enc1 t.status.code ++ encLoads t.mask ++ enc2 t.length ++ encList (fun b => enc2 (Bar.slices b)) t.bars ++
    (match t.load, t.left with
      | some l, b :: _ => enc1 l.index ++ enc2 b.slices
      | _, _ => encAbsent 3) ++
    (PerLoad.members t.mask).flatMap fun l => enc2 (d.counts.test.get l) ++ encOutcome (t.outcome.get l)

/-- The withdrawal set: one bitmap over L0 to L6 and Z1 to Z5 (R122, R202). -/
def Dru.withdrawalRecord (d : Dru) : List Byte :=
  enc2 (bitmap (Load.all.map d.withdrawLoads.get ++ Gas.all.map d.withdrawGas.get))

/-- The reply of FEEDBACK_READ (R140); the levels of a group of lines are a bitmap, 1 for high (log 19). -/
def Dru.record (d : Dru) : List Byte :=
  encLoads d.en ++ encGas d.gp ++ encLevel d.gms ++ encLevel d.ems ++ encSample d.lastSample ++ d.withdrawalRecord ++
    d.groups ++
    (Gas.all.flatMap fun z => (d.grace.get z).enc ++ enc1 (d.counts.openRun.get z) ++ encYes (d.burnerOut.get z)) ++
    d.verifierRecord ++
    (Load.all.flatMap fun l => enc1 (d.counts.driven.get l) ++ enc1 (d.counts.closedLow.get l) ++ encYes (d.findings.get l)) ++
    d.testRecord

/-- FEEDBACK_READ (R140). -/
def execFeedbackRead (p : Port) (s : State) : Host.Outcome State Fault Refusal :=
  request (.feedbackRead p) 0x31 p s (s.taken s.dru.record)

end Sys2Proof.Machine
end

