-- ==== Sys2Proof/Machine/Points.lean ====
section
/-! DEFINITION. The Point Controller's requests: POINT_DEMAND, POINT_READ, CFG_RANK and CFG_ASSIGN, and what it does at a
warm restart (R23 to R41). -/

namespace Sys2Proof.Machine

/-! ## Demand (R23 to R26) -/

/-- The demand source of a point (R23). -/
def State.demandSource (s : State) (p : Point) : Port :=
  if p = .ov then .supervisor else (s.ptc.panel.get p).port

/-- The duties of some loads stored. -/
def PerLoad.setAll (t : PerLoad Nat) : List (Load × Nat) → PerLoad Nat
  | [] => t
  | (l, d) :: rest => PerLoad.setAll (t.set l d) rest

/-- The demand of a gas point stored; POINT_CHANGED where it changed (R26, R36). -/
def State.storeGas (s : State) (z : Gas) (on : Bool) : State :=
  let t := s.setPtc { s.ptc with gas := s.ptc.gas.set z on }
  if s.ptc.gas.get z = on then t else t.postTo .pointChanged (s.pointAudience z.point)

/-- The demand of a gas point taken: an OFF removes TIMER_OFF (R26). -/
def State.demandGas (s : State) (z : Gas) (on : Bool) : State :=
  let t := s.storeGas z on
  if on then t else t.removeReason z.point .timerOff

/-- The duties of an electric point stored; POINT_CHANGED where one changed (R26, R36). -/
def State.storeDuties (s : State) (p : Point) (ds : List (Load × Nat)) : State :=
  let duty := PerLoad.setAll s.ptc.duty ds
  let t := s.setPtc { s.ptc with duty := duty }
  if duty = s.ptc.duty then t else t.postTo .pointChanged (s.pointAudience p)

/-- The duties of an electric point taken, in the order of R26: stored; TIMER_OFF removed where all are zero; the loads that
fell to zero withdrawn; a replan where a duty changed. -/
def State.demandDuties (s : State) (p : Point) (ds : List (Load × Nat)) : State :=
  let a := s.storeDuties p ds
  let b := if ds.all fun x => x.2 = 0 then a.removeReason p .timerOff else a
  let c := b.withdrawLoads (p.loads.filter fun l => s.ptc.duty.get l ≠ 0 && a.ptc.duty.get l = 0)
  if a.ptc.duty = s.ptc.duty then c else c.startPass

/-- POINT_DEMAND on a point whose demand source sent it (R25, R26). -/
def State.takeDemand (s : State) (p : Point) (d : DemandField) : Taken :=
  match p.gas, d with
  | some z, .gas v =>
    match onOffOfCode v with
    | some on => (s.demandGas z on).taken []
    | none => s.refuse .badValue
  | none, .duties ds =>
    if ds.length ≠ p.loads.length then s.refuse .badValue
    else (s.demandDuties p (p.loads.zip (ds.map fun x => min x 100))).taken []
  | _, _ => s.refuse .badValue

/-- POINT_DEMAND in the Point Controller (R25). -/
def State.takePointDemand (s : State) (role : Port) (code : Nat) (d : DemandField) : Taken :=
  match Point.ofCode code with
  | none => s.refuse .badValue
  | some p => if s.demandSource p = role then s.takeDemand p d else s.refuse .notAssigned

/-- POINT_DEMAND (R25, R26). -/
def execPointDemand (p : Port) (point : Nat) (demand : DemandField) (s : State) : Host.Outcome State Fault Refusal :=
  request (.pointDemand p point demand) 0x10 p s (s.takePointDemand p point demand)

/-! ## Reading (R39) -/

/-- The attribution set of a point: a bitmap over the members this point can have, in the order of R31, every load's DRIVE
before every load's STUCK_ON (log 19). -/
def Attribution.enc (a : Attribution) (p : Point) : List Byte :=
  let gas := match p.gas with
    | some z => [a.valveUnexpected.get z, a.valve.get z]
    | none => []
  let sensor := match p with
    | .ov => [a.sensorCav]
    | .gr => [a.sensorGrl]
    | _ => []
  enc1 (bitmap (p.loads.map a.drive.get ++ p.loads.map a.stuckOn.get ++ gas ++ sensor))

/-- The demand of a point: ON or OFF, or each load with its duty, the load number before the duty (log 19). -/
def State.encDemand (s : State) (p : Point) : List Byte :=
  match p.gas with
  | some z => encYes (s.ptc.gas.get z)
  | none => p.loads.flatMap fun l => enc1 l.index ++ enc1 (s.ptc.duty.get l)

/-- The record of a point as POINT_READ gives it (R39). -/
def State.pointRecord (s : State) (p : Point) : List Byte :=
  enc1 p.code ++ encYes p.gas.isSome ++ enc1 (s.ptc.panel.get p).port.code ++ enc1 (s.demandSource p).code ++
    s.encDemand p ++ encYes (s.gateOpen p) ++ enc1 (bitmap (Reason.all.map (s.ptc.reasons.get p).get)) ++
    s.ptc.attribution.enc p

/-- POINT_READ in the Point Controller (R39); the rank list that ends ALL is a list, with its count byte (R37, R202). -/
def State.takePointRead (s : State) : PointField → Taken
  | .point code =>
    match Point.ofCode code with
    | some p => s.taken (s.pointRecord p)
    | none => s.refuse .badValue
  | .all => s.taken (Point.all.flatMap s.pointRecord ++ encList (fun e => enc1 (EPoint.point e).code) s.ptc.rank.toList)
  | .beyond => s.refuse .badValue

/-- POINT_READ (R39). -/
def execPointRead (p : Port) (what : PointField) (s : State) : Host.Outcome State Fault Refusal :=
  request (.pointRead p what) 0x11 p s (s.takePointRead what)

/-! ## Rank and assignment (R37, R38) -/

/-- CFG_RANK in the Point Controller (R37). -/
def State.takeCfgRank (s : State) (a b c d : Nat) : Taken :=
  if s.stc.op ≠ .config then s.refuse .refusedState
  else
    match EPoint.ofCode a, EPoint.ofCode b, EPoint.ofCode c, EPoint.ofCode d with
    | some w, some x, some y, some z =>
      (s.setPtc { s.ptc with rank := { first := w, second := x, third := y, fourth := z } }).taken []
    | _, _, _, _ => s.refuse .badValue

/-- CFG_RANK (R37). -/
def execCfgRank (p : Port) (first second third fourth : Nat) (s : State) : Host.Outcome State Fault Refusal :=
  request (.cfgRank p first second third fourth) 0x43 p s (s.takeCfgRank first second third fourth)

/-- The demand of a point set to zero; duties that fall from above 0 are withdrawn (R35, R38, R41). -/
def State.zeroDemand (s : State) (p : Point) : State :=
  match p.gas with
  | some z => s.setPtc { s.ptc with gas := s.ptc.gas.set z false }
  | none =>
    (s.setPtc { s.ptc with duty := PerLoad.setAll s.ptc.duty (p.loads.map fun l => (l, 0)) }).withdrawLoads
      (p.loads.filter fun l => s.ptc.duty.get l ≠ 0)

/-- A point given to a panel: its demand set to zero, but for OV, and POINT_CHANGED to both panels (R36, R38). -/
def State.assign (s : State) (x : Point × Panel) : State :=
  if s.ptc.panel.get x.1 = x.2 then s
  else
    let t := s.setPtc { s.ptc with panel := s.ptc.panel.set x.1 x.2 }
    (if x.1 = .ov then t else t.zeroDemand x.1).postAll .pointChanged

/-- An entry of CFG_ASSIGN: a point and a panel, if it names them (R38). -/
def assignEntry (e : AssignField) : Option (Point × Panel) :=
  match Point.ofCode e.point, Panel.ofCode e.role with
  | some p, some q => some (p, q)
  | _, _ => none

/-- The entries of CFG_ASSIGN: one to nine, each point at most once (R38). -/
def assignEntries (es : List AssignField) : Option (List (Point × Panel)) :=
  if es.length = 0 ∨ 9 < es.length ∨ ¬ (es.map AssignField.point).Nodup then none else es.mapM assignEntry

/-- CFG_ASSIGN in the Point Controller (R38). -/
def State.takeCfgAssign (s : State) (es : List AssignField) : Taken :=
  if s.stc.op ≠ .config then s.refuse .refusedState
  else
    match assignEntries es with
    | none => s.refuse .badValue
    | some xs => (xs.foldl State.assign s).taken []

/-- CFG_ASSIGN (R38). -/
def execCfgAssign (p : Port) (entries : List AssignField) (s : State) : Host.Outcome State Fault Refusal :=
  request (.cfgAssign p entries) 0x42 p s (s.takeCfgAssign entries)

/-! ## Warm restart (R41) -/

/-- Whether a point's demand is zero. -/
def State.demandZero (s : State) (p : Point) : Bool :=
  match p.gas with
  | some z => !s.ptc.gas.get z
  | none => p.loads.all fun l => s.ptc.duty.get l = 0

/-- One point at a warm restart: demand zero, HALTED alone and FAULT where the attribution set is not empty (R41);
POINT_CHANGED is posted where the demand or the reason set changes, and for no other point (R36; log 38). -/
def State.restartPoint (s : State) (p : Point) : State :=
  let t := (s.zeroDemand p).changeReasons p
    { delay := false, timerOff := false, halted := true, fault := s.ptc.attribution.holds p, overtemp := false }
  if s.demandZero p then t else t.postTo .pointChanged (s.pointAudience p)

/-- The Point Controller at a warm restart (R41). -/
def State.restartPoints (s : State) : State := Point.all.foldl State.restartPoint s

end Sys2Proof.Machine
end

