-- ==== Sys2Proof/Machine/Planner.lean ====
section
/-! DEFINITION. The Slice Planner: passes, boundaries, and its requests (R96 to R120). -/

namespace Sys2Proof.Machine

/-! ## Passes (R110) -/

/-- The pass in flight completes (R110). -/
def State.completePass (s : State) : State :=
  match s.spl.pending with
  | .building b => s.setSpl { s.spl with pending := .complete b.plan }
  | _ => s

/-- PASS_COMPLETE (R110). -/
def execPassComplete (s : State) : Host.Outcome State Fault Refusal := event s s.completePass

/-! ## Boundaries (R111 to R115) -/

/-- The withdrawals of the withdrawal set applied: entries emptied, arrears 0, the set emptied (R115). -/
def Spl.withdrawn (t : Spl) : Spl :=
  { t with
    active := t.active.without t.withdrawals.get
    arrears := .of fun l => if t.withdrawals.get l then 0 else t.arrears.get l
    withdrawals := .of fun _ => false }

/-- The withdrawals due at a slice boundary (R115). -/
def State.applyWithdrawals (s : State) : State := s.setSpl s.spl.withdrawn

/-- The new active plan of a period boundary: the pending plan, or the active plan repeated or kept (R111, R112). -/
def Spl.turned (t : Spl) : Spl :=
  match t.pending with
  | .complete p => { t with active := p, pending := .none }
  | .building _ => { t with repeats := min 255 (t.repeats + 1), pending := .none }
  | .none => t

/-- Whether the filter of a period boundary empties a load: its gate closed, or its stored duty 0 (R113). -/
def State.filtered (s : State) (l : Load) : Bool := !s.gateOpen l.point || s.ptc.duty.get l = 0

/-- The arrears of every load updated from the plan just made active (R103). -/
def Spl.charged (t : Spl) : Spl :=
  { t with arrears := .of fun l =>
      arrearsAfter (t.loads.get l).carry (t.arrears.get l) (t.active.entries.get l).d (t.active.entries.get l).g }

/-- Whether a load passes from no shortfall to shortfall (R114). -/
def newShortfall (before after : Plan) (l : Load) : Bool :=
  !(before.entries.get l).shortfall && (after.entries.get l).shortfall

/-- SHORTFALL posted to the demand sources of the loads that newly fall short (R114). -/
def State.reportShortfall (s : State) (before : Plan) : State :=
  s.postTo .shortfall fun q => Load.all.any fun l => newShortfall before s.spl.active l && s.demandSource l.point = q

/-- The Slice Planner at a period boundary, in the order of R111. -/
def State.periodBoundary (s : State) : State :=
  let a := s.setSpl s.spl.turned
  let b := (a.setSpl { a.spl with active := a.spl.active.without a.filtered }).applyWithdrawals
  let c := b.setSpl b.spl.charged
  (c.reportShortfall s.spl.active).startPass

/-! ## CFG_LOADS and CFG_BUDGET (R97, R98) -/

/-- Whether an entry of CFG_LOADS is as R97 asks. -/
def loadFieldAllowed (f : LoadField) : Bool :=
  (Load.ofCode f.load).isSome && (f.power.isSome || f.carry.isSome || f.pin.isSome) && f.power.all powerAllowed &&
    (f.carry.all fun c => (onOffOfCode c).isSome) && f.pin.all fun p => (pinOfCode p).isSome

/-- Whether a list of CFG_LOADS is one to seven entries of distinct loads (R97). -/
def loadFieldsAllowed (fs : List LoadField) : Bool :=
  1 ≤ fs.length && fs.length ≤ 7 && fs.all loadFieldAllowed && decide ((fs.map LoadField.load).Nodup)

/-- A Load Table record with an entry's fields (R97). -/
def LoadRecord.updated (r : LoadRecord) (f : LoadField) : LoadRecord :=
  { power := f.power.getD r.power, carry := (f.carry.bind onOffOfCode).getD r.carry,
    pin := (f.pin.bind pinOfCode).getD r.pin }

/-- An entry of CFG_LOADS applied: a carry set to OFF ends the load's arrears (R97, R103). -/
def Spl.applyLoad (t : Spl) (f : LoadField) : Spl :=
  match Load.ofCode f.load with
  | none => t
  | some l =>
    { t with
      loads := t.loads.set l ((t.loads.get l).updated f)
      arrears := if f.carry.bind onOffOfCode = some false then t.arrears.set l 0 else t.arrears }

/-- Whether a drive test runs in CONFIG (R97, R98). -/
def State.testing (s : State) : Bool := s.stc.op = .config && s.dru.test.status = .running

/-- CFG_LOADS in the Slice Planner (R97). -/
def State.takeCfgLoads (s : State) (fs : List LoadField) : Taken :=
  s.checked [(s.stc.op ≠ .config, .refusedState), (s.testing, .busy), (!loadFieldsAllowed fs, .badValue)]
    ((s.setSpl (fs.foldl Spl.applyLoad s.spl)).startPass.taken [])

/-- CFG_LOADS (R97). -/
def execCfgLoads (p : Port) (entries : List LoadField) (s : State) : Host.Outcome State Fault Refusal :=
  request (.cfgLoads p entries) 0x40 p s (s.takeCfgLoads entries)

/-- CFG_BUDGET in the Slice Planner (R98). -/
def State.takeCfgBudget (s : State) (watts : Nat) : Taken :=
  s.checked [(s.testing, .busy), (s.stc.op = .lockout, .refusedState)]
    ((s.setSpl { s.spl with budget := budgetOf watts }).startPass.taken (enc2 (budgetOf watts)))

/-- CFG_BUDGET (R98). -/
def execCfgBudget (p : Port) (watts : Nat) (s : State) : Host.Outcome State Fault Refusal :=
  request (.cfgBudget p watts) 0x41 p s (s.takeCfgBudget watts)

/-! ## PLAN_READ (R118, R204) -/

/-- A pin, NONE as 0xFF (R202). -/
def encPin (p : Option Nat) : List Byte := encOpt 1 enc1 p

/-- A plan entry in six bytes (R204). -/
def Entry.enc (e : Entry) : List Byte :=
  enc1 e.d ++ enc1 e.r ++ enc1 e.g ++ encOpt 1 enc1 e.s ++ enc1 e.p ++ enc1 (e.pinned.toNat + 2 * e.shortfall.toNat)

/-- The plan record of 126 bytes (R204). -/
def Spl.planRecord (t : Spl) (p : Plan) : List Byte :=
  enc2 p.serial.toNat ++ enc2 p.budget ++ (Load.all.flatMap fun l => (p.entries.get l).enc) ++
    (List.range 40).flatMap fun n => enc2 (p.total (fun l => (t.loads.get l).power) n)

/-- The pending status (R99). -/
def Pending.code : Pending → Nat
  | .none => 0
  | .building _ => 1
  | .complete _ => 2

/-- The header of 42 bytes (R204). -/
def Spl.header (t : Spl) : List Byte :=
  enc1 t.pending.code ++ enc2 t.serial.toNat ++ enc1 t.repeats ++ enc2 t.budget ++
    (Load.all.flatMap fun l =>
      enc2 (t.loads.get l).power ++ encYes (t.loads.get l).carry ++ encPin (t.loads.get l).pin ++ enc1 (t.arrears.get l)) ++
    encLoads t.withdrawals

/-- The plan part of PLAN_READ for the pending plan: present while the status is COMPLETE (R118). -/
def Spl.pendingRecord (t : Spl) : List Byte :=
  match t.pending with
  | .complete p => t.planRecord p
  | _ => []

/-- PLAN_READ in the Slice Planner (R118). -/
def State.takePlanRead (s : State) (which : Nat) : Taken :=
  match which with
  | 0 => s.taken (s.spl.header ++ s.spl.planRecord s.spl.active)
  | 1 => s.taken (s.spl.header ++ s.spl.pendingRecord)
  | _ => s.refuse .badValue

/-- PLAN_READ (R118). -/
def execPlanRead (p : Port) (which : Nat) (s : State) : Host.Outcome State Fault Refusal :=
  request (.planRead p which) 0x30 p s (s.takePlanRead which)

/-! ## Warm restart (R120) -/

/-- The Slice Planner at a warm restart (R120). -/
def Spl.restarted (t : Spl) : Spl :=
  { t with
    active := { serial := t.serial, budget := t.budget, entries := (t.active.without fun _ => true).entries }
    pending := .none
    arrears := .of fun _ => 0
    withdrawals := .of fun _ => false
    repeats := 0 }

end Sys2Proof.Machine
end

