-- ==== Sys2Proof/Machine/Sensing.lean ====
section
/-! DEFINITION. The Sensing Unit: scans, conversions, what an update hands on, and its requests (R143 to R155). -/

namespace Sys2Proof.Machine

/-! ## Conversion (R146) -/

/-- The mean of N raw samples, rounded down. -/
def meanOf (samples : List (BitVec 10)) : Nat := (samples.map BitVec.toNat).sum / samples.length

/-- The base temperature of a mean. -/
def baseOf (mean : Nat) : Int := ((mean * 5 / 8 : Nat) : Int) - 40

/-- A temperature calibrated and clamped; the division rounds toward minus infinity. -/
def calibrate (deg : Int) (gain : Nat) (offset : Int) : Int := clampInt (-40) 600 (deg * gain / 64 + offset)

/-- The reading of a mean under a channel's calibration (R146). -/
def readingOf (mean gain : Nat) (offset : Int) : Reading :=
  if 1016 ≤ mean then .open else if mean ≤ 7 then .short else .temp (calibrate (baseOf mean) gain offset)

/-! ## What an update hands on (R148) -/

/-- The hand-on of a CAV or GRL failure: SENSOR latched, and its member added (R149). -/
def State.sensorFails (s : State) (c : Sensor) : State :=
  let t := s.latch (.plain .sensor)
  match c with
  | .cav => t.setAttribution { t.ptc.attribution with sensorCav := true }
  | .grl => t.setAttribution { t.ptc.attribution with sensorGrl := true }
  | _ => t

/-- The limit rule on a reading: OVERTEMP of the point, and the flag (R33, R150). -/
def State.limitRule (s : State) (p : Point) (limit : Int) (f : PlainFlag) (r : Reading) : State :=
  match r with
  | .temp d =>
    if limit ≤ d then (s.addReason p .overtemp).latch (.plain f)
    else if d ≤ limit - 20 then s.removeReason p .overtemp else s
  | .unavailable => s.removeReason p .overtemp
  | _ => s

/-- A WAITING AT_TEMP record tested against a reading of its point's channel: marked where it starts (R49, log 6). -/
def Timer.offerTemp (p : Point) (r : Reading) (t : Timer) : Timer :=
  match t.phase, t.start, r with
  | .waiting, .atTemp threshold, .temp d =>
    if t.point = some p then { t with tempMark := !t.paused && threshold ≤ d } else t
  | .waiting, .atTemp _, _ => if t.point = some p then { t with tempMark := false } else t
  | _, _, _ => t

/-- A COOK_END's PROBE stop tested against a PRB temperature: marked where it is met (R57, log 6). -/
def Timer.offerProbe (d : Int) (t : Timer) : Timer :=
  match t.probe with
  | some threshold => { t with probeMark := t.phase = .started && threshold ≤ d }
  | none => t

/-- The ports that hear of a lost probe: those of each slot that carries a PROBE stop (R57, R199). -/
def State.probeAudience (s : State) (q : Port) : Bool :=
  s.tme.timers.any fun t => t.probe.isSome && s.timerAudience t q

/-- Every PROBE stop removed: FEEDBACK for each slot that carried one (R57). -/
def State.loseProbe (s : State) : State :=
  (s.setTme (s.tme.mapTimers fun t =>
    if t.probe.isSome then { t with probe := none, probeMark := false } else t)).postTo .feedback s.probeAudience

/-- A CAV or GRL reading handed on: failure, limit, timers (R148). -/
def State.handOnPoint (s : State) (c : Sensor) (p : Point) (limit : Int) (f : PlainFlag) (r : Reading) : State :=
  let a := if r = .open ∨ r = .short then s.sensorFails c else s
  let b := a.limitRule p limit f r
  b.setTme (b.tme.mapTimers (Timer.offerTemp p r))

/-- A PRB reading handed on (R57, R153). -/
def State.handOnProbe (s : State) (r : Reading) : State :=
  match r with
  | .temp d => s.setTme (s.tme.mapTimers (Timer.offerProbe d))
  | .short => (s.latch (.plain .probe)).loseProbe
  | _ => s.loseProbe

/-- A BRD reading handed on (R152). -/
def State.handOnBoard (s : State) (r : Reading) : State :=
  match r with
  | .temp d =>
    if 105 ≤ d then (s.latch (.plain .boardOvertemp)).addHold .boardOvertemp
    else if d ≤ 95 then s.removeHold .boardOvertemp else s
  | .unavailable => s.removeHold .boardOvertemp
  | _ => (s.latch (.plain .sensor)).addHold .boardOvertemp

/-- A new reading handed on to the fault, limit and timer rules (R148). -/
def State.handOn (s : State) (c : Sensor) (r : Reading) : State :=
  match c with
  | .cav => s.handOnPoint .cav .ov s.snu.cavLimit .cavOvertemp r
  | .grl => s.handOnPoint .grl .gr s.snu.grlLimit .grlOvertemp r
  | .prb => s.handOnProbe r
  | .brd => s.handOnBoard r

/-- An update of a channel: its reading, mean and stamp stored, and the reading handed on (R143, R148). -/
def State.updateSensor (s : State) (c : Sensor) (r : Reading) (mean : Option Nat) : State :=
  (s.setSnu { s.snu with
    channels := s.snu.channels.set c
      { s.snu.channels.get c with reading := r, mean := mean, updatedAt := some s.tbu.seconds } }).handOn c r

/-! ## Scans (R144) -/

/-- Whether a channel is scanned: in the mask, or CAV (R144). -/
def Snu.scans (t : Snu) (c : Sensor) : Bool := t.mask.get c || c = .cav

/-- The Sensing Unit with a scan begun (R144, R145). -/
def Snu.scanBegun (t : Snu) : Snu :=
  { t with scanN := some t.averaging, lastScan := .of t.scans, scanLeft := Sensor.all.filter t.scans }

/-- A scan begins: each channel that the last scan begun took and this one does not is updated to UNAVAILABLE (R144,
log 36). -/
def State.beginScan (s : State) : State :=
  Sensor.all.foldl (fun u c =>
    if s.snu.lastScan.get c && !s.snu.scans c then u.updateSensor c .unavailable none else u) (s.setSnu s.snu.scanBegun)

/-- The conversion of the next channel of the scan ends (R146). -/
def State.endConversion (s : State) (samples : List (BitVec 10)) : State :=
  match s.snu.scanLeft with
  | [] => s
  | c :: rest =>
    if s.snu.scanN = some samples.length then
      let ch := s.snu.channels.get c
      (s.setSnu { s.snu with scanLeft := rest }).updateSensor c (readingOf (meanOf samples) ch.gain ch.offset)
        (some (meanOf samples))
    else s

/-- CONVERSION_END (R146). -/
def execConversionEnd (samples : List (BitVec 10)) (s : State) : Host.Outcome State Fault Refusal :=
  event s (s.endConversion samples)

/-! ## CFG_LIMITS and SENSE_CONFIG (R151, R154) -/

/-- A limit clamped (R151). -/
def clampLimit (t : Int) : Int := clampInt 100 560 t

/-- CFG_LIMITS in the Sensing Unit (R151). -/
def State.takeCfgLimits (s : State) (cav grl : Option Int) : Taken :=
  let c := (cav.map clampLimit).getD s.snu.cavLimit
  let g := (grl.map clampLimit).getD s.snu.grlLimit
  s.checked [(cav.isNone && grl.isNone, .badValue), (s.stc.op = .lockout, .refusedState)]
    ((s.setSnu { s.snu with cavLimit := c, grlLimit := g }).taken (encTemp c ++ encTemp g))

/-- CFG_LIMITS (R151). -/
def execCfgLimits (p : Port) (cav grl : Option Int) (s : State) : Host.Outcome State Fault Refusal :=
  request (.cfgLimits p cav grl) 0x44 p s (s.takeCfgLimits cav grl)

/-- Whether a calibration entry names a channel and carries a value (R154). -/
def calAllowed (f : CalField) : Bool := (Sensor.ofCode f.channel).isSome && (f.gain.isSome || f.offset.isSome)

/-- Whether a calibration list is one to four entries of distinct channels (R154). -/
def calsAllowed (fs : List CalField) : Bool :=
  1 ≤ fs.length && fs.length ≤ 4 && fs.all calAllowed && decide ((fs.map CalField.channel).Nodup)

/-- A channel record with an entry's calibration, clamped (R147). -/
def SensorRecord.calibrated (r : SensorRecord) (f : CalField) : SensorRecord :=
  { r with
    gain := (f.gain.map fun g => min g 255).getD r.gain
    offset := (f.offset.map (clampInt (-128) 127)).getD r.offset }

/-- The channel records with a calibration list applied. -/
def applyCals (t : PerSensor SensorRecord) (fs : List CalField) : PerSensor SensorRecord :=
  fs.foldl (fun u f =>
    match Sensor.ofCode f.channel with
    | some c => u.set c ((u.get c).calibrated f)
    | none => u) t

/-- A channel record with its calibration restored (R154). -/
def SensorRecord.restored (r : SensorRecord) : SensorRecord := { r with gain := 64, offset := 0 }

/-- The Sensing Unit with the fields of a SENSE_CONFIG applied (R154). -/
def Snu.configured (t : Snu) (mask averaging : Option Nat) (cal : Option (List CalField)) (restore : Bool) : Snu :=
  { t with
    mask := (mask.bind sensorsOfBits).getD t.mask
    averaging := (averaging.map averagingOf).getD t.averaging
    channels :=
      if restore then .of fun c => (t.channels.get c).restored else applyCals t.channels (cal.getD []) }

/-- The stored settings: mask, averaging, and each channel's gain and offset (log 19). -/
def Snu.settings (t : Snu) : List Byte :=
  encSensors t.mask ++ enc1 t.averaging ++
    Sensor.all.flatMap fun c => enc1 (t.channels.get c).gain ++ encOffset (t.channels.get c).offset

/-- SENSE_CONFIG in the Sensing Unit (R154). -/
def State.takeSenseConfig (s : State) (mask averaging : Option Nat) (cal : Option (List CalField)) (restore : Bool) :
    Taken :=
  let t := s.snu.configured mask averaging cal restore
  s.checked
    [(mask.isNone && averaging.isNone && cal.isNone && !restore, .badValue),
     (mask.any fun m => (sensorsOfBits m).isNone, .badValue), (cal.any fun fs => !calsAllowed fs, .badValue),
     (restore && cal.isSome, .badValue), (s.stc.op = .lockout, .refusedState),
     (mask.isSome && s.stc.op ≠ .config, .refusedState)]
    ((s.setSnu t).taken t.settings)

/-- SENSE_CONFIG (R154). -/
def execSenseConfig (p : Port) (mask averaging : Option Nat) (cal : Option (List CalField)) (restore : Bool) (s : State) :
    Host.Outcome State Fault Refusal :=
  request (.senseConfig p mask averaging cal restore) 0x39 p s
    (s.takeSenseConfig mask averaging cal restore)

/-! ## SENSE_READ (R155) -/

/-- A reading: 0 and the temperature; 1 OPEN, 2 SHORT, 3 UNAVAILABLE (log 19). -/
def Reading.enc : Reading → List Byte
  | .temp d => enc1 0 ++ encTemp d
  | .open => enc1 1
  | .short => enc1 2
  | .unavailable => enc1 3

/-- A channel's part of SENSE_READ. -/
def Snu.channelRecord (t : Snu) (c : Sensor) : List Byte :=
  let r := t.channels.get c
  encYes (t.mask.get c) ++ encYes (t.scans c) ++ r.reading.enc ++ encOpt 2 enc2 r.mean ++ enc1 r.gain ++ encOffset r.offset ++
    encOpt 4 (fun u => enc4 (BitVec.toNat u)) r.updatedAt

/-- The reply of SENSE_READ (R155); BOARD_OVERTEMP is 0 where present (log 19). -/
def State.senseRecord (s : State) : List Byte :=
  encSensors s.snu.mask ++ enc1 s.snu.averaging ++ encOpt 1 enc1 s.snu.scanN ++ encTemp s.snu.cavLimit ++
    encTemp s.snu.grlLimit ++ Sensor.all.flatMap s.snu.channelRecord ++ encYes s.stc.holds.boardOvertemp

/-- SENSE_READ (R155). -/
def execSenseRead (p : Port) (s : State) : Host.Outcome State Fault Refusal :=
  request (.senseRead p) 0x38 p s (s.taken s.senseRecord)

end Sys2Proof.Machine
end

