-- ==== Sys2Proof/Machine/Timebase.lean ====
section
/-! DEFINITION. The Timebase Unit: sources, slices and windows, the time of day, and its requests (R1 to R20). -/

namespace Sys2Proof.Machine

/-! ## Nominal, counts and windows -/

/-- The nominal in use (R9). -/
def Tbu.nominal (t : Tbu) : Option Nominal := t.forced.or t.detected

/-- Mains cycles in a slice on MAINS (R1). -/
def Nominal.cycles : Nominal → Nat
  | .hz50 => 25
  | .hz60 => 30

/-- The expected count E of a window (R7). -/
def Nominal.expected : Nominal → Nat
  | .hz50 => 500
  | .hz60 => 600

/-- A window begun now (R6). -/
def Tbu.freshWindow (t : Tbu) : Window := Window.fresh t.mainsPresent t.crystalRunning t.nominal.isSome

/-- The crystal, mains and RC counts of a slice: the active clock's own count is the slice's length (R1, log 4). -/
def Tbu.counts (t : Tbu) (x m c : Nat) : Nat × Nat × Nat :=
  match t.source with
  | .xtal => (Config.crystalSlice, m, c)
  | .mains => (x, (t.sliceNominal.map Nominal.cycles).getD m, c)
  | .rc => (x, m, Config.rcSlice)

/-- A window with the counts of a slice added. -/
def Window.add (w : Window) (n : Nat × Nat × Nat) : Window := { w with x := w.x + n.1, m := w.m + n.2.1, c := w.c + n.2.2 }

/-- Whether an RC slice passes the crystal test (R11). -/
def Tbu.slicePasses (t : Tbu) (x : Nat) : Bool := t.sliceCrystal && Config.qualifyLow ≤ x && x ≤ Config.qualifyHigh

/-- The qualification run after a slice (R11). -/
def Tbu.nextQualRun (t : Tbu) (x : Nat) : Nat :=
  if t.source = .rc then if t.slicePasses x then min 4 (t.qualRun + 1) else 0 else t.qualRun

/-- Whether a slice is even: its boundary is a second tick (R2). -/
def isEven (n : Fin 40) : Bool := n.val % 2 = 0

/-- The time of day a second later (R16). -/
def nextTime (t : Nat) : Nat := if t = Config.maxSeconds then 0 else t + 1

/-- The Timebase Unit over a slice boundary, without a source switch (R2, R3, R6, R11, R16). -/
def Tbu.endSlice (t : Tbu) (x m c : Nat) : Tbu :=
  let n := t.counts x m c
  let w := t.window.map fun v => v.add n
  let slice := t.slice + 1
  let turns := slice = 0 ∨ slice = 20
  { t with
    slice := slice
    seconds := if isEven slice then t.seconds + 1 else t.seconds
    timeOfDay := if isEven slice then t.timeOfDay.map nextTime else t.timeOfDay
    qualRun := t.nextQualRun n.1
    window := if turns then some t.freshWindow else w
    ended := if turns then w.map fun v => (t.source, v) else t.ended
    sliceNominal := t.nominal
    sliceCrystal := t.crystalRunning }

/-! ## Source switch (R14, R15) -/

/-- The Timebase Unit after a switch: the slice restarted, the window abandoned, the runs 0 (R14). -/
def Tbu.switched (t : Tbu) (src : Source) : Tbu :=
  { t with
    source := src, window := none, qualRun := 0, agreeRun := 0, disagreeRun := 0, sliceNominal := t.nominal,
    sliceCrystal := t.crystalRunning }

/-- A source switch: TIMEBASE_CHANGED; TIMEBASE_LOST latched on entering RC; the hold cause TIMEBASE (R13 to R15). -/
def State.switchSource (s : State) (src : Source) : State :=
  let t := (s.setTbu (s.tbu.switched src)).postAll .timebaseChanged
  if src = .rc then (t.latch (.plain .timebaseLost)).addHold .timebase else t.removeHold .timebase

/-- The source that a failure of the crystal as active source leads to (R10, R13). -/
def Tbu.fallback (t : Tbu) : Source := if t.mainsPresent && t.nominal.isSome then .mains else .rc

/-- The crystal fails as active source: FAILED, XTAL latched, and a switch (R10, R13). -/
def State.failCrystal (s : State) : State :=
  ((s.setTbu { s.tbu with crystal := .failed }).latch (.plain .xtal)).switchSource s.tbu.fallback

/-- The crystal qualifies: QUALIFIED, and a switch to XTAL (R11, R12). -/
def State.qualifyCrystal (s : State) : State :=
  (s.setTbu { s.tbu with crystal := .qualified }).switchSource .xtal

/-! ## Crystal and mains (R4, R5, R8, R13) -/

/-- The windows not yet evaluated changed alike: the one in progress, and one that ended and whose WINDOW_END is still to
come (log 7). -/
def Tbu.mapWindows (f : Window → Window) (t : Tbu) : Tbu :=
  { t with window := t.window.map f, ended := t.ended.map fun e => (e.1, f e.2) }

/-- The source left: a window that it ended is dropped; one that ended on RC is recorded and may detect whatever the source
is at its WINDOW_END (R11; log 7). -/
def Tbu.leaveSource (t : Tbu) : Tbu := { t with ended := t.ended.filter fun e => e.1 = .rc }

/-- CRYSTAL_STOP in the Timebase Unit (R5, R11 to R13). -/
def State.crystalStops (s : State) : State :=
  if s.tbu.crystalRunning then
    let t := s.setTbu { s.tbu.mapWindows fun w => { w with crystal := false } with
      crystalRunning := false, qualRun := 0, agreeRun := 0, sliceCrystal := false }
    if s.tbu.source = .xtal then (t.setTbu t.tbu.leaveSource).failCrystal else t
  else s

/-- CRYSTAL_STOP (R5, R13). -/
def execCrystalStop (s : State) : Host.Outcome State Fault Refusal := event s s.crystalStops

/-- CRYSTAL_START (R5). -/
def execCrystalStart (s : State) : Host.Outcome State Fault Refusal :=
  event s (s.setTbu { s.tbu with crystalRunning := true })

/-- The windows once the nominal in use may have become unknown (R7). -/
def Tbu.forgetKnown (t : Tbu) : Tbu := t.mapWindows fun w => { w with known := w.known && t.nominal.isSome }

/-- The detected nominal replaced; TIMEBASE_CHANGED where it changed (R8). -/
def State.setDetected (s : State) (n : Option Nominal) : State :=
  let t := s.setTbu { s.tbu with detected := n }
  if s.tbu.detected = n then t else t.postAll .timebaseChanged

/-- MAINS_LOST in the Timebase Unit (R4, R8, R13). -/
def State.losesMains (s : State) : State :=
  if s.tbu.mainsPresent then
    let a := (s.setTbu { s.tbu.mapWindows fun w => { w with mains := false } with mainsPresent := false }).setDetected none
    let b := a.setTbu a.tbu.forgetKnown
    if s.tbu.source = .mains then (b.setTbu b.tbu.leaveSource).switchSource .rc else b
  else s

/-- MAINS_LOST (R4, R13). -/
def execMainsLost (s : State) : Host.Outcome State Fault Refusal := event s s.losesMains

/-- MAINS_PRESENT (R4). -/
def execMainsPresent (s : State) : Host.Outcome State Fault Refusal :=
  event s (s.setTbu { s.tbu with mainsPresent := true })

/-! ## Windows (R6 to R12) -/

/-- The gross figure G (R7; log 23 for C = 0). -/
def Window.gross (w : Window) : Nat := w.x * Config.windowRc / w.c

/-- Whether a window passes the gross check (R7). -/
def Window.passesGross (w : Window) : Bool := w.crystal && Config.grossLow ≤ w.gross && w.gross ≤ Config.grossHigh

/-- The referenced mains count R, rounded to the nearest with halves up; none where X is 0 (R7). -/
def Window.referenced (w : Window) : Option Nat :=
  if w.x = 0 then none else some ((2 * w.m * Config.windowCrystal + w.x) / (2 * w.x))

/-- Whether R lies within W of E (R7). -/
def Window.near (w : Window) (n : Nominal) (tol : Nat) : Bool :=
  match w.referenced with
  | some r => r ≤ n.expected + tol && n.expected ≤ r + tol
  | none => false

/-- The agreement test of a window: AGREE or DISAGREE where mains was present throughout and the nominal known from its
start, else NOT_EVALUATED (R7, R10). -/
def Tbu.agreement (t : Tbu) (w : Window) : WindowResult :=
  match t.nominal with
  | some n => if w.mains && w.known then if w.near n t.tolerance then .agree else .disagree else .notEvaluated
  | none => .notEvaluated

/-- The nominal a mains count detects (R8). -/
def detectNominal (m : Nat) : Option Nominal :=
  if 475 ≤ m ∧ m ≤ 525 then some .hz50 else if 570 ≤ m ∧ m ≤ 630 then some .hz60 else none

/-- The window begun at the boundary at which the nominal has been detected: known from its start (R7, R8). -/
def Tbu.knowWindow (t : Tbu) : Tbu := { t with window := t.window.map fun w => { w with known := true } }

/-- Nominal detection at the end of a window on XTAL or RC (R8). -/
def State.detect (s : State) (w : Window) : State :=
  if s.tbu.detected.isNone && w.mains && w.detect then
    match detectNominal w.m with
    | some n => (s.setTbu s.tbu.knowWindow).setDetected (some n)
    | none => s
  else s

/-- The last window recorded (R18). -/
def State.recordWindow (s : State) (w : Window) (r : WindowResult) (off : Bool) : State :=
  s.setTbu { s.tbu with last := some { result := r, m := w.m, r := w.referenced, g := w.gross, offNominal := off } }

/-- A DISAGREE of a window on XTAL: the disagreement run, the notice, TIMEBASE_SUSPECT from a run of 3 (R10). -/
def State.disagrees (s : State) : State :=
  let n := min 255 (s.tbu.disagreeRun + 1)
  let t := (s.setTbu { s.tbu with disagreeRun := n }).postAll .timebaseChanged
  if 3 ≤ n then t.latch (.plain .timebaseSuspect) else t

/-- The evaluation of a window on XTAL (R10). -/
def State.evalXtal (s : State) (w : Window) : State :=
  if w.passesGross then
    let t := s.detect w
    let r := t.tbu.agreement w
    let u := t.recordWindow w r (r = .disagree)
    if r = .disagree then u.disagrees else u.setTbu { u.tbu with disagreeRun := 0 }
  else (s.recordWindow w .grossFail false).failCrystal

/-- The result of a window on MAINS (R12). -/
def Tbu.mainsResult (t : Tbu) (w : Window) : WindowResult := if w.passesGross then t.agreement w else .grossFail

/-- The evaluation of a window on MAINS (R12). -/
def State.evalMains (s : State) (w : Window) : State :=
  let r := s.tbu.mainsResult w
  let n := if r = .agree then min 6 (s.tbu.agreeRun + 1) else 0
  let t := s.recordWindow w r false
  let u := t.setTbu { t.tbu with agreeRun := n }
  if n = 6 then u.qualifyCrystal else u

/-- The evaluation of a window on RC (R11): the switch to MAINS where the crystal did not qualify at the same boundary
(log 22). -/
def State.evalRc (s : State) (w : Window) : State :=
  let t := (s.detect w).recordWindow w .notEvaluated false
  if t.tbu.source = .rc ∧ w.mains ∧ w.known ∧ t.tbu.mainsPresent ∧ t.tbu.nominal.isSome then t.switchSource .mains else t

/-- The window that the last boundary ended evaluated under the rule of its source (R6, log 7). -/
def State.evalWindow (s : State) : State :=
  match s.tbu.ended with
  | none => s
  | some (src, w) =>
    let t := s.setTbu { s.tbu with ended := none }
    match src with
    | .rc => t.evalRc w
    | .xtal => if s.tbu.source = .xtal then t.evalXtal w else t
    | .mains => if s.tbu.source = .mains then t.evalMains w else t

/-- WINDOW_END (R6). -/
def execWindowEnd (s : State) : Host.Outcome State Fault Refusal := event s s.evalWindow

/-! ## Requests (R17 to R19) -/

/-- The seconds-to-start of a WAITING AT_TIME slot recomputed; a slot at 0 starts (R49). -/
def State.retime (s : State) (time n : Nat) : State :=
  match s.tme.timer n with
  | some r =>
    match r.phase, r.start with
    | .waiting, .atTime start _ =>
      let t := { r with start := .atTime start (secondsTo start time), tickDue := false }
      if secondsTo start time = 0 then s.startSlot n t .started else s.setTimer n (some t)
    | _, _ => s
  | none => s

/-- CLOCK_SET in the Timebase Unit and the Timer Engine (R17, R49). -/
def State.takeClockSet (s : State) (time : Nat) : Taken :=
  if Config.maxSeconds < time then s.refuse .badValue
  else
    let t := (s.setTbu { s.tbu with timeOfDay := some time }).postAll .timebaseChanged
    ((List.range s.tme.slots.length).foldl (fun u n => u.retime time n) t).taken []

/-- CLOCK_SET (R17). -/
def execClockSet (p : Port) (time : Nat) (s : State) : Host.Outcome State Fault Refusal :=
  request (.clockSet p time) 0x01 p s (s.takeClockSet time)

/-- The reply of CLOCK_READ (R18). -/
def Tbu.clockRecord (t : Tbu) : List Byte := encOpt 3 enc3 t.timeOfDay ++ enc4 t.seconds.toNat ++ enc1 t.slice.val

/-- CLOCK_READ (R18). -/
def execClockRead (p : Port) (s : State) : Host.Outcome State Fault Refusal :=
  request (.clockRead p) 0x02 p s (s.taken s.tbu.clockRecord)

/-- A source, in the order of R1. -/
def Source.code : Source → Nat
  | .xtal => 0
  | .mains => 1
  | .rc => 2

/-- A nominal or an override: 0 UNKNOWN or AUTO, 1 for 50, 2 for 60. -/
def nominalCode : Option Nominal → Nat
  | none => 0
  | some .hz50 => 1
  | some .hz60 => 2

/-- The crystal status, in the order of R5. -/
def CrystalStatus.code : CrystalStatus → Nat
  | .unqualified => 0
  | .qualified => 1
  | .failed => 2

/-- A window's result, in the order of R18; NONE is 4. -/
def WindowResult.code : WindowResult → Nat
  | .agree => 0
  | .disagree => 1
  | .grossFail => 2
  | .notEvaluated => 3

/-- The notice MAINS_OFF_NOMINAL: 0, the one value it has (log 19), and absent where it is not returned (R18, R202). -/
def encOffNominal (b : Bool) : List Byte := if b then enc1 0 else encAbsent 1

/-- The last window in TIMEBASE_READ (R18); while its result is NONE, M, R and G are sent as absent (log 19). -/
def encWindow : Option LastWindow → List Byte
  | none => enc1 4 ++ encAbsent 12 ++ encOffNominal false
  | some w => enc1 w.result.code ++ enc4 w.m ++ encOpt 4 enc4 w.r ++ enc4 w.g ++ encOffNominal w.offNominal

/-- The reply of TIMEBASE_READ (R18). -/
def Tbu.record (t : Tbu) : List Byte :=
  enc1 t.source.code ++ enc1 (nominalCode t.nominal) ++ enc1 (nominalCode t.forced) ++ encYes t.forced.isSome ++
    enc1 t.tolerance ++ encYes t.mainsPresent ++ encYes t.crystalRunning ++ enc1 t.crystal.code ++ enc1 t.qualRun ++
    enc1 t.agreeRun ++ enc1 t.disagreeRun ++ encWindow t.last

/-- TIMEBASE_READ (R18). -/
def execTimebaseRead (p : Port) (s : State) : Host.Outcome State Fault Refusal :=
  request (.timebaseRead p) 0x03 p s (s.taken s.tbu.record)

/-- The window that may no longer detect the nominal: one whose WINDOW_END is still to come, else the one in progress; the
next may (R9, log 21). -/
def Tbu.skipWindow (t : Tbu) : Tbu :=
  match t.ended with
  | some (src, w) => { t with ended := some (src, { w with detect := false }) }
  | none => { t with window := t.window.map fun w => { w with detect := false } }

/-- The Timebase Unit with the override replaced (R9): set to AUTO, the detected nominal becomes the nominal in use on
MAINS and UNKNOWN elsewhere, and detection starts with the next window. -/
def Tbu.override (t : Tbu) (v : Option Nominal) : Tbu :=
  match v with
  | some n => { t with forced := some n }
  | none =>
    Tbu.forgetKnown { t.skipWindow with forced := none, detected := if t.source = .mains then t.nominal else none }

/-- The override set: TIMEBASE_CHANGED where the nominal in use or the detected nominal changed (R8, R19). -/
def State.setOverride (s : State) (v : Option Nominal) : State :=
  let t := s.setTbu (s.tbu.override v)
  if t.tbu.nominal = s.tbu.nominal ∧ t.tbu.detected = s.tbu.detected then t else t.postAll .timebaseChanged

/-- The settings that CFG_TIMEBASE carries stored (R19). -/
def State.storeTimebase (s : State) (mode tol : Option Nat) : State :=
  let t := match mode.bind overrideOfCode with
    | some v => s.setOverride v
    | none => s
  match tol with
  | some w => t.setTbu { t.tbu with tolerance := clampNat 1 60 w }
  | none => t

/-- CFG_TIMEBASE in the Timebase Unit (R19; the order of the checks, log 17). -/
def State.takeCfgTimebase (s : State) (mode tol : Option Nat) : Taken :=
  s.checked
    [(mode.isNone && tol.isNone, .badValue), (mode.any fun m => (overrideOfCode m).isNone, .badValue),
     (s.stc.op = .lockout, .refusedState), (mode.isSome && s.stc.op ≠ .config, .refusedState)]
    ((s.storeTimebase mode tol).taken [])

/-- CFG_TIMEBASE (R19). -/
def execCfgTimebase (p : Port) (mode tolerance : Option Nat) (s : State) : Host.Outcome State Fault Refusal :=
  request (.cfgTimebase p mode tolerance) 0x45 p s (s.takeCfgTimebase mode tolerance)

end Sys2Proof.Machine
end

