-- ==== Sys2Proof/Machine/Boundary.lean ====
section
/-! DEFINITION. SLICE_BOUNDARY: the blocks that act on a slice boundary, a period boundary and a second tick, in the order of
log 11 (R2). -/

namespace Sys2Proof.Machine

/-- The slice that has ended, and the planner's part of the boundary (R2, R111, R115). -/
def State.boundaryPlan (s : State) (x m c : Nat) : State :=
  let t := s.setTbu (s.tbu.endSlice x m c)
  if t.tbu.slice = 0 then t.periodBoundary else t.applyWithdrawals

/-- The Drive Unit's part of the boundary, the lines before the checks of the period ended (R121, R132, R134; log 11). DESIGN CHOICE:
a load found stuck at the boundary that also ends the last bar takes the part to LOCKOUT before the test is completed, so the
record ends ABORTED and no load is evaluated (R134, R137, R138; log 9). -/
def State.boundaryDrive (s : State) : State :=
  let t := (s.setDru s.dru.endSlice).setDriveLines
  (if t.tbu.slice = 0 then t.drivePeriod else t).openSlice

/-- The second tick: timers, escalation, and a scan outside SELFTEST (R2, R52, R144, R159). -/
def State.secondTick (s : State) : State :=
  let t := (s.setTme (s.tme.mapTimers Timer.tick)).escalate
  if t.stc.op = .selftest then t else t.beginScan

/-- A slice boundary (R2): planner, lines, buzzer, second tick, and the switch to XTAL where the crystal has qualified
(R11). -/
def State.sliceBoundary (s : State) (x m c : Nat) : State :=
  let t := ((s.boundaryPlan x m c).boundaryDrive).setBuzzer
  let u := if isEven t.tbu.slice then t.secondTick else t
  if u.tbu.source = .rc ∧ u.tbu.qualRun = 4 then u.qualifyCrystal else u

/-- SLICE_BOUNDARY (R2). -/
def execSliceBoundary (x m c : Nat) (s : State) : Host.Outcome State Fault Refusal := event s (s.sliceBoundary x m c)

end Sys2Proof.Machine
end

