-- ==== Sys2Proof/Machine/Control.lean ====
section
/-! DEFINITION. The State Controller: resets and the self-test, commit, hold, resume and restart, and the fault record's
requests (R171 to R186). -/

namespace Sys2Proof.Machine

/-! ## Cold reset and self-test (R179, R180) -/

/-- COLD_RESET (R179): every block at its cold-reset value; what the model adds, the queue and the count of free values,
stays. -/
def execColdReset (s : State) : Host.Outcome State Fault Refusal :=
  .next ((State.reset.setFree s.free).setPending s.pending)

/-- The first line found out of its off state (R180). -/
def firstLine (lines : BitVec 28) : Option (Fin 28) := (List.finRange 28).find? fun n => lines.getLsbD n.val

/-- The failing part of a self-test, NONE where it passes (R180). -/
def failingPart (found : SelfTestFindings) : FailingPart :=
  match found.march with
  | some .timerStore => .timerStore
  | some .planStore => .planStore
  | none =>
    if found.plannerFault || !referenceMet referenceProblem.plan then .planner
    else match firstLine found.lines with
      | some n => .output n
      | none => .none

/-- The stores as a march test that passes leaves them (R73, R119, R180). -/
def State.marched (s : State) (found : SelfTestFindings) : State :=
  if found.march.isNone then (s.setTme Tme.reset).setSpl Spl.reset else s

/-- The self-test result stored (R180). -/
def State.storeSelfTest (s : State) (v : SelfTestStatus) (f : FailingPart) : State :=
  s.setStc { s.stc with selfTest := { status := v, failing := f, part := none } }

/-- The self-test fails: SELFTEST latched, LOCKOUT entered (R179). -/
def State.selftestFails (s : State) (f : FailingPart) : State :=
  ((s.storeSelfTest .fail f).latch (.plain .selftest)).enterState .lockout

/-- The end of the self-test (R179). -/
def State.endSelftest (s : State) (found : SelfTestFindings) : State :=
  if s.stc.op = .selftest then
    match failingPart found with
    | .none => ((s.marched found).storeSelfTest .pass .none).enterState .config
    | f => (s.marched found).selftestFails f
  else s

/-- SELFTEST_END (R179, R180). -/
def execSelftestEnd (found : SelfTestFindings) (s : State) : Host.Outcome State Fault Refusal :=
  event s (s.endSelftest found)

/-- SELFTEST_TIME_LIMIT (R179); the stores that a march test was at stay as they stood (log 14). -/
def execSelftestTimeLimit (s : State) : Host.Outcome State Fault Refusal :=
  event s (if s.stc.op = .selftest then s.selftestFails .timeLimit else s)

/-! ## CFG_COMMIT (R176) -/

/-- The operating state as a code, in the order of R171. -/
def OpState.code : OpState → Nat
  | .selftest => 0
  | .config => 1
  | .run => 2
  | .hold => 3
  | .lockout => 4

/-- The first fitted load rated above the budget (R176). -/
def Spl.overBudget (t : Spl) : Option Load := Load.all.find? fun l => t.budget < (t.loads.get l).power

/-- The outcome of a CFG_COMMIT (R176). -/
def State.commitResult (s : State) : CommitResult :=
  if s.stc.op ≠ .config then .refusedState
  else if s.stc.holds.timebase then .timebase
  else if !s.ptc.rank.permutation then .rank
  else match s.spl.overBudget with
    | some l => .load l
    | none => if s.snu.mask.cav then .ok else .cavMask

/-- The status of a refused CFG_COMMIT (R176). -/
def CommitResult.status : CommitResult → Status
  | .ok => .ok
  | .refusedState | .timebase => .refusedState
  | .rank | .load _ | .cavMask => .badValue

/-- The detail of a refused CFG_COMMIT (R176). -/
def CommitResult.detail : CommitResult → List Byte
  | .ok | .refusedState => []
  | .timebase => enc1 0
  | .rank => enc1 1
  | .load l => enc1 2 ++ enc1 l.index
  | .cavMask => enc1 3

/-- The last commit result stored (R176). -/
def State.storeCommit (s : State) (r : CommitResult) : State := s.setStc { s.stc with lastCommit := some r }

/-- The state a taken CFG_COMMIT enters (R176). -/
def Stc.commitTarget (t : Stc) : OpState := if t.noHold then .run else .hold

/-- CFG_COMMIT in the State Controller (R176). -/
def State.takeCfgCommit (s : State) : Taken :=
  let r := s.commitResult
  let t := s.storeCommit r
  if r = .ok then (t.enterState s.stc.commitTarget).taken (enc1 s.stc.commitTarget.code)
  else { state := t, status := r.status, data := r.detail }

/-- CFG_COMMIT (R176). -/
def execCfgCommit (p : Port) (s : State) : Host.Outcome State Fault Refusal :=
  request (.cfgCommit p) 0x48 p s s.takeCfgCommit

/-! ## HOLD_REQUEST and RESUME (R174, R175) -/

/-- HOLD_REQUEST in the State Controller (R174). -/
def State.takeHoldRequest (s : State) : Taken :=
  if s.stc.op = .config ∨ s.stc.op = .lockout then s.refuse .refusedState
  else
    let t := s.addHold .supervisorRequest
    t.taken (encHolds t.stc.holds)

/-- HOLD_REQUEST (R174). -/
def execHoldRequest (p : Port) (s : State) : Host.Outcome State Fault Refusal :=
  request (.holdRequest p) 0x4A p s s.takeHoldRequest

/-- Whether a cause other than SUPERVISOR_REQUEST is present (R175). -/
def Stc.otherHold (t : Stc) : Bool := t.holds.supervisorSilent || t.holds.timebase || t.holds.boardOvertemp

/-- RESUME in the State Controller (R175). -/
def State.takeResume (s : State) : Taken :=
  if s.stc.op ≠ .hold then s.refuse .refusedState
  else if s.stc.otherHold then { state := s, status := .refusedState, data := encHolds s.stc.holds }
  else ((s.removeHold .supervisorRequest).enterState .run).taken []

/-- RESUME (R175). -/
def execResume (p : Port) (s : State) : Host.Outcome State Fault Refusal :=
  request (.resume p) 0x4B p s s.takeResume

/-! ## RESTART (R177) -/

/-- The State Controller and the Drive Unit at a warm restart: CONFIG, the test ended, the masters low, the burner-out
indications clear (R142, R177). -/
def State.restartControl (s : State) : State :=
  let a := (s.abortTest.setStc { s.abortTest.stc with op := .config, enteredAt := s.tbu.seconds }).postAll .stateChanged
  let b := a.setMasters.removeHold .supervisorRequest
  b.setDru { b.dru with burnerOut := .of fun _ => false }

/-- The Timer Engine at a warm restart: every slot freed, its generation kept (R73). -/
def Tme.restarted (t : Tme) : Tme := { slots := t.slots.map fun x => { x with timer := none }, halt := false }

/-- The Program Memory Controller at a warm restart: no job, the bus IDLE (R95). -/
def Pmc.restarted (t : Pmc) : Pmc :=
  { t with jobs := [], bus := .idle, progress := Progress.fresh (.burst 0) t.device t.base }

/-- The Alert Controller at a warm restart: its lists emptied; BUZ goes low at the next slice boundary (R170). -/
def Alc.restarted (a : Alc) : Alc := { Alc.reset with buz := a.buz }

/-- A channel that a warm restart leaves as an EMPTY one with no control already is. -/
def Channel.idle (c : Channel) : Bool := c.state = .empty && c.current.isNone && c.control.isNone

/-- A channel at a warm restart: EMPTY, SEQ_CHANGED posted where its state, step or control changes, but for a LOADING one,
whose ended job posts none (R75, R95); a pass starts where a restriction is lifted (R76, R109; log 37). -/
def State.restartChannel (s : State) (c : SeqChan) : State :=
  let ch := s.squ.get c
  let t :=
    if ch.idle || ch.state = .loading then s.setSqu (s.squ.set c Channel.emptied) else s.changeChannel c Channel.emptied
  if ch.engaged then t.startPass else t

/-- A warm restart (R177). -/
def State.warmRestart (s : State) : State :=
  let a := ((s.setSpl s.spl.restarted).restartControl).restartPoints
  let b := SeqChan.all.foldl State.restartChannel (a.setTme a.tme.restarted)
  (b.setPmc b.pmc.restarted).setAlc b.alc.restarted

/-- RESTART in the State Controller (R177). -/
def State.takeRestart (s : State) : Taken :=
  if s.stc.op = .lockout then s.refuse .refusedState else s.warmRestart.taken []

/-- RESTART (R177). -/
def execRestart (p : Port) (s : State) : Host.Outcome State Fault Refusal :=
  request (.restart p) 0x4C p s s.takeRestart

/-! ## FAULT_CLEAR (R182) -/

/-- Whether a channel's last reading is OPEN or SHORT. -/
def State.sensorBad (s : State) (c : Sensor) : Bool :=
  (s.snu.channels.get c).reading = .open || (s.snu.channels.get c).reading = .short

/-- Whether the last sample read a valve open (R131). -/
def State.valveOpen (s : State) (z : Gas) : Bool :=
  match s.dru.lastSample with
  | some t => t.opened.get z
  | none => false

/-- Whether the condition of a flag or member still holds (R20, R93, R131, R149 to R153, R182). -/
def State.stillHolds (s : State) : FaultId → Bool
  | .plain .selftest => s.stc.selfTest.status = .fail
  | .plain .xtal => s.tbu.crystal = .failed
  | .plain .timebaseLost => s.tbu.source = .rc
  | .plain .timebaseSuspect => 3 ≤ s.tbu.disagreeRun
  | .plain .supervisorSilent => s.stc.holds.supervisorSilent
  | .plain .boardOvertemp =>
    match (s.snu.channels.get .brd).reading with
    | .temp d => 95 < d
    | _ => false
  | .plain .cavOvertemp => (s.ptc.reasons.get .ov).overtemp
  | .plain .grlOvertemp => (s.ptc.reasons.get .gr).overtemp
  | .plain .sensor => s.sensorBad .cav || s.sensorBad .grl || s.sensorBad .brd
  | .plain .probe => (s.snu.channels.get .prb).reading = .short
  | .plain .memory => false
  | .drive l => s.dru.standing.get l = .fail
  | .stuckOn l => s.dru.findings.get l
  | .valve z => s.valveOpen z
  | .valveUnexpected z => s.valveOpen z

/-- Whether a flag or member is latched after a FAULT_CLEAR of the named flags: it was, and is not named or latches again. -/
def State.keptFault (s : State) (named : FaultFlag → Bool) (i : FaultId) : Bool :=
  s.stc.faults.get i && (!named i.flag || s.stillHolds i)

/-- The fault record after a FAULT_CLEAR (R182). -/
def State.clearedFaults (s : State) (named : FaultFlag → Bool) : Faults :=
  { plain := .of fun f => s.keptFault named (.plain f)
    drive := .of fun l => s.keptFault named (.drive l)
    stuckOn := .of fun l => s.keptFault named (.stuckOn l)
    valve := .of fun z => s.keptFault named (.valve z)
    valveUnexpected := .of fun z => s.keptFault named (.valveUnexpected z) }

/-- A SENSOR member after a FAULT_CLEAR: where SENSOR is named and was latched, the member of a channel that still reads
OPEN or SHORT (R32, R149). -/
def State.keptSensor (s : State) (named : FaultFlag → Bool) (c : Sensor) (was : Bool) : Bool :=
  if named .sensor && s.stc.faults.plain.sensor then s.sensorBad c else was

/-- The attribution members after a FAULT_CLEAR: those whose flags were cleared and did not latch again have left (R32). -/
def State.clearedAttribution (s : State) (named : FaultFlag → Bool) : Attribution :=
  let a := s.ptc.attribution
  let keep := fun (was : Bool) (i : FaultId) => was && (!s.stc.faults.get i || s.keptFault named i)
  { drive := .of fun l => keep (a.drive.get l) (.drive l)
    stuckOn := .of fun l => keep (a.stuckOn.get l) (.stuckOn l)
    valveUnexpected := .of fun z => keep (a.valveUnexpected.get z) (.valveUnexpected z)
    valve := .of fun z => keep (a.valve.get z) (.valve z)
    sensorCav := s.keptSensor named .cav a.sensorCav
    sensorGrl := s.keptSensor named .grl a.sensorGrl }

/-- A FAULT_CLEAR of the named flags as one change: record, first-fault, attribution, and FAULT_CHANGED where the record
changed (R182). -/
def State.clearFaults (s : State) (named : FaultFlag → Bool) : State :=
  let f := s.clearedFaults named
  let a := s.setStc { s.stc with faults := f, firstFault := if f.any then s.stc.firstFault else none }
  let b := if f = s.stc.faults then a else a.postAll .faultChanged
  b.setAttribution (s.clearedAttribution named)

/-- The members latched of a flag, as a set; nothing for a flag that has no members (R181). -/
def Faults.encMembers (f : Faults) : FaultFlag → List Byte
  | .drive => encLoads f.drive
  | .stuckOn => encLoads f.stuckOn
  | .valve => encGas f.valve
  | .valveUnexpected => encGas f.valveUnexpected
  | .selftest | .xtal | .timebaseLost | .timebaseSuspect | .supervisorSilent | .boardOvertemp | .cavOvertemp
  | .grlOvertemp | .sensor | .probe | .memory => []

/-- Every flag and member latched: the flags as a set, then the members of the four flags that have some (log 19). -/
def Faults.enc (f : Faults) : List Byte :=
  enc2 (bitmap (FaultFlag.all.map f.flagged)) ++ FaultFlag.all.flatMap f.encMembers

/-- Whether a list of flag names is 1 to 15 distinct known names (R182). -/
def flagsAllowed (cs : List Nat) : Bool := 1 ≤ cs.length && cs.length ≤ 15 && decide cs.Nodup && cs.all fun c => c < 15

/-- FAULT_CLEAR in the State Controller (R182). -/
def State.takeFaultClear (s : State) : FlagsField → Taken
  | .flags cs =>
    if flagsAllowed cs then
      let t := s.clearFaults fun f => cs.contains f.index
      t.taken t.stc.faults.enc
    else s.refuse .badValue
  | .all =>
    let t := s.clearFaults fun _ => true
    t.taken t.stc.faults.enc
  | .beyond => s.refuse .badValue

/-- FAULT_CLEAR (R182). -/
def execFaultClear (p : Port) (flags : FlagsField) (s : State) : Host.Outcome State Fault Refusal :=
  request (.faultClear p flags) 0x51 p s (s.takeFaultClear flags)

/-! ## FAULT_MASK (R183) -/

/-- FAULT_MASK in the State Controller (R183). -/
def State.takeFaultMask (s : State) (bits : Nat) : Taken :=
  match flagsOfBits bits with
  | none => s.refuse .badValue
  | some m =>
    if s.stc.op ≠ .config then s.refuse .refusedState
    else (s.setStc { s.stc with faultMask := m }).taken (encFlags m)

/-- FAULT_MASK (R183). -/
def execFaultMask (p : Port) (mask : Nat) (s : State) : Host.Outcome State Fault Refusal :=
  request (.faultMask p mask) 0x52 p s (s.takeFaultMask mask)

/-! ## STATE_READ and FAULT_READ (R184, R185) -/

/-- The self-test result: status, failing part, part in progress (R180); OUTPUT alone is followed by its line, named by its
place in the readback order (log 19). -/
def SelfTest.enc (t : SelfTest) : List Byte :=
  let status := match t.status with
    | .inProgress => 0
    | .pass => 1
    | .fail => 2
  let failing := match t.failing with
    | .none => enc1 0
    | .timerStore => enc1 1
    | .planStore => enc1 2
    | .planner => enc1 3
    | .output n => enc1 4 ++ enc1 n.val
    | .timeLimit => enc1 5
  let part := match t.part with
    | some .march => enc1 0
    | some .reference => enc1 1
    | some .readback => enc1 2
    | none => encAbsent 1
  enc1 status ++ failing ++ part

/-- The last commit result: 0 NONE; 1 OK; 2, the status, and the detail (log 19). -/
def encCommit : Option CommitResult → List Byte
  | none => enc1 0
  | some .ok => enc1 1
  | some r => enc1 2 ++ [r.status.code] ++ r.detail

/-- The status of the drive-test record (R138). -/
def encTestStatus : TestStatus → List Byte
  | .none => enc1 0
  | .running => enc1 1
  | .complete => enc1 2
  | .aborted => enc1 3

/-- The reply of STATE_READ (R184). -/
def State.stateRecord (s : State) : List Byte :=
  enc1 s.stc.op.code ++ enc4 s.stc.enteredAt.toNat ++ encHolds s.stc.holds ++ s.stc.selfTest.enc ++
    encCommit s.stc.lastCommit ++ encTestStatus s.dru.test.status

/-- STATE_READ (R184): taken in SELFTEST too. -/
def execStateRead (p : Port) (s : State) : Host.Outcome State Fault Refusal :=
  request (.stateRead p) 0x49 p s (s.taken s.stateRecord)

/-- The member of a flag, absent where it has none. -/
def FaultId.encMember : FaultId → List Byte
  | .plain _ => encAbsent 1
  | .drive l | .stuckOn l => enc1 l.index
  | .valve z | .valveUnexpected z => enc1 z.point.code

/-- First-fault with its time: flag name, member, seconds counter (R181); a load or a point names the member (log 19). -/
def encFirstFault : Option (FaultId × BitVec 32) → List Byte
  | none => encAbsent 6
  | some (i, t) => enc1 i.flag.index ++ i.encMember ++ enc4 t.toNat

/-- The flags of FAULT_READ, one record for each: latched 0 or clear 1, and after it, in the same record, the set of the
members latched where the flag has members (R185, R202; log 19). -/
def Faults.encRecord (f : Faults) : List Byte := FaultFlag.all.flatMap fun n => encYes (f.flagged n) ++ f.encMembers n

/-- The reply of FAULT_READ (R185); an asserted FLT is low. -/
def State.faultRecord (s : State) : List Byte :=
  s.stc.faults.encRecord ++ encFirstFault s.stc.firstFault ++ encFlags s.stc.faultMask ++ encLevel (!s.pins.flt)

/-- FAULT_READ (R185): taken in SELFTEST too. -/
def execFaultRead (p : Port) (s : State) : Host.Outcome State Fault Refusal :=
  request (.faultRead p) 0x50 p s (s.taken s.faultRecord)

end Sys2Proof.Machine
end

