-- ==== Sys2Proof/Machine/Memory.lean ====
section
/-! DEFINITION. The Program Memory Controller's jobs and bus events, and what the Sequence Unit makes of a record read (R79,
R87 to R93, R206). -/

namespace Sys2Proof.Machine

/-! ## Program records (R79, R206) -/

/-- The point kind of a channel's records (R206). -/
def recordKind : SeqChan → Byte
  | .ov => 8
  | .gr => 9

/-- The six bytes of a step in a record (R206). -/
def Step.record (t : Step) : List Byte := enc3 t.duration ++ [t.mask] ++ enc1 t.cap ++ enc1 t.action.code

/-- Bytes 0 to 61 of a record (R91, R206). -/
def recordBody (c : SeqChan) (ts : List Step) : List Byte :=
  let body := [0x5C, recordKind c] ++ enc1 ts.length ++ ts.flatMap Step.record
  body ++ List.replicate (62 - body.length) 0

/-- The 64-byte record of a program (R91, R206). -/
def programRecord (c : SeqChan) (ts : List Step) : List Byte :=
  recordBody c ts ++ enc2 (crc16 (recordBody c ts)).toNat

/-- Step `k + 1` of a record, if its fields are valid for the channel (R79). -/
def recordStep (c : SeqChan) (r : List Byte) (k : Nat) : Option Step :=
  let b := fun j => r.getD (3 + 6 * k + j) 0
  let d := dec3 (b 0) (b 1) (b 2)
  if d = 0 ∨ Config.maxSeconds < d ∨ (b 3).toNat &&& c.maskBits ≠ (b 3).toNat ∨ 100 < (b 4).toNat then none
  else (EndAction.ofCode (b 5).toNat).map fun a => { duration := d, mask := b 3, cap := (b 4).toNat, action := a }

/-- The validation of the 64 bytes read for a channel (R79). -/
def validateRecord (c : SeqChan) (r : List Byte) : Except FailCause (List Step) :=
  let count := (r.getD 2 0).toNat
  if crc16 (r.take 62) ≠ BitVec.ofNat 16 (dec2 (r.getD 62 0) (r.getD 63 0)) then .error .badRecord
  else if r.getD 0 0 ≠ 0x5C then .error .badRecord
  else if r.getD 1 0 ≠ recordKind c then
    if r.getD 1 0 = 8 ∨ r.getD 1 0 = 9 then .error .wrongPoint else .error .badRecord
  else if count = 0 ∨ 8 < count then .error .badRecord
  else match (List.range count).mapM (recordStep c r) with
    | some ts => .ok ts
    | none => .error .badRecord

/-! ## What a job moves (R90, R92) -/

/-- The memory address of a page or burst (R87, R90, R92). -/
def Progress.address (g : Progress) (j : Job) : Nat :=
  g.base + 64 * j.index + 16 * match g.transfer with
    | .page k | .burst k => k

/-- The 16 bytes of the page a write sends (R92). -/
def Progress.pageBytes (g : Progress) (j : Job) : List Byte :=
  match j.kind, g.transfer with
  | .write r, .page k => (r.drop (16 * k)).take 16
  | _, _ => []

/-! ## The queue (R88, R89) -/

/-- The first transfer of a job. -/
def Job.firstTransfer (j : Job) : Transfer :=
  match j.kind with
  | .read _ => .burst 0
  | .write _ => .page 0

/-- The oldest job started: its first transfer at once if both bus lines are high, else WAIT_FREE (R88, log 12). -/
def State.startJob (s : State) : State :=
  match s.pmc.jobs with
  | [] => s
  | j :: _ =>
    (s.setPmc { s.pmc with
      bus := if Config.busLinesHigh s.free then .transfer else .waitFree
      progress := Progress.fresh j.firstTransfer s.pmc.device s.pmc.base }).setFree (s.free + 1)

/-- A job queued; it starts at once where the queue is empty (R89). -/
def State.queueJob (s : State) (j : Job) : State :=
  let t := s.setPmc { s.pmc with jobs := s.pmc.jobs ++ [j] }
  if s.pmc.jobs.isEmpty then t.startJob else t

/-- Whether a requester has a job in the queue (R89). -/
def Pmc.busy (t : Pmc) (r : Requester) : Bool := t.jobs.any fun j => j.requester = r

/-- A job that has left the queue: the bus IDLE, and the next job started (R89, R93). -/
def State.dropJob (s : State) : State :=
  (s.setPmc { s.pmc with jobs := s.pmc.jobs.tail, bus := .idle }).startJob

/-- The last results with one requester's replaced (R93). -/
def Results.set (t : Results) (r : Requester) (v : Option (JobEnd × Nat)) : Results :=
  match r with
  | .channel .ov => { t with ov := v }
  | .channel .gr => { t with gr := v }
  | .supervisor => { t with supervisor := v }

/-! ## The end of a job (R79, R93) -/

/-- A channel whose load ended with a cause (R79): its buffer is kept. -/
def Channel.failed (c : Channel) (f : FailCause) : Channel := { c with state := .failed, fail := some f }

/-- A channel filled from a source (R77, R79). -/
def Channel.filled (c : Channel) (ts : List Step) (src : StepSource) : Channel :=
  { c with state := .ready, steps := ts, source := some src, current := none, slot := none, fail := none }

/-- The outcome of a channel's read job at the Sequence Unit (R79). -/
def State.loadResult (s : State) (c : SeqChan) (index : Nat) (issuer : Port) (e : JobEnd) (bytes : List Byte) : State :=
  let ch := s.squ.get c
  if ch.state ≠ .loading then s
  else
    let t := match e with
      | .ok =>
        match validateRecord c bytes with
        | .ok ts => s.changeChannel c (ch.filled ts (.library index))
        | .error .badRecord => (s.changeChannel c (ch.failed .badRecord)).latch (.plain .memory)
        | .error f => s.changeChannel c (ch.failed f)
      | .memNack => s.changeChannel c (ch.failed .memNack)
      | _ => s.changeChannel c (ch.failed .memBus)
    t.postTo .memoryDone fun q => q = issuer

/-- The hand-over of a job's outcome (R93, step 3). -/
def State.handOver (s : State) (j : Job) (e : JobEnd) : State :=
  match j.kind, j.requester with
  | .write _, _ => s.postTo .memoryDone fun q => q = .supervisor
  | .read issuer, .channel c => if j.discard then s else s.loadResult c j.index issuer e s.pmc.progress.bytes
  | .read _, .supervisor => s

/-- The job in flight ends with an outcome (R93). -/
def State.endJob (s : State) (e : JobEnd) : State :=
  match s.pmc.jobs with
  | [] => s
  | j :: _ =>
    let a := if e = .ok then s else s.latch (.plain .memory)
    let b := a.setPmc { a.pmc with results := a.pmc.results.set j.requester (some (e, j.index)) }
    (b.handOver j e).dropJob

/-! ## Bus events (R88, R90, R92) -/

/-- The progress of the job in flight and the bus state replaced. -/
def State.setBus (s : State) (b : BusState) (g : Progress) : State := s.setPmc { s.pmc with bus := b, progress := g }

/-- An attempt that failed at its address stage: retried, or MEM_NACK at the third (R90, R92). -/
def State.failAttempt (s : State) : State :=
  let g := s.pmc.progress
  if 3 ≤ g.attempts + 1 then s.endJob .memNack
  else s.setBus .retryWait { g with attempts := g.attempts + 1 }

/-- The four bursts of a read or readback are in: OK for a read; for a write, the comparison (R90, R92). -/
def State.endBursts (s : State) : State :=
  match s.pmc.jobs with
  | { kind := .write r, .. } :: _ => s.endJob (if s.pmc.progress.bytes = r then .ok else .memVerify)
  | _ => s.endJob .ok

/-- The end of a read burst (R90). -/
def State.burstEnd (s : State) (result : BurstEnd) : State :=
  let g := s.pmc.progress
  match s.pmc.bus, g.transfer, result with
  | .transfer, .burst j, .read data =>
    let t := s.setBus .transfer { g with transfer := .burst (j + 1), attempts := 0, bytes := g.bytes ++ data }
    if j < 3 then t else t.endBursts
  | .transfer, .burst _, .noAddressAck => s.failAttempt
  | _, _, _ => s

/-- The end of a page write (R92). -/
def State.pageEnd (s : State) (result : PageEnd) : State :=
  let g := s.pmc.progress
  match s.pmc.bus, g.transfer, result with
  | .transfer, .page _, .written => s.setBus .pollWait { g with polls := 0 }
  | .transfer, .page _, .noAddressAck => s.failAttempt
  | .transfer, .page _, .noDataAck => s.endJob .memNack
  | _, _, _ => s

/-- A poll for the end of the write cycle (R92). -/
def State.poll (s : State) (acknowledged : Bool) : State :=
  let g := s.pmc.progress
  match s.pmc.bus, g.transfer with
  | .pollWait, .page j =>
    if acknowledged then
      s.setBus .transfer { g with transfer := if j < 3 then .page (j + 1) else .burst 0, attempts := 0, polls := 0 }
    else if 20 ≤ g.polls + 1 then s.endJob .memTimeout
    else s.setBus .pollWait { g with polls := g.polls + 1 }
  | _, _ => s

/-- BUS_LINES_FREE (R88). -/
def execBusLinesFree (s : State) : Host.Outcome State Fault Refusal :=
  event s (if s.pmc.bus = .waitFree then s.setBus .transfer s.pmc.progress else s)

/-- BUS_FREE_TIMEOUT (R88). -/
def execBusFreeTimeout (s : State) : Host.Outcome State Fault Refusal :=
  event s (if s.pmc.bus = .waitFree then s.endJob .memBus else s)

/-- CLOCK_STRETCH_TIMEOUT (R88): during a transfer, the poll's own included (log 24). -/
def execClockStretchTimeout (s : State) : Host.Outcome State Fault Refusal :=
  event s (if s.pmc.bus = .transfer ∨ s.pmc.bus = .pollWait then s.endJob .memBus else s)

/-- READ_BURST_END (R90). -/
def execReadBurstEnd (result : BurstEnd) (s : State) : Host.Outcome State Fault Refusal := event s (s.burstEnd result)

/-- RETRY_WAIT_EXPIRY (R90, R92). -/
def execRetryWaitExpiry (s : State) : Host.Outcome State Fault Refusal :=
  event s (if s.pmc.bus = .retryWait then s.setBus .transfer s.pmc.progress else s)

/-- PAGE_WRITE_END (R92). -/
def execPageWriteEnd (result : PageEnd) (s : State) : Host.Outcome State Fault Refusal := event s (s.pageEnd result)

/-- WRITE_POLL (R92). -/
def execWritePoll (acknowledged : Bool) (s : State) : Host.Outcome State Fault Refusal := event s (s.poll acknowledged)

end Sys2Proof.Machine
end

