-- ==== Sys2Proof/Machine/Timers.lean ====
section
/-! DEFINITION. The Timer Engine's commands: the TIMER requests and the expiries and starts of slots (R42 to R68). -/

namespace Sys2Proof.Machine

/-! ## Layouts (R203) -/

/-- The state of a slot's record as a code: 1 WAITING, 2 RUNNING, 3 PAUSED, 4 EXPIRED (R203). -/
def Timer.stateCode (t : Timer) : Nat :=
  match t.phase with
  | .waiting => 1
  | .started => if t.paused then 3 else 2
  | .expired => 4

/-- A point, 0 for none. -/
def encPoint : Option Point → List Byte
  | none => enc1 0
  | some p => enc1 p.code

/-- The pause causes {USER, HALT}. -/
def encPause (t : Timer) : List Byte := enc1 (bitmap (PauseCause.all.map t.pause.get))

/-- An end cause, 0 for none. -/
def encEndCause : Option EndCause → List Byte
  | none => enc1 0
  | some .time => enc1 1
  | some .probe => enc1 2

/-- The start condition in bytes 12 to 22 of the timer record. -/
def encStart : Start → List Byte
  | .immediate => enc1 0 ++ encAbsent 10
  | .atTime start k => enc1 1 ++ enc3 start ++ enc3 k ++ encAbsent 4
  | .atTemp threshold => enc1 2 ++ encAbsent 6 ++ encTemp threshold ++ encAbsent 2
  | .afterLeader leader threshold =>
    enc1 3 ++ encAbsent 6 ++ encOpt 2 encTemp threshold ++ encOpt 2 encHandle leader

/-- The stop condition in bytes 23 to 25. -/
def encStop : Option Int → List Byte
  | none => enc1 0 ++ encAbsent 2
  | some threshold => enc1 1 ++ encTemp threshold

/-- The timer record of 31 bytes (R203). -/
def timerRecord (h : Handle) (t : Timer) : List Byte :=
  encHandle h ++ enc1 t.stateCode ++ enc1 t.kind.code ++ encPoint t.point ++ enc1 t.owner.code ++ enc3 t.duration ++
    enc3 t.remaining ++ encStart t.start ++ encStop t.probe ++ encOpt 2 encHandle t.follower ++ encPause t ++
    enc1 t.level ++ encEndCause t.endCause

/-- The ten bytes of a slot in TIMER_LIST (R203). -/
def timerLine (h : Handle) (t : Timer) : List Byte :=
  encHandle h ++ enc1 t.stateCode ++ enc1 t.kind.code ++ encPoint t.point ++ enc1 t.owner.code ++ enc3 t.remaining ++
    encPause t

/-! ## Rights (R59) -/

/-- Whether a role may modify a slot (R59). -/
def Timer.modifiableBy (t : Timer) (p : Port) : Bool :=
  match t.owner with
  | .channel _ => false
  | .role q => p = q || p = .supervisor
  | .nobody => true

/-- A request that names a handle: the checks of R43, and of R59 where `right` asks for it, then `take` with the timer. -/
def State.onTimer (s : State) (p : Port) (h : Handle) (right : Bool) (take : Timer → Taken) : Taken :=
  match s.tme.lookup h with
  | .error c => s.refuse c
  | .ok t => if right && !t.modifiableBy p then s.refuse .notOwner else take t

/-! ## TIMER_CREATE -/

/-- Whether R44 allows a start condition for a kind and a point. -/
def startAllowed (k : Kind) (p : Option Point) : StartField → Bool
  | .immediate => true
  | .atTime t => t ≤ Config.maxSeconds
  | .atTemp _ => k = .cookEnd && (p = some .ov || p = some .gr)
  | .afterLeader _ (some _) => k = .cookEnd && (p = some .ov || p = some .gr)
  | .afterLeader _ none => k = .cookEnd && (p.map Point.electric).getD false
  | .beyond => false

/-- Whether R44 allows a point for a kind: none for a MINDER, one of the nine for a COOK_END, an electric one for a
DELAY_START. `code` is the point as sent, 0 for none. -/
def pointAllowed (k : Kind) (code : Nat) : Bool :=
  match k with
  | .minder => code = 0
  | .cookEnd => (Point.ofCode code).isSome
  | .delayStart => ((Point.ofCode code).map Point.electric).getD false
  | .step => false

/-- Whether an alert level is as R48 asks: 1 to 3 for MINDER and COOK_END, absent for DELAY_START. -/
def levelAllowed (k : Kind) (level : Nat) : Bool :=
  match k with
  | .minder | .cookEnd => 1 ≤ level && level ≤ 3
  | .delayStart | .step => level = 0

/-- Whether the fields of TIMER_CREATE pass the second check of R48. -/
def timerFieldsAllowed (k : Kind) (f : TimerFields) : Bool :=
  f.duration ≠ 0 && pointAllowed k f.point && startAllowed k (Point.ofCode f.point) f.start && levelAllowed k f.level &&
    (f.probe.isNone || (k = .cookEnd && Point.ofCode f.point = some .ov))

/-- A start threshold clamped (R48). -/
def clampStart (t : Int) : Int := clampInt 30 300 t

/-- Whether a start field waits for a start time. -/
def startIsAtTime : StartField → Bool
  | .atTime _ => true
  | _ => false

/-- Whether a start field carries a temperature threshold. -/
def startHasThreshold : StartField → Bool
  | .atTemp _ => true
  | .afterLeader _ (some _) => true
  | _ => false

/-- Whether a channel's last reading is a temperature. -/
def State.reads (s : State) (c : Sensor) : Bool :=
  match (s.snu.channels.get c).reading with
  | .temp _ => true
  | _ => false

/-- Whether a creation meets the sensor check of R48. -/
def State.sensorMissing (s : State) (p : Option Point) (f : TimerFields) : Bool :=
  (startHasThreshold f.start && !((p.bind Point.sensor).map s.reads).getD false) || (f.probe.isSome && !s.reads .prb)

/-- Whether a creation would break a limit of R46. -/
def Tme.pointTimed (t : Tme) (k : Kind) : Option Point → Bool
  | none => false
  | some p =>
    match k with
    | .cookEnd => t.hasKind p .cookEnd || t.hasKind p .step
    | .delayStart => t.hasKind p .delayStart
    | .step => t.hasKind p .cookEnd
    | .minder => false

/-- The refusal of the leader checks of R50, if one fails. -/
def State.leaderRefusal (s : State) (role : Port) (p : Option Point) : StartField → Option Status
  | .afterLeader h _ =>
    match s.tme.lookup h with
    | .error c => some c
    | .ok t =>
      if t.kind ≠ .delayStart ∨ t.point ≠ p ∨ t.follower.isSome then some .badValue
      else if t.modifiableBy role then none else some .notOwner
  | _ => none

/-- The start condition a slot holds from a request's field, the time of day for AT_TIME being known (R48, R49). -/
def startOf (timeOfDay : Nat) : StartField → Start
  | .atTime t => .atTime t (secondsTo t timeOfDay)
  | .atTemp t => .atTemp (clampStart t)
  | .afterLeader h t => .afterLeader (some h) (t.map clampStart)
  | .immediate | .beyond => .immediate

/-- Whether a start condition is met at creation (R48). -/
def Start.atOnce : Start → Bool
  | .immediate => true
  | .atTime _ k => k = 0
  | _ => false

/-- The record of a slot taken into use, WAITING or started at once (R48). -/
def newTimer (k : Kind) (p : Option Point) (o : Owner) (duration : Nat) (start : Start) (probe : Option Int)
    (level : Nat) (halt : Bool) : Timer :=
  let t : Timer :=
    { kind := k, point := p, owner := o, phase := .waiting, duration := duration, remaining := duration, start := start,
      probe := probe, follower := none, pause := { user := false, halt := p.isSome && halt }, level := level,
      endCause := none, tickDue := false, tempMark := false, probeMark := false }
  if start.atOnce then t.started else t

/-- The record TIMER_CREATE makes (R48). -/
def State.timerOf (s : State) (role : Port) (k : Kind) (f : TimerFields) : Timer :=
  newTimer k (Point.ofCode f.point) (.role role) (min f.duration Config.maxSeconds)
    (startOf (s.tbu.timeOfDay.getD 0) f.start) (f.probe.map (clampInt 30 99)) f.level s.tme.halt

/-- A leader's follower field set or cleared (R50). -/
def Tme.setFollower (t : Tme) (leader : Handle) (f : Option Handle) : Tme :=
  match t.lookup leader with
  | .error _ => t
  | .ok r => t.setTimer leader.slot.toNat (some { r with follower := f })

/-- The Timer Table with a slot taken and its leader linked to it (R43, R50). -/
def Tme.create (t : Tme) (n : Nat) (r : Timer) : Tme :=
  let u := t.takeSlot n r
  match r.start with
  | .afterLeader (some h) _ => u.setFollower h (some (u.handle n))
  | _ => u

/-- A timer created in slot `n`: the slot taken, and DELAY added for a DELAY_START (R28, R48). -/
def State.createTimer (s : State) (n : Nat) (r : Timer) : State :=
  let t := s.setTme (s.tme.create n r)
  match r.kind, r.point with
  | .delayStart, some p => t.addReason p .delay
  | _, _ => t

/-- The checks of R48 from the operating state on, for a kind. -/
def State.createChecks (s : State) (role : Port) (k : Kind) (f : TimerFields) : List (Bool × Status) :=
  let p := Point.ofCode f.point
  [(!timerFieldsAllowed k f, .badValue),
   ((s.stc.op = .config || s.stc.op = .lockout) && k ≠ .minder, .refusedState),
   (startIsAtTime f.start && s.tbu.timeOfDay.isNone, .clockUnset),
   (role ≠ .supervisor && ((p.map fun x => decide ((s.ptc.panel.get x).port ≠ role)).getD false), .notAssigned),
   ((s.leaderRefusal role p f.start).isSome, (s.leaderRefusal role p f.start).getD .ok),
   (s.sensorMissing p f, .noSensor),
   (s.tme.pointTimed k p, .pointTimed),
   (s.tme.firstFree.isNone, .tableFull),
   (s.tme.quotaFull role, .quota)]

/-- TIMER_CREATE in the Timer Engine (R48). -/
def State.takeTimerCreate (s : State) (role : Port) (f : TimerFields) : Taken :=
  match Kind.ofCode f.kind with
  | none | some .step => s.refuse .badValue
  | some k =>
    let n := s.tme.firstFree.getD 0
    let r := s.timerOf role k f
    let t := s.createTimer n r
    s.checked (s.createChecks role k f) (t.taken (encHandle (t.tme.handle n) ++ enc1 r.stateCode))

/-- TIMER_CREATE (R48). -/
def execTimerCreate (p : Port) (fields : TimerFields) (s : State) : Host.Outcome State Fault Refusal :=
  request (.timerCreate p fields) 0x12 p s (s.takeTimerCreate p fields)

/-! ## TIMER_ADJUST, TIMER_PAUSE, TIMER_RESUME, TIMER_CANCEL, TIMER_ADOPT -/

/-- A time plus a delta, clamped to 1 to 86 399 s (R60, R61). -/
def adjusted (seconds : Nat) (delta : Int) : Nat := (clampInt 1 86399 (seconds + clampInt (-86399) 86399 delta)).toNat

/-- TIMER_ADJUST on a slot that is not EXPIRED (R60). -/
def Timer.adjust (t : Timer) (delta : Int) : Timer :=
  match t.phase with
  | .waiting => { t with duration := adjusted t.duration delta, remaining := adjusted t.duration delta }
  | _ => { t with remaining := adjusted t.remaining delta }

/-- An EXPIRED slot extended: a stop that was met is not carried on (R61). -/
def Timer.extended (t : Timer) (delta : Int) (halt : Bool) : Timer :=
  { t.reloaded (adjusted 0 delta) (t.point.isSome && halt) with
    probe := if t.endCause = some .probe then none else t.probe }

/-- An EXPIRED slot extended, its entry removed and TIMER_OFF with it for a COOK_END (R61). -/
def State.extendTimer (s : State) (h : Handle) (t : Timer) (delta : Int) : State :=
  let u := (s.setTimer h.slot.toNat (some (t.extended delta s.tme.halt))).removeEntry h t
  match t.kind, t.point with
  | .cookEnd, some p => u.removeReason p .timerOff
  | _, _ => u

/-- TIMER_ADJUST in the Timer Engine (R60, R61). -/
def State.takeTimerAdjust (s : State) (role : Port) (h : Handle) (delta : Int) : Taken :=
  s.onTimer role h true fun t =>
    if t.phase = .expired then
      if delta ≤ 0 then s.refuse .badValue else (s.extendTimer h t delta).taken (enc3 (adjusted 0 delta))
    else (s.setTimer h.slot.toNat (some (t.adjust delta))).taken (enc3 (t.adjust delta).remaining)

/-- TIMER_ADJUST (R60, R61). -/
def execTimerAdjust (p : Port) (h : Handle) (delta : Int) (s : State) : Host.Outcome State Fault Refusal :=
  request (.timerAdjust p h delta) 0x13 p s (s.takeTimerAdjust p h delta)

/-- USER set or cleared on a slot, refused on an EXPIRED one (R62). -/
def State.takeUserPause (s : State) (role : Port) (h : Handle) (v : Bool) : Taken :=
  s.onTimer role h true fun t =>
    if t.phase = .expired then s.refuse .refusedState
    else (s.setTimer h.slot.toNat (some (t.setPause .user v))).taken []

/-- TIMER_PAUSE (R62). -/
def execTimerPause (p : Port) (h : Handle) (s : State) : Host.Outcome State Fault Refusal :=
  request (.timerPause p h) 0x14 p s (s.takeUserPause p h true)

/-- TIMER_RESUME (R62). -/
def execTimerResume (p : Port) (h : Handle) (s : State) : Host.Outcome State Fault Refusal :=
  request (.timerResume p h) 0x15 p s (s.takeUserPause p h false)

/-- What a cancel does beyond freeing the slot (R63). -/
def State.cancelEffects (s : State) (h : Handle) (t : Timer) : State :=
  if t.phase = .expired then s.removeEntry h t
  else
    match t.kind, t.point, t.start with
    | .delayStart, some p, _ =>
      let u := match t.follower with
        | some f => s.freeSlot f.slot.toNat
        | none => s
      u.removeReason p .delay
    | .cookEnd, _, .afterLeader (some l) _ =>
      if t.phase = .waiting then s.setTme (s.tme.setFollower l none) else s
    | _, _, _ => s

/-- TIMER_CANCEL in the Timer Engine (R63). -/
def State.takeTimerCancel (s : State) (role : Port) (h : Handle) : Taken :=
  s.onTimer role h true fun t => ((s.cancelEffects h t).freeSlot h.slot.toNat).taken []

/-- TIMER_CANCEL (R63). -/
def execTimerCancel (p : Port) (h : Handle) (s : State) : Host.Outcome State Fault Refusal :=
  request (.timerCancel p h) 0x16 p s (s.takeTimerCancel p h)

/-- TIMER_ADOPT in the Timer Engine (R68). -/
def State.takeTimerAdopt (s : State) (role : Port) (h : Handle) : Taken :=
  s.onTimer role h false fun t =>
    if t.owner ≠ .nobody then s.refuse .notOwner
    else if s.tme.quotaFull role then s.refuse .quota
    else (s.setTimer h.slot.toNat (some { t with owner := .role role })).taken []

/-- TIMER_ADOPT (R68). -/
def execTimerAdopt (p : Port) (h : Handle) (s : State) : Host.Outcome State Fault Refusal :=
  request (.timerAdopt p h) 0x17 p s (s.takeTimerAdopt p h)

/-! ## Reading the table (R66) -/

/-- TIMER_READ (R66). -/
def execTimerRead (p : Port) (h : Handle) (s : State) : Host.Outcome State Fault Refusal :=
  request (.timerRead p h) 0x18 p s (s.onTimer p h false fun t => s.taken (timerRecord h t))

/-- The non-FREE slots in ascending slot number that a filter keeps, with their handles. -/
def Tme.listed (t : Tme) (keep : Timer → Bool) : List (Handle × Timer) :=
  (List.range t.slots.length).filterMap fun n =>
    match t.timer n with
    | some r => if keep r then some (t.handle n, r) else none
    | none => none

/-- The list part of TIMER_LIST. -/
def encTimers (xs : List (Handle × Timer)) : List Byte := encList (fun x => timerLine x.1 x.2) xs

/-- The counts an unfiltered list adds: FREE slots, and the slots of each role (R66). -/
def Tme.counts (t : Tme) : List Byte :=
  enc1 (t.slots.countP fun x => x.timer.isNone) ++ enc1 (t.held (.role .panelA)) ++ enc1 (t.held (.role .panelB)) ++
    enc1 (t.held (.role .supervisor))

/-- TIMER_LIST in the Timer Engine (R66). -/
def State.takeTimerList (s : State) : Option FilterField → Taken
  | none => s.taken (encTimers (s.tme.listed fun _ => true) ++ s.tme.counts)
  | some (.owner code) =>
    match Owner.ofCode code with
    | some o => s.taken (encTimers (s.tme.listed fun r => r.owner = o))
    | none => s.refuse .badValue
  | some (.point code) =>
    match Point.ofCode code with
    | some x => s.taken (encTimers (s.tme.listed fun r => r.point = some x))
    | none => s.refuse .badValue
  | some .beyond => s.refuse .badValue

/-- TIMER_LIST (R66). -/
def execTimerList (p : Port) (filter : Option FilterField) (s : State) : Host.Outcome State Fault Refusal :=
  request (.timerList p filter) 0x19 p s (s.takeTimerList filter)

/-! ## Expiries and starts -/

/-- The lowest slot whose record meets a condition. -/
def Tme.lowest (t : Tme) (f : Timer → Bool) : Option Nat :=
  t.slots.findIdx? fun x =>
    match x.timer with
    | some r => f r
    | none => false

/-- The slot and record that `find` names. -/
def Tme.found (t : Tme) (find : Option Nat) : Option (Nat × Timer) :=
  find.bind fun n => (t.timer n).map fun r => (n, r)

/-- The RUNNING slot that the tick brought to 0 expires; one adjusted since the tick is counted down (R52, R53, R64). -/
def State.tickExpiry (s : State) : State :=
  match s.tme.found s.tme.tickSlot with
  | some (n, r) =>
    if !r.running then s
    else if r.remaining ≤ 1 then s.expire n r .time
    else s.setTimer n (some { r with remaining := r.remaining - 1, tickDue := false })
  | none => s

/-- TIMER_EXPIRY (R53). -/
def execTimerExpiry (s : State) : Host.Outcome State Fault Refusal := event s s.tickExpiry

/-- The WAITING slot that the tick brought to its start time starts (R49, R52). -/
def State.tickStart (s : State) : State :=
  match s.tme.found s.tme.tickSlot with
  | some (n, r) => if r.waitsTime then s.startSlot n r .started else s
  | none => s

/-- TIMER_START_AT_TIME (R49). -/
def execTimerStartAtTime (s : State) : Host.Outcome State Fault Refusal := event s s.tickStart

/-- A WAITING AT_TEMP slot that the last reading starts: marked, and with no pause cause (R49, log 6). -/
def Timer.tempDue (t : Timer) : Bool :=
  t.tempMark && t.phase = .waiting && !t.paused && match t.start with
    | .atTemp _ => true
    | _ => false

/-- A started COOK_END that the last PRB reading stops (R57, log 6). -/
def Timer.probeDue (t : Timer) : Bool := t.probeMark && t.phase = .started && t.kind = .cookEnd && t.probe.isSome

/-- The AT_TEMP slot that the reading reached starts (R49). -/
def State.tempStart (s : State) : State :=
  match s.tme.found (s.tme.lowest Timer.tempDue) with
  | some (n, r) => s.startSlot n r .ready
  | none => s

/-- TIMER_START_AT_TEMP (R49). -/
def execTimerStartAtTemp (s : State) : Host.Outcome State Fault Refusal := event s s.tempStart

/-- The COOK_END whose PROBE stop the reading met expires (R57). -/
def State.probeExpiry (s : State) : State :=
  match s.tme.found (s.tme.lowest Timer.probeDue) with
  | some (n, r) => s.expire n r .probe
  | none => s

/-- PROBE_STOP (R57). -/
def execProbeStop (s : State) : Host.Outcome State Fault Refusal := event s s.probeExpiry

end Sys2Proof.Machine
end

