-- ==== Sys2Proof/Machine/Sequences.lean ====
section
/-! DEFINITION. The SEQ requests, LIB_WRITE and CFG_MEMORY (R75 to R94). -/

namespace Sys2Proof.Machine

/-! ## Rights (R75) -/

/-- The refusal of R75, if a role has no right to a channel. -/
def State.seqRefusal (s : State) (role : Port) (c : SeqChan) : Option Status :=
  match (s.squ.get c).control with
  | none =>
    if role = .supervisor ∨ role = (s.ptc.panel.get c.point).port then none else some .notAssigned
  | some q => if role = q ∨ role = .supervisor then none else some .notOwner

/-- A request that names a channel: BAD_VALUE, the right of R75, then `take`. -/
def State.onChannel (s : State) (role : Port) (code : Nat) (take : SeqChan → Taken) : Taken :=
  match SeqChan.ofCode code with
  | none => s.refuse .badValue
  | some c =>
    match s.seqRefusal role c with
    | some e => s.refuse e
    | none => take c

/-- The controlling port after a request that takes the channel (R75). -/
def Channel.controlFor (c : Channel) (role : Port) : Option Port := some (c.control.getD role)

/-! ## Filling a channel (R77, R78) -/

/-- SEQ_STORE in the Sequence Unit (R77). -/
def State.takeSeqStore (s : State) (role : Port) (code : Nat) (fields : List StepField) : Taken :=
  s.onChannel role code fun c =>
    let ch := s.squ.get c
    if ch.state = .loading then s.refuse .busy
    else if ch.engaged then s.refuse .refusedState
    else match stepsOfFields c fields with
      | none => s.refuse .badValue
      | some ts =>
        ((s.freeStepSlot c).changeChannel c { ch.filled ts .stored with control := ch.controlFor role }).taken []

/-- SEQ_STORE (R77). -/
def execSeqStore (p : Port) (channel : Nat) (steps : List StepField) (s : State) : Host.Outcome State Fault Refusal :=
  request (.seqStore p channel steps) 0x21 p s (s.takeSeqStore p channel steps)

/-- A channel that begins to load: its buffer keeps what it held (R78). -/
def Channel.loading (c : Channel) (role : Port) : Channel :=
  { c with state := .loading, current := none, slot := none, fail := none, control := c.controlFor role }

/-- SEQ_LOAD in the Sequence Unit (R78). -/
def State.takeSeqLoad (s : State) (role : Port) (code index : Nat) : Taken :=
  s.onChannel role code fun c =>
    let ch := s.squ.get c
    s.checked
      [(ch.state = .loading, .busy), (ch.engaged, .refusedState), (31 < index, .badValue),
       (s.pmc.busy (.channel c), .busy)]
      (((s.freeStepSlot c).changeChannel c (ch.loading role)).queueJob
        { kind := .read role, index := index, requester := .channel c, discard := false }).accepted

/-- SEQ_LOAD (R78). -/
def execSeqLoad (p : Port) (channel index : Nat) (s : State) : Host.Outcome State Fault Refusal :=
  request (.seqLoad p channel index) 0x20 p s (s.takeSeqLoad p channel index)

/-! ## Running (R80, R84, R85) -/

/-- The start condition of SEQ_START: IMMEDIATE, or AT_TIME with a start time in range (R80). -/
def seqStartAllowed : StartField → Bool
  | .immediate => true
  | .atTime t => t ≤ Config.maxSeconds
  | _ => false

/-- SEQ_START taken with the first step of the program (R72, R80). -/
def State.startSequence (s : State) (role : Port) (c : SeqChan) (first : Step) (start : StartField) : Taken :=
  let ch := s.squ.get c
  let n := s.tme.firstFree.getD 0
  let a := s.setTme (s.tme.takeSlot n (newTimer .step (some c.point) (.channel c) first.duration
    (startOf (s.tbu.timeOfDay.getD 0) start) none 2 s.tme.halt))
  let h := a.tme.handle n
  ((a.changeChannel c { ch with state := .active, current := some 1, slot := some h, control := ch.controlFor role
    }).startPass).taken (encHandle h)

/-- SEQ_START in the Sequence Unit (R80). -/
def State.takeSeqStart (s : State) (role : Port) (code : Nat) (start : StartField) : Taken :=
  s.onChannel role code fun c =>
    let ch := s.squ.get c
    match firstFailure
      [(s.stc.op = .config || s.stc.op = .lockout, .refusedState), (ch.state = .loading, .busy),
       (ch.state ≠ .ready, .refusedState), (!seqStartAllowed start, .badValue),
       (startIsAtTime start && s.tbu.timeOfDay.isNone, .clockUnset), (s.tme.pointTimed .step (some c.point), .pointTimed),
       (s.tme.firstFree.isNone, .tableFull)], ch.steps with
    | some e, _ => s.refuse e
    | none, [] => s.refuse .refusedState
    | none, first :: _ => s.startSequence role c first start

/-- SEQ_START (R80). -/
def execSeqStart (p : Port) (channel : Nat) (start : StartField) (s : State) : Host.Outcome State Fault Refusal :=
  request (.seqStart p channel start) 0x22 p s (s.takeSeqStart p channel start)

/-- USER set or cleared on the slot of an ACTIVE channel (R84). -/
def State.takeSeqPause (s : State) (role : Port) (code : Nat) (v : Bool) : Taken :=
  s.onChannel role code fun c =>
    if (s.squ.get c).state ≠ .active then s.refuse .refusedState
    else
      match (s.squ.get c).slot with
      | none => s.taken []
      | some h =>
        match s.tme.lookup h with
        | .error _ => s.taken []
        | .ok t => (s.setTimer h.slot.toNat (some (t.setPause .user v))).taken []

/-- SEQ_PAUSE (R84). -/
def execSeqPause (p : Port) (channel : Nat) (s : State) : Host.Outcome State Fault Refusal :=
  request (.seqPause p channel) 0x23 p s (s.takeSeqPause p channel true)

/-- SEQ_RESUME (R84). -/
def execSeqResume (p : Port) (channel : Nat) (s : State) : Host.Outcome State Fault Refusal :=
  request (.seqResume p channel) 0x24 p s (s.takeSeqPause p channel false)

/-- The job queue after a channel's load was aborted: a queued job leaves, a job in flight is marked (R85, R89). -/
def abortJobs (c : SeqChan) : List Job → List Job
  | [] => []
  | flight :: queued =>
    (if flight.requester = .channel c then { flight with discard := true } else flight) ::
      queued.filter fun j => j.requester ≠ .channel c

/-- A channel back in READY with its steps (R85). -/
def Channel.readied (c : Channel) : Channel := { c with state := .ready, current := none, slot := none, fail := none }

/-- SEQ_ABORT on a channel (R85). -/
def State.abortSequence (s : State) (c : SeqChan) : State :=
  let ch := s.squ.get c
  match ch.state with
  | .empty | .ready => s
  | .loading => (s.setPmc { s.pmc with jobs := abortJobs c s.pmc.jobs }).changeChannel c Channel.emptied
  | .active | .waitingAck => ((s.freeStepSlot c).changeChannel c ch.readied).startPass
  | .done => (s.freeStepSlot c).changeChannel c ch.readied
  | .failed => s.changeChannel c (if ch.steps.isEmpty then Channel.emptied else ch.readied)

/-- SEQ_ABORT (R85). -/
def execSeqAbort (p : Port) (channel : Nat) (s : State) : Host.Outcome State Fault Refusal :=
  request (.seqAbort p channel) 0x25 p s (s.onChannel p channel fun c => (s.abortSequence c).taken [])

/-! ## Reading (R86, R94) -/

/-- The state of a channel, in the order of R74. -/
def ChanState.code : ChanState → Nat
  | .empty => 0
  | .loading => 1
  | .ready => 2
  | .active => 3
  | .waitingAck => 4
  | .done => 5
  | .failed => 6

/-- The fail cause, in the order of R74. -/
def FailCause.code : FailCause → Nat
  | .memNack => 0
  | .memBus => 1
  | .badRecord => 2
  | .wrongPoint => 3

/-- A source: 0 STORED; 1 and the library index (log 19). -/
def StepSource.enc : StepSource → List Byte
  | .stored => enc1 0
  | .library i => enc1 1 ++ enc1 i

/-- A restriction: 0 none; 1 and the cap; 2 held at 0 (log 19). -/
def Restriction.enc : Restriction → List Byte
  | .free => enc1 0
  | .capped c => enc1 1 ++ enc1 c
  | .held => enc1 2

/-- A STEP slot: its handle, state, remaining time and pause causes; absent where there is none (log 19). -/
def State.encSlot (s : State) (h : Option Handle) : List Byte :=
  match h with
  | none => encAbsent 7
  | some h =>
    match s.tme.lookup h with
    | .error _ => encHandle h ++ encAbsent 5
    | .ok t => encHandle h ++ enc1 t.stateCode ++ enc3 t.remaining ++ encPause t

/-- The reply of SEQ_READ for a channel (R86). -/
def State.channelRecord (s : State) (c : SeqChan) : List Byte :=
  let ch := s.squ.get c
  enc1 ch.state.code ++ enc1 ((ch.control.map Port.code).getD 0) ++ encOpt 1 (fun f => enc1 (FailCause.code f)) ch.fail ++
    enc1 ch.steps.length ++ encOpt 1 StepSource.enc ch.source ++ ch.steps.flatMap Step.record ++ encOpt 1 enc1 ch.current ++
    s.encSlot ch.slot ++ c.point.loads.flatMap fun l => (ch.restriction l).enc

/-- The bus state, in the order of R88. -/
def BusState.code : BusState → Nat
  | .idle => 0
  | .waitFree => 1
  | .transfer => 2
  | .retryWait => 3
  | .pollWait => 4

/-- A requester by its owner code, 3 SUPERVISOR, 4 SQ-OV, 5 SQ-GR (R202, log 19). -/
def Requester.code : Requester → Nat
  | .channel c => c.ownerCode
  | .supervisor => Port.supervisor.code

/-- A job, `flight` for the one in flight; a discard mark that is set is 0, one that is not is 1 (log 19). -/
def Job.enc (flight : Bool) (j : Job) : List Byte :=
  enc1 (match j.kind with
    | .read _ => 0
    | .write _ => 1) ++ enc1 j.index ++ enc1 j.requester.code ++ encYes flight ++ encYes j.discard

/-- The job list, the oldest in flight. -/
def encJobs : List Job → List Byte
  | [] => enc1 0
  | j :: js => enc1 (js.length + 1) ++ j.enc true ++ js.flatMap (Job.enc false)

/-- The outcome of a job: 0 NONE, then the order of R93. -/
def JobEnd.code : JobEnd → Nat
  | .ok => 1
  | .memNack => 2
  | .memTimeout => 3
  | .memBus => 4
  | .memVerify => 5

/-- A last result with its library index, which is absent beside NONE (log 19). -/
def encResult : Option (JobEnd × Nat) → List Byte
  | none => enc1 0 ++ encAbsent 1
  | some (e, i) => enc1 e.code ++ enc1 i

/-- The reply of SEQ_READ for MEMORY (R94). -/
def Pmc.record (t : Pmc) : List Byte :=
  enc1 t.device ++ enc2 t.base ++ enc1 t.bus.code ++ encJobs t.jobs ++ encResult t.results.ov ++ encResult t.results.gr ++
    encResult t.results.supervisor

/-- SEQ_READ in the Sequence Unit (R86, R94). -/
def State.takeSeqRead (s : State) : ChannelField → Taken
  | .channel code =>
    match SeqChan.ofCode code with
    | some c => s.taken (s.channelRecord c)
    | none => s.refuse .badValue
  | .memory => s.taken s.pmc.record
  | .beyond => s.refuse .badValue

/-- SEQ_READ (R86, R94). -/
def execSeqRead (p : Port) (what : ChannelField) (s : State) : Host.Outcome State Fault Refusal :=
  request (.seqRead p what) 0x26 p s (s.takeSeqRead what)

/-! ## LIB_WRITE and CFG_MEMORY (R87, R91) -/

/-- LIB_WRITE in the Program Memory Controller (R91). -/
def State.takeLibWrite (s : State) (index kind : Nat) (fields : List StepField) : Taken :=
  if s.stc.op = .hold ∨ s.stc.op = .lockout then s.refuse .refusedState
  else
    match SeqChan.ofKind kind with
    | none => s.refuse .badValue
    | some c =>
      match stepsOfFields c fields with
      | none => s.refuse .badValue
      | some ts =>
        s.checked [(31 < index, .badValue), (s.pmc.busy .supervisor, .busy)]
          (s.queueJob { kind := .write (programRecord c ts), index := index, requester := .supervisor, discard := false
            }).accepted

/-- LIB_WRITE (R91). -/
def execLibWrite (p : Port) (index kind : Nat) (steps : List StepField) (s : State) : Host.Outcome State Fault Refusal :=
  request (.libWrite p index kind steps) 0x27 p s (s.takeLibWrite index kind steps)

/-- Whether a library base is a multiple of 64 up to 63 488 (R87). -/
def baseAllowed (b : Nat) : Bool := b % 64 = 0 && b ≤ 63488

/-- CFG_MEMORY in the Program Memory Controller (R87). -/
def State.takeCfgMemory (s : State) (device base : Option Nat) : Taken :=
  s.checked
    [(s.stc.op ≠ .config, .refusedState), (device.isNone && base.isNone, .badValue),
     (device.any fun d => decide (127 < d), .badValue), (base.any fun b => !baseAllowed b, .badValue)]
    ((s.setPmc { s.pmc with device := device.getD s.pmc.device, base := base.getD s.pmc.base }).taken [])

/-- CFG_MEMORY (R87). -/
def execCfgMemory (p : Port) (device base : Option Nat) (s : State) : Host.Outcome State Fault Refusal :=
  request (.cfgMemory p device base) 0x46 p s (s.takeCfgMemory device base)

/-! ## Orphaning (R75) -/

/-- A channel of an absent panel loses its controlling port: SEQ_CHANGED, to the other panel as well (R75). -/
def State.orphanChannel (s : State) (p : Panel) (c : SeqChan) : State :=
  if (s.squ.get c).control = some p.port then
    (s.changeChannel c { s.squ.get c with control := none }).postTo .seqChanged fun q => q = p.other.port
  else s

end Sys2Proof.Machine
end

