-- ==== Sys2Proof/Machine/Ports.lean ====
section
/-! DEFINITION. The port units: receivers, buffers, replies, counters, presence and watchdog, events, and their requests (R187
to R200). -/

namespace Sys2Proof.Machine

/-- One port unit changed. -/
def State.onPort (s : State) (p : Port) (f : PortUnit → PortUnit) : State := s.setPorts (s.ports.set p (f (s.ports.get p)))

/-! ## Counters (R194) -/

/-- A counter one up, which stays at 255. -/
def countUp (n : Nat) : Nat := min 255 (n + 1)

/-- GAP counted. -/
def PortUnit.countGap (u : PortUnit) : PortUnit := { u with counters := { u.counters with gap := countUp u.counters.gap } }

/-- CRC_ERR counted. -/
def PortUnit.countCrc (u : PortUnit) : PortUnit :=
  { u with counters := { u.counters with crcErr := countUp u.counters.crcErr } }

/-- OVERRUN counted. -/
def PortUnit.countOverrun (u : PortUnit) : PortUnit :=
  { u with counters := { u.counters with overrun := countUp u.counters.overrun } }

/-- FRAME_ERR counted. -/
def PortUnit.countFrameErr (u : PortUnit) : PortUnit :=
  { u with counters := { u.counters with frameErr := countUp u.counters.frameErr } }

/-- BREAK counted. -/
def PortUnit.countBreak (u : PortUnit) : PortUnit :=
  { u with counters := { u.counters with breaks := countUp u.counters.breaks } }

/-- The receiver in a new state. -/
def PortUnit.receiver (u : PortUnit) (r : Receiver) : PortUnit := { u with rx := r }

/-! ## Service (R189, R191) -/

/-- A reply formed by the port unit itself. -/
def PortUnit.reply (u : PortUnit) (r : Reply) : PortUnit := { u with lastReply := some r, service := .replying r.frames }

/-- The oldest frame dispatched in an operating state: handed to its block as its request, or answered by the port unit
where a check of R191 fails (R189, R191). -/
def PortUnit.dispatch (u : PortUnit) (p : Port) (op : OpState) : PortUnit :=
  match u.buffer with
  | [] => { u with service := .idle }
  | f :: _ =>
    match decodeRequest p f.code f.payload with
    | .unknownRequest => u.reply { code := replyCode f.code, status := .unknownRequest, data := [] }
    | .badLength => u.reply { code := replyCode f.code, status := .badLength, data := [] }
    | .ok i =>
      match portRefusal op f.code p with
      | some c => u.reply { code := replyCode f.code, status := c, data := [] }
      | none => { u with service := .handed i }

/-- A valid frame placed in the buffer, dispatched if it is the only one, or lost to an overrun (R189). -/
def PortUnit.place (u : PortUnit) (p : Port) (op : OpState) (f : Frame) : PortUnit :=
  match u.buffer with
  | [] => PortUnit.dispatch { u with buffer := [f] } p op
  | [g] => { u with buffer := [g, f] }
  | _ => u.countOverrun

/-! ## Presence and watchdog at a valid frame (R195, R196) -/

/-- A panel heard: PRESENT, its silence counted from this frame (R195). -/
def State.hearPanel (s : State) (p : Panel) : State :=
  s.setPresence (s.presence.set p { s.presence.get p with present := true, silence := some 0 })

/-- The supervisor heard: the watchdog RUNNING; where it had expired, SUPERVISOR_SILENT removed (R196). -/
def State.hearSupervisor (s : State) : State :=
  (if s.watchdog.state = .expired then s.removeHold .supervisorSilent else s).setWatchdog
    { s.watchdog with state := .running }

/-- The presence or watchdog action of a valid frame (R188). -/
def State.hear (s : State) (p : Port) : State :=
  match p.panel with
  | some q => s.hearPanel q
  | none => s.hearSupervisor

/-! ## The receiver (R188) -/

/-- The frame that a body spells: its code and its payload. -/
def frameOf (body : List Byte) : Frame := { code := body.getD 1 0, payload := body.drop 2 }

/-- The last byte of a frame: the CRC is checked, the receiver is in HUNT (R188). -/
def State.endFrame (s : State) (p : Port) (body : List Byte) (crc : Byte) : State :=
  if crc8 body = crc then (s.hear p).onPort p fun u => (u.receiver .hunt).place p (s.hear p).stc.op (frameOf body)
  else s.onPort p fun u => (u.receiver .hunt).countCrc

/-- A byte received in LENGTH (R188). -/
def PortUnit.takeLength (u : PortUnit) (b : Byte) : PortUnit :=
  if 1 ≤ b.toNat ∧ b.toNat ≤ 60 then u.receiver (.body [b] (b.toNat + 1)) else (u.receiver .hunt).countFrameErr

/-- A byte received (R188); none is taken at rest. -/
def State.takeByte (s : State) (p : Port) (b : Byte) : State :=
  match (s.ports.get p).rx with
  | .hunt => if b = 0xC3 then s.onPort p fun u => u.receiver .length else s
  | .length => s.onPort p fun u => u.takeLength b
  | .body bs n => if n ≤ 1 then s.endFrame p bs b else s.onPort p fun u => u.receiver (.body (bs ++ [b]) (n - 1))
  | .rest => s

/-- BYTE_RECEIVED (R188). -/
def execByteReceived (p : Port) (b : Byte) (s : State) : Host.Outcome State Fault Refusal := event s (s.takeByte p b)

/-- The end of a frame with its CRC byte, where one byte is awaited (R188, log 26). -/
def State.takeCrc (s : State) (p : Port) (crc : Byte) : State :=
  match (s.ports.get p).rx with
  | .body bs 1 => s.endFrame p bs crc
  | _ => s

/-- FRAME_RECEIVED (R188). -/
def execFrameReceived (p : Port) (crc : Byte) (s : State) : Host.Outcome State Fault Refusal := event s (s.takeCrc p crc)

/-- A gap: the frame in progress discarded, GAP counted (R188). -/
def PortUnit.gapped (u : PortUnit) : PortUnit :=
  match u.rx with
  | .length | .body _ _ => (u.receiver .hunt).countGap
  | .hunt | .rest => u

/-- GAP_TIMEOUT (R188). -/
def execGapTimeout (p : Port) (s : State) : Host.Outcome State Fault Refusal := event s (s.onPort p PortUnit.gapped)

/-- A stop bit read low: the frame in progress discarded, FRAME_ERR counted (R188, log 26). -/
def PortUnit.misframed (u : PortUnit) : PortUnit := if u.rx = .rest then u else (u.receiver .hunt).countFrameErr

/-- FRAME_ERR (R188). -/
def execFrameErr (p : Port) (s : State) : Host.Outcome State Fault Refusal := event s (s.onPort p PortUnit.misframed)

/-- The requests a break leaves without a reply: a request dispatched and not yet taken joins them (R190). -/
def PortUnit.cut (u : PortUnit) : List Instr :=
  match u.service with
  | .handed i => u.cutOff ++ [i]
  | _ => u.cutOff

/-- A break: BREAK counted, every frame and the reply gone, the receiver at rest (R190). -/
def PortUnit.broken (u : PortUnit) : PortUnit :=
  if u.rx = .rest then u else { (u.receiver .rest).countBreak with buffer := [], service := .idle, cutOff := u.cut }

/-- BREAK (R190). -/
def execLineBreak (p : Port) (s : State) : Host.Outcome State Fault Refusal := event s (s.onPort p PortUnit.broken)

/-- The line high after a break: HUNT (R190). -/
def PortUnit.revived (u : PortUnit) : PortUnit := if u.rx = .rest then u.receiver .hunt else u

/-- LINE_HIGH_AFTER_BREAK (R190). -/
def execLineHighAfterBreak (p : Port) (s : State) : Host.Outcome State Fault Refusal :=
  event s (s.onPort p PortUnit.revived)

/-- The last byte of a reply sent: its frame leaves the buffer, and the next is dispatched (R189). -/
def PortUnit.sent (u : PortUnit) (p : Port) (op : OpState) : PortUnit :=
  match u.service with
  | .replying _ => PortUnit.dispatch { u with buffer := u.buffer.tail } p op
  | _ => u

/-- REPLY_SENT (R189). -/
def execReplySent (p : Port) (s : State) : Host.Outcome State Fault Refusal :=
  event s (s.onPort p fun u => u.sent p s.stc.op)

/-! ## Absence and silence (R67, R75, R195, R196) -/

/-- A slot of an absent panel passes to NONE (R67). -/
def Timer.orphaned (p : Panel) (t : Timer) : Timer := if t.owner = .role p.port then { t with owner := .nobody } else t

/-- The slots of an absent panel orphaned: TIMER_ORPHANED where there is one (R67). -/
def State.orphanTimers (s : State) (p : Panel) : State :=
  let t := s.setTme (s.tme.mapTimers (Timer.orphaned p))
  if s.tme.held (.role p.port) = 0 then t else t.postTo .timerOrphaned fun q => q ≠ p.port

/-- A panel declared absent: its slots and channels orphaned (R67, R75, R195). -/
def State.declareAbsent (s : State) (p : Panel) : State :=
  let t := (s.setPresence (s.presence.set p { s.presence.get p with present := false })).orphanTimers p
  SeqChan.all.foldl (fun u c => u.orphanChannel p c) t

/-- The presence timeout of a panel reached (R195): its count of silence stands at the timeout at least. -/
def State.presenceExpires (s : State) (p : Panel) : State :=
  let r := s.presence.get p
  if r.present then
    (s.setPresence (s.presence.set p { r with silence := some (max (r.silence.getD 0) (r.timeout * 1000)) })).declareAbsent p
  else s

/-- PRESENCE_TIMEOUT (R195). -/
def execPresenceTimeout (p : Panel) (s : State) : Host.Outcome State Fault Refusal := event s (s.presenceExpires p)

/-- The watchdog timeout passes: EXPIRED, SUPERVISOR_SILENT added and latched (R196). -/
def State.watchdogExpires (s : State) : State :=
  if s.watchdog.state = .running then
    ((s.setWatchdog { s.watchdog with state := .expired }).addHold .supervisorSilent).latch (.plain .supervisorSilent)
  else s

/-- WATCHDOG_EXPIRY (R196). -/
def execWatchdogExpiry (s : State) : Host.Outcome State Fault Refusal := event s s.watchdogExpires

/-! ## CFG_PORTS (R197) -/

/-- A presence timeout stored, and compared at once with the silence counted (R197). -/
def State.storePresence (s : State) (p : Panel) (v : Option Nat) : State :=
  match v with
  | none => s
  | some n =>
    let r : Presence := { s.presence.get p with timeout := clampNat 10 120 n }
    let t := s.setPresence (s.presence.set p r)
    if r.present && r.silence.any fun m => decide (r.timeout * 1000 ≤ m) then t.declareAbsent p else t

/-- The timeouts that CFG_PORTS carries stored (R197). -/
def State.storeTimeouts (s : State) (a b watchdog : Option Nat) : State :=
  let t := (s.storePresence .a a).storePresence .b b
  match watchdog with
  | none => t
  | some n => t.setWatchdog { t.watchdog with timeout := clampNat 1 20 n }

/-- CFG_PORTS in the port units (R197). -/
def State.takeCfgPorts (s : State) (a b watchdog : Option Nat) : Taken :=
  let t := s.storeTimeouts a b watchdog
  s.checked [(a.isNone && b.isNone && watchdog.isNone, .badValue), (s.stc.op = .lockout, .refusedState)]
    (t.taken (enc1 t.presence.a.timeout ++ enc1 t.presence.b.timeout ++ enc1 t.watchdog.timeout))

/-- CFG_PORTS (R197). -/
def execCfgPorts (p : Port) (a b watchdog : Option Nat) (s : State) : Host.Outcome State Fault Refusal :=
  request (.cfgPorts p a b watchdog) 0x47 p s (s.takeCfgPorts a b watchdog)

/-! ## Events (R200) -/

/-- The reply of EVENTS_READ; an asserted attention line is low. -/
def State.eventsRecord (s : State) (p : Port) : List Byte :=
  encEvents (s.ports.get p).posted ++ encEvents (s.ports.get p).eventMask ++ encLevel (!s.pins.atn.get p)

/-- EVENTS_READ (R200). -/
def execEventsRead (p : Port) (s : State) : Host.Outcome State Fault Refusal :=
  request (.eventsRead p) 0x58 p s (s.taken (s.eventsRecord p))

/-- A port unit with classes removed from its pending set. -/
def PortUnit.cleared (u : PortUnit) (out : PerEvent Bool) : PortUnit :=
  { u with posted := .of fun c => u.posted.get c && !out.get c }

/-- EVENTS_CLEAR in the port unit (R200). -/
def State.takeEventsClear (s : State) (p : Port) (bits : Nat) : Taken :=
  match eventsOfBits bits with
  | none => s.refuse .badValue
  | some out =>
    if bits = 0 then s.refuse .badValue
    else
      let t := s.onPort p fun u => u.cleared out
      t.taken (encEvents (t.ports.get p).posted)

/-- EVENTS_CLEAR (R200). -/
def execEventsClear (p : Port) (classes : Nat) (s : State) : Host.Outcome State Fault Refusal :=
  request (.eventsClear p classes) 0x59 p s (s.takeEventsClear p classes)

/-- EVENTS_MASK in the port unit (R200). -/
def State.takeEventsMask (s : State) (p : Port) (bits : Nat) : Taken :=
  match eventsOfBits bits with
  | none => s.refuse .badValue
  | some m => (s.onPort p fun u => { u with eventMask := m }).taken (encEvents m)

/-- EVENTS_MASK (R200). -/
def execEventsMask (p : Port) (classes : Nat) (s : State) : Host.Outcome State Fault Refusal :=
  request (.eventsMask p classes) 0x5A p s (s.takeEventsMask p classes)

/-! ## Counters (R194) -/

/-- The five counters. -/
def Counters.enc (c : Counters) : List Byte :=
  enc1 c.gap ++ enc1 c.crcErr ++ enc1 c.overrun ++ enc1 c.frameErr ++ enc1 c.breaks

/-- A presence: state, timeout, whole seconds of silence. -/
def Presence.enc (r : Presence) : List Byte :=
  encYes r.present ++ enc1 r.timeout ++ encOpt 2 (fun m => enc2 (min Config.maxSilence (m / 1000))) r.silence

/-- A watchdog state, in the order of R196. -/
def WatchdogState.code : WatchdogState → Nat
  | .disarmed => 0
  | .running => 1
  | .expired => 2

/-- The reply of COUNTERS_READ for a port (R194). -/
def State.countersRecord (s : State) (q : Port) : List Byte :=
  (s.ports.get q).counters.enc ++
    match q.panel with
    | some x => (s.presence.get x).enc
    | none => enc1 s.watchdog.state.code ++ enc1 s.watchdog.timeout

/-- COUNTERS_READ in the port unit (R194; an unknown port before a forbidden one, log 17). -/
def State.takeCountersRead (s : State) (p : Port) (named : Option Nat) : Taken :=
  match named with
  | none => s.taken (s.countersRecord p)
  | some n =>
    match Port.ofCode n with
    | none => s.refuse .badValue
    | some q => if p = .supervisor ∨ p = q then s.taken (s.countersRecord q) else s.refuse .notPermitted

/-- COUNTERS_READ (R194). -/
def execCountersRead (p : Port) (port : Option Nat) (s : State) : Host.Outcome State Fault Refusal :=
  request (.countersRead p port) 0x5B p s (s.takeCountersRead p port)

/-- Counters at 0. -/
def Counters.zero : Counters := { gap := 0, crcErr := 0, overrun := 0, frameErr := 0, breaks := 0 }

/-- COUNTERS_CLEAR (R194). -/
def execCountersClear (p : Port) (s : State) : Host.Outcome State Fault Refusal :=
  request (.countersClear p) 0x5C p s ((s.onPort p fun u => { u with counters := Counters.zero }).taken [])

end Sys2Proof.Machine
end

