-- ==== Sys2Proof/Machine/Dispatch.lean ====
section
/-! DEFINITION. The meaning of each command. -/

namespace Sys2Proof.Machine

def exec (i : Instr) (s : State) : Host.Outcome State Fault Refusal :=
  match i with
  | .coldReset => Sys2Proof.Machine.execColdReset s
  | .selftestEnd found => Sys2Proof.Machine.execSelftestEnd found s
  | .selftestTimeLimit => Sys2Proof.Machine.execSelftestTimeLimit s
  | .sliceBoundary x m c => Sys2Proof.Machine.execSliceBoundary x m c s
  | .valveGraceOver => Sys2Proof.Machine.execValveGraceOver s
  | .driveTestComplete => Sys2Proof.Machine.execDriveTestComplete s
  | .windowEnd => Sys2Proof.Machine.execWindowEnd s
  | .crystalStop => Sys2Proof.Machine.execCrystalStop s
  | .crystalStart => Sys2Proof.Machine.execCrystalStart s
  | .mainsLost => Sys2Proof.Machine.execMainsLost s
  | .mainsPresent => Sys2Proof.Machine.execMainsPresent s
  | .sliceMiddleSample closed opened => Sys2Proof.Machine.execSliceMiddleSample closed opened s
  | .passComplete => Sys2Proof.Machine.execPassComplete s
  | .timerExpiry => Sys2Proof.Machine.execTimerExpiry s
  | .timerStartAtTime => Sys2Proof.Machine.execTimerStartAtTime s
  | .timerStartAtTemp => Sys2Proof.Machine.execTimerStartAtTemp s
  | .probeStop => Sys2Proof.Machine.execProbeStop s
  | .conversionEnd samples => Sys2Proof.Machine.execConversionEnd samples s
  | .alertSilence => Sys2Proof.Machine.execAlertSilence s
  | .frameReceived p crc => Sys2Proof.Machine.execFrameReceived p crc s
  | .gapTimeout p => Sys2Proof.Machine.execGapTimeout p s
  | .frameErr p => Sys2Proof.Machine.execFrameErr p s
  | .lineBreak p => Sys2Proof.Machine.execLineBreak p s
  | .replySent p => Sys2Proof.Machine.execReplySent p s
  | .presenceTimeout p => Sys2Proof.Machine.execPresenceTimeout p s
  | .watchdogExpiry => Sys2Proof.Machine.execWatchdogExpiry s
  | .busLinesFree => Sys2Proof.Machine.execBusLinesFree s
  | .busFreeTimeout => Sys2Proof.Machine.execBusFreeTimeout s
  | .clockStretchTimeout => Sys2Proof.Machine.execClockStretchTimeout s
  | .readBurstEnd result => Sys2Proof.Machine.execReadBurstEnd result s
  | .retryWaitExpiry => Sys2Proof.Machine.execRetryWaitExpiry s
  | .pageWriteEnd result => Sys2Proof.Machine.execPageWriteEnd result s
  | .writePoll acknowledged => Sys2Proof.Machine.execWritePoll acknowledged s
  | .clockSet p time => Sys2Proof.Machine.execClockSet p time s
  | .clockRead p => Sys2Proof.Machine.execClockRead p s
  | .timebaseRead p => Sys2Proof.Machine.execTimebaseRead p s
  | .pointDemand p point demand => Sys2Proof.Machine.execPointDemand p point demand s
  | .pointRead p what => Sys2Proof.Machine.execPointRead p what s
  | .timerCreate p fields => Sys2Proof.Machine.execTimerCreate p fields s
  | .timerAdjust p h delta => Sys2Proof.Machine.execTimerAdjust p h delta s
  | .timerPause p h => Sys2Proof.Machine.execTimerPause p h s
  | .timerResume p h => Sys2Proof.Machine.execTimerResume p h s
  | .timerCancel p h => Sys2Proof.Machine.execTimerCancel p h s
  | .timerAdopt p h => Sys2Proof.Machine.execTimerAdopt p h s
  | .timerRead p h => Sys2Proof.Machine.execTimerRead p h s
  | .timerList p filter => Sys2Proof.Machine.execTimerList p filter s
  | .seqLoad p channel index => Sys2Proof.Machine.execSeqLoad p channel index s
  | .seqStore p channel steps => Sys2Proof.Machine.execSeqStore p channel steps s
  | .seqStart p channel start => Sys2Proof.Machine.execSeqStart p channel start s
  | .seqPause p channel => Sys2Proof.Machine.execSeqPause p channel s
  | .seqResume p channel => Sys2Proof.Machine.execSeqResume p channel s
  | .seqAbort p channel => Sys2Proof.Machine.execSeqAbort p channel s
  | .seqRead p what => Sys2Proof.Machine.execSeqRead p what s
  | .libWrite p index kind steps => Sys2Proof.Machine.execLibWrite p index kind steps s
  | .planRead p which => Sys2Proof.Machine.execPlanRead p which s
  | .feedbackRead p => Sys2Proof.Machine.execFeedbackRead p s
  | .verifySet p mode tolerance relayMask valveMask => Sys2Proof.Machine.execVerifySet p mode tolerance relayMask valveMask s
  | .driveTest p mask length => Sys2Proof.Machine.execDriveTest p mask length s
  | .driveTestAbort p => Sys2Proof.Machine.execDriveTestAbort p s
  | .senseRead p => Sys2Proof.Machine.execSenseRead p s
  | .senseConfig p mask averaging cal restore => Sys2Proof.Machine.execSenseConfig p mask averaging cal restore s
  | .alertList p => Sys2Proof.Machine.execAlertList p s
  | .alertAck p what => Sys2Proof.Machine.execAlertAck p what s
  | .cfgLoads p entries => Sys2Proof.Machine.execCfgLoads p entries s
  | .cfgBudget p watts => Sys2Proof.Machine.execCfgBudget p watts s
  | .cfgAssign p entries => Sys2Proof.Machine.execCfgAssign p entries s
  | .cfgRank p first second third fourth => Sys2Proof.Machine.execCfgRank p first second third fourth s
  | .cfgLimits p cav grl => Sys2Proof.Machine.execCfgLimits p cav grl s
  | .cfgTimebase p mode tolerance => Sys2Proof.Machine.execCfgTimebase p mode tolerance s
  | .cfgMemory p device base => Sys2Proof.Machine.execCfgMemory p device base s
  | .cfgPorts p a b watchdog => Sys2Proof.Machine.execCfgPorts p a b watchdog s
  | .cfgCommit p => Sys2Proof.Machine.execCfgCommit p s
  | .stateRead p => Sys2Proof.Machine.execStateRead p s
  | .holdRequest p => Sys2Proof.Machine.execHoldRequest p s
  | .resume p => Sys2Proof.Machine.execResume p s
  | .restart p => Sys2Proof.Machine.execRestart p s
  | .faultRead p => Sys2Proof.Machine.execFaultRead p s
  | .faultClear p flags => Sys2Proof.Machine.execFaultClear p flags s
  | .faultMask p mask => Sys2Proof.Machine.execFaultMask p mask s
  | .eventsRead p => Sys2Proof.Machine.execEventsRead p s
  | .eventsClear p classes => Sys2Proof.Machine.execEventsClear p classes s
  | .eventsMask p classes => Sys2Proof.Machine.execEventsMask p classes s
  | .countersRead p port => Sys2Proof.Machine.execCountersRead p port s
  | .countersClear p => Sys2Proof.Machine.execCountersClear p s
  | .byteReceived p b => Sys2Proof.Machine.execByteReceived p b s
  | .lineHighAfterBreak p => Sys2Proof.Machine.execLineHighAfterBreak p s

end Sys2Proof.Machine
end

