-- ==== Sys2Proof/Machine/Idle.lean ====
section
/-! DEFINITION. What an RC millisecond brings while no command waits: the RC oscillator runs whatever the slices do (R1),
a panel's silence is counted on it (R194, R195), and the self-test goes on (R179, R180). -/

namespace Sys2Proof.Machine

/-- The most milliseconds of silence the reply to COUNTERS_READ can tell apart (R194). -/
def maxSilenceMs : Nat := Config.maxSilence * 1000 + 999

/-- A count of silence one RC millisecond later; there is none before the first valid frame (R195). -/
def Presence.idle (r : Presence) : Presence := { r with silence := r.silence.map fun n => min maxSilenceMs (n + 1) }

/-- The part of the self-test after one (R180). -/
def SelfTestPart.following : SelfTestPart → SelfTestPart
  | .march => .reference
  | .reference | .readback => .readback

/-- The self-test one RC millisecond later (R179, R180): in SELFTEST the part in progress may have passed to the next,
as a free value says (log 13). -/
def State.idleSelftest (s : State) : State :=
  if s.stc.op = .selftest then
    (if Config.selfTestAdvances s.free then
      s.setStc { s.stc with selfTest := { s.stc.selfTest with part := s.stc.selfTest.part.map SelfTestPart.following } }
    else s).setFree (s.free + 1)
  else s

/-- An RC millisecond without a command (log 2). -/
def State.idle (s : State) : State :=
  (s.setPresence { a := s.presence.a.idle, b := s.presence.b.idle }).idleSelftest

end Sys2Proof.Machine
end

