-- ==== Sys2Proof/Machine/Step.lean ====
section
/-! DEFINITION. One step: the command at the front of the queue, or one RC millisecond where none waits. -/

namespace Sys2Proof.Machine

/-- The state that a step runs a command on: `rest` waits behind it. -/
def State.withQueue (s : State) (rest : List Instr) : State := s.setPending rest

/-- One step (log 1, log 2). -/
def step (s : State) : Host.Outcome State Fault Refusal :=
  match s.pending with
  | [] => .next s.idle
  | c :: rest => exec c (s.withQueue rest)

/-- The command that a word of `nbits` bits spells, at the front of the queue; `s` where it spells none (log 27). -/
def State.withFetchWord (s : State) (nbits w : Nat) : State :=
  match decodeTableWord nbits w with
  | none => s
  | some c => s.withQueue (c :: s.pending)

end Sys2Proof.Machine
end

