-- ==== Sys2Proof/WellFormed.lean ====
section
/-! DEFINITION. Which commands can reach the part: a request whose fields fit the encoding of R202 (a value outside its
range but inside its bytes is well formed, and its block refuses it), an event whose operands have the shape of the input
they stand for. -/

namespace Sys2Proof

/-- A number of one, two or three bytes (R202). -/
def fits1 (n : Nat) : Bool := decide (n < 256)
def fits2 (n : Nat) : Bool := decide (n < 65536)
def fits3 (n : Nat) : Bool := decide (n < 16777216)

/-- A temperature of two bytes, a calibration offset of one, a delta of three, in two's complement (R202). -/
def fitsTemp (t : Int) : Bool := decide (-32768 ≤ t ∧ t < 32768)
def fitsOffset (t : Int) : Bool := decide (-128 ≤ t ∧ t < 128)
def fitsDelta (t : Int) : Bool := decide (-8388608 ≤ t ∧ t < 8388608)

/-- A list whose items take `size` bytes each, in a payload with `other` bytes beside it: a payload has at most 59 bytes
(R202). -/
def fitsList (size other n : Nat) : Bool := decide (size * n + other ≤ 59)

def StartField.fits : StartField → Bool
  | .immediate | .beyond => true
  | .atTime t => fits3 t
  | .atTemp t => fitsTemp t
  | .afterLeader _ t => t.all fitsTemp

def DemandField.fits : DemandField → Bool
  | .gas v => fits1 v
  | .duties ds => ds.all fits1 && fitsList 1 1 ds.length

def StepField.fits (t : StepField) : Bool := fits3 t.duration && fits1 t.mask && fits1 t.cap && fits1 t.action

def PointField.fits : PointField → Bool
  | .point n => fits1 n
  | .all | .beyond => true

def FilterField.fits : FilterField → Bool
  | .owner n | .point n => fits1 n
  | .beyond => true

def ChannelField.fits : ChannelField → Bool
  | .channel n => fits1 n
  | .memory | .beyond => true

def ModeField.fits : ModeField → Bool
  | .fixed n => fits1 n
  | .off | .auto | .beyond => true

def AckField.fits : AckField → Bool
  | .cause n => fits1 n
  | .timer _ | .oldest | .beyond => true

def FlagsField.fits : FlagsField → Bool
  | .flags cs => cs.all fits1 && fitsList 1 2 cs.length
  | .all | .beyond => true

def LoadField.fits (t : LoadField) : Bool := fits1 t.load && t.power.all fits2 && t.carry.all fits1 && t.pin.all fits1

def CalField.fits (t : CalField) : Bool := fits1 t.channel && t.gain.all fits1 && t.offset.all fitsOffset

def AssignField.fits (t : AssignField) : Bool := fits1 t.point && fits1 t.role

def TimerFields.fits (t : TimerFields) : Bool :=
  fits1 t.kind && fits1 t.point && fits3 t.duration && t.start.fits && t.probe.all fitsTemp && fits1 t.level

/-- Whether the steps a request carries fit its payload beside `other` bytes. -/
def stepsFit (other : Nat) (ts : List StepField) : Bool := ts.all StepField.fits && fitsList 6 other ts.length

/-- A burst carries 16 bytes (R90). -/
def BurstEnd.fits : BurstEnd → Bool
  | .read bs => bs.length = 16
  | .noAddressAck => true

/-- Whether a command can reach the part. -/
def Instr.wellFormed : Instr → Bool
  | .sliceBoundary _ _ c => decide (0 < c)
  | .conversionEnd samples => samples.length = 2 || samples.length = 4 || samples.length = 8 || samples.length = 16
  | .readBurstEnd r => r.fits
  | .clockSet _ t => fits3 t
  | .pointDemand _ x d => fits1 x && d.fits
  | .pointRead _ w => w.fits
  | .timerCreate _ t => t.fits
  | .timerAdjust _ _ d => fitsDelta d
  | .timerList _ f => f.all FilterField.fits
  | .seqLoad _ c i => fits1 c && fits1 i
  | .seqStore _ c ts => fits1 c && stepsFit 2 ts
  | .seqStart _ c t => fits1 c && t.fits
  | .seqPause _ c | .seqResume _ c | .seqAbort _ c => fits1 c
  | .seqRead _ w => w.fits
  | .libWrite _ i k ts => fits1 i && fits1 k && stepsFit 3 ts
  | .planRead _ w => fits1 w
  | .verifySet _ m t r v => m.all ModeField.fits && t.all fits1 && r.all fits1 && v.all fits1
  | .driveTest _ m t => fits1 m && fits2 t
  | .senseConfig _ m a c _ => m.all fits1 && a.all fits1 && c.all fun es => es.all CalField.fits && fitsList 2 2 es.length
  | .alertAck _ w => w.fits
  | .cfgLoads _ es => es.all LoadField.fits && fitsList 2 1 es.length
  | .cfgBudget _ w => fits2 w
  | .cfgAssign _ es => es.all AssignField.fits && fitsList 2 1 es.length
  | .cfgRank _ a b c d => fits1 a && fits1 b && fits1 c && fits1 d
  | .cfgLimits _ a b => a.all fitsTemp && b.all fitsTemp
  | .cfgTimebase _ a b => a.all fits1 && b.all fits1
  | .cfgMemory _ a b => a.all fits1 && b.all fits2
  | .cfgPorts _ a b c => a.all fits1 && b.all fits1 && c.all fits1
  | .faultClear _ f => f.fits
  | .faultMask _ m => fits2 m
  | .eventsClear _ m | .eventsMask _ m => fits2 m
  | .countersRead _ q => q.all fits1
  | .coldReset | .selftestEnd _ | .selftestTimeLimit | .valveGraceOver | .driveTestComplete | .windowEnd | .crystalStop
  | .crystalStart | .mainsLost | .mainsPresent | .sliceMiddleSample _ _ | .passComplete | .timerExpiry
  | .timerStartAtTime | .timerStartAtTemp | .probeStop | .alertSilence | .frameReceived _ _ | .gapTimeout _
  | .frameErr _ | .lineBreak _ | .replySent _ | .presenceTimeout _ | .watchdogExpiry | .busLinesFree | .busFreeTimeout
  | .clockStretchTimeout | .retryWaitExpiry | .pageWriteEnd _ | .writePoll _ | .clockRead _ | .timebaseRead _
  | .timerPause _ _ | .timerResume _ _ | .timerCancel _ _ | .timerAdopt _ _ | .timerRead _ _ | .feedbackRead _
  | .driveTestAbort _ | .senseRead _ | .alertList _ | .cfgCommit _ | .stateRead _ | .holdRequest _ | .resume _
  | .restart _ | .faultRead _ | .eventsRead _ | .countersClear _ | .byteReceived _ _ | .lineHighAfterBreak _ => true

end Sys2Proof
end

