-- ==== Sys2Proof/Safety.lean ====
section
/-! DEFINITION. The terms in which claims are stated: what a reply is, what a command may do to the port units, and the
relations between blocks that hold in every state a run reaches, the checks that a creation passes. -/

namespace Sys2Proof.Machine

/-! ## Replies and postings -/

/-- The last reply formed for port `p` has this reply code, status and data (R193). -/
def State.Replied (t : State) (p : Port) (code : Byte) (status : Status) (data : List Byte) : Prop :=
  (t.ports.get p).lastReply = some { code := code, status := status, data := data }

/-- The port units from `s` to `t`: receivers, buffers, counters and masks kept at every port, service, replies and requests
cut off kept at every port other than `who`, and exactly the classes of `posts` added to the pending sets (R198). -/
structure PortsAfter (who : Option Port) (posts : Port → EventClass → Bool) (s t : State) : Prop where
  kept : ∀ q, (t.ports.get q).rx = (s.ports.get q).rx ∧ (t.ports.get q).buffer = (s.ports.get q).buffer ∧
    (t.ports.get q).counters = (s.ports.get q).counters ∧ (t.ports.get q).eventMask = (s.ports.get q).eventMask
  silent : ∀ q, who ≠ some q →
    (t.ports.get q).service = (s.ports.get q).service ∧ (t.ports.get q).lastReply = (s.ports.get q).lastReply ∧
      (t.ports.get q).cutOff = (s.ports.get q).cutOff
  posted : ∀ q c, (t.ports.get q).posted.get c = ((s.ports.get q).posted.get c || posts q c)

/-- No class posted. -/
def noPosts : Port → EventClass → Bool := fun _ _ => false

/-- One class posted to every port. -/
def toAll (c : EventClass) : Port → EventClass → Bool := fun _ d => d = c

/-- A request from port `p` answered with a status and data, and nothing else changed. -/
def OnlyReplied (p : Port) (code : Byte) (status : Status) (data : List Byte) (s t : State) : Prop :=
  t = { s with ports := t.ports } ∧ PortsAfter (some p) noPosts s t ∧ t.Replied p code status data

/-! ## Relations between blocks -/

/-- FLT, ATN-A to ATN-C and IND1 to IND9 are as the sets they follow have them (R168, R183, R198). -/
def State.LinesFollow (s : State) : Prop := s.pins = s.lines

/-- GMS and EMS are as the operating state and the drive test have them (R124). -/
def State.MastersFollow (s : State) : Prop :=
  s.dru.gms = gmsOf s.stc.op ∧ s.dru.ems = emsOf s.stc.op s.dru.test.status

/-- The reasons HALTED and FAULT of every gate are as the operating state and the attribution sets have them (R30, R31). -/
def State.GatesFollow (s : State) : Prop :=
  ∀ p, ((s.ptc.reasons.get p).halted = true ↔ s.stc.op ≠ .run) ∧
    ((s.ptc.reasons.get p).fault = true ↔ s.ptc.attribution.holds p = true)

/-- The halt is in force in HOLD and LOCKOUT (R69, R71). -/
def State.HaltFollows (s : State) : Prop := (s.tme.halt = true ↔ s.stc.op = .hold ∨ s.stc.op = .lockout)

/-- The hold cause TIMEBASE is held exactly while the source is RC (R15). -/
def State.TimebaseHeld (s : State) : Prop := (s.stc.holds.timebase = true ↔ s.tbu.source = .rc)

/-- In RUN the hold cause set is empty (R173). -/
def State.RunIsClear (s : State) : Prop := s.stc.op = .run → s.stc.noHold = true

/-- A drive test runs in CONFIG alone (R135, R138). -/
def State.TestInConfig (s : State) : Prop := s.dru.test.status = .running → s.stc.op = .config

/-- First-fault is held exactly while a flag is latched (R181). -/
def State.FirstFaultHeld (s : State) : Prop := (s.stc.firstFault.isSome = true ↔ s.stc.faults.any = true)

/-- The relations that hold in every state a run reaches. -/
structure State.Sound (s : State) : Prop where
  lines : s.LinesFollow
  masters : s.MastersFollow
  gates : s.GatesFollow
  halt : s.HaltFollows
  timebase : s.TimebaseHeld
  run : s.RunIsClear
  test : s.TestInConfig
  first : s.FirstFaultHeld

/-- The tables and queues keep to the sizes the spec gives them: 24 slots (R42), arrears of 0 to 40 (R103), 2 frames at
each port (R189), 4 notices (R166). -/
structure State.Bounded (s : State) : Prop where
  slots : s.tme.slots.length = 24
  arrears : ∀ l, s.spl.arrears.get l ≤ 40
  buffers : ∀ p, (s.ports.get p).buffer.length ≤ 2
  notices : s.alc.notices.length ≤ 4

/-! ## Requests -/

/-- A request with the port it came from, its reply code (R193) and whether it is the supervisor's alone (R192); `none` for
an event. -/
def asRequest : Instr → Option (Port × Byte × Bool)
  | .clockSet p _ => some (p, 0x81, false)
  | .clockRead p => some (p, 0x82, false)
  | .timebaseRead p => some (p, 0x83, false)
  | .pointDemand p _ _ => some (p, 0x90, false)
  | .pointRead p _ => some (p, 0x91, false)
  | .timerCreate p _ => some (p, 0x92, false)
  | .timerAdjust p _ _ => some (p, 0x93, false)
  | .timerPause p _ => some (p, 0x94, false)
  | .timerResume p _ => some (p, 0x95, false)
  | .timerCancel p _ => some (p, 0x96, false)
  | .timerAdopt p _ => some (p, 0x97, false)
  | .timerRead p _ => some (p, 0x98, false)
  | .timerList p _ => some (p, 0x99, false)
  | .seqLoad p _ _ => some (p, 0xA0, false)
  | .seqStore p _ _ => some (p, 0xA1, false)
  | .seqStart p _ _ => some (p, 0xA2, false)
  | .seqPause p _ => some (p, 0xA3, false)
  | .seqResume p _ => some (p, 0xA4, false)
  | .seqAbort p _ => some (p, 0xA5, false)
  | .seqRead p _ => some (p, 0xA6, false)
  | .libWrite p _ _ _ => some (p, 0xA7, true)
  | .planRead p _ => some (p, 0xB0, false)
  | .feedbackRead p => some (p, 0xB1, false)
  | .verifySet p _ _ _ _ => some (p, 0xB2, true)
  | .driveTest p _ _ => some (p, 0xB3, true)
  | .driveTestAbort p => some (p, 0xB4, true)
  | .senseRead p => some (p, 0xB8, false)
  | .senseConfig p _ _ _ _ => some (p, 0xB9, true)
  | .alertList p => some (p, 0xBC, false)
  | .alertAck p _ => some (p, 0xBD, false)
  | .cfgLoads p _ => some (p, 0xC0, true)
  | .cfgBudget p _ => some (p, 0xC1, true)
  | .cfgAssign p _ => some (p, 0xC2, true)
  | .cfgRank p _ _ _ _ => some (p, 0xC3, true)
  | .cfgLimits p _ _ => some (p, 0xC4, true)
  | .cfgTimebase p _ _ => some (p, 0xC5, true)
  | .cfgMemory p _ _ => some (p, 0xC6, true)
  | .cfgPorts p _ _ _ => some (p, 0xC7, true)
  | .cfgCommit p => some (p, 0xC8, true)
  | .stateRead p => some (p, 0xC9, false)
  | .holdRequest p => some (p, 0xCA, true)
  | .resume p => some (p, 0xCB, true)
  | .restart p => some (p, 0xCC, true)
  | .faultRead p => some (p, 0xD0, false)
  | .faultClear p _ => some (p, 0xD1, true)
  | .faultMask p _ => some (p, 0xD2, true)
  | .eventsRead p => some (p, 0xD8, false)
  | .eventsClear p _ => some (p, 0xD9, false)
  | .eventsMask p _ => some (p, 0xDA, false)
  | .countersRead p _ => some (p, 0xDB, false)
  | .countersClear p => some (p, 0xDC, false)
  | .coldReset | .selftestEnd _ | .selftestTimeLimit | .sliceBoundary _ _ _ | .valveGraceOver | .driveTestComplete
  | .windowEnd | .crystalStop | .crystalStart | .mainsLost | .mainsPresent | .sliceMiddleSample _ _ | .passComplete
  | .timerExpiry | .timerStartAtTime | .timerStartAtTemp | .probeStop | .conversionEnd _ | .alertSilence
  | .frameReceived _ _ | .gapTimeout _ | .frameErr _ | .lineBreak _ | .replySent _ | .presenceTimeout _
  | .watchdogExpiry | .busLinesFree | .busFreeTimeout | .clockStretchTimeout | .readBurstEnd _ | .retryWaitExpiry
  | .pageWriteEnd _ | .writePoll _ | .byteReceived _ _ | .lineHighAfterBreak _ => none

/-! ## Blocks that a command leaves alone -/

/-- Everything but the port units and the lines is as it was. -/
def SameButPorts (s t : State) : Prop := t = { s with ports := t.ports, pins := t.pins }

/-- A class posted to the ports that `who` names. -/
def toPorts (c : EventClass) (who : Port → Bool) : Port → EventClass → Bool := fun q d => d = c && who q

/-- What gates that open and close can bring beside their reasons: a pass started, loads and permission lines withdrawn
(R34, R35). Every other field of the planner is as it was. -/
def PlannerKept (s t : State) : Prop :=
  t.spl = { s.spl with pending := t.spl.pending, serial := t.spl.serial, withdrawals := t.spl.withdrawals }

/-- Demand, owning panels and rank are as they were. -/
def DemandKept (s t : State) : Prop :=
  t.ptc = { s.ptc with reasons := t.ptc.reasons, attribution := t.ptc.attribution }

/-- The Drive Unit is as it was but for its withdrawal set, the master lines and the status of the drive test. -/
def DriveKept (s t : State) : Prop :=
  t.dru = { s.dru with
    withdrawLoads := t.dru.withdrawLoads
    withdrawGas := t.dru.withdrawGas
    gms := t.dru.gms
    ems := t.dru.ems
    test := { s.dru.test with status := t.dru.test.status } }

/-- What a change of operating state can reach (R172): reasons, pause causes, master lines, withdrawals, a pass, system
entries, the State Controller, pending sets and the lines that follow them. Everything else is as it was. -/
structure ControlFrame (s t : State) : Prop where
  planner : PlannerKept s t
  points : DemandKept s t ∧ t.ptc.attribution = s.ptc.attribution
  drive : DriveKept s t
  alerts : t.alc = { s.alc with entries := t.alc.entries }
  timers : t.tme = s.tme ∨ t.tme = s.tme.halted ∨ t.tme = s.tme.unhalted
  rest : t = { s with ptc := t.ptc, tme := t.tme, spl := t.spl, dru := t.dru, alc := t.alc, stc := t.stc, ports := t.ports,
                      pins := t.pins }

/-! ## What a rule makes of a record -/

/-- A WAITING AT_TIME slot whose start time is a time of day (R49). -/
def startsAt (time : Nat) (r : Timer) : Bool :=
  match r.phase, r.start with
  | .waiting, .atTime start _ => (start + 86400 - time) % 86400 = 0
  | _, _ => false

/-- A slot's record after a second tick (R52), where what the tick brings to 0 is marked and not yet acted on (log 5). -/
def ticked (r : Timer) : Timer :=
  match r.phase, r.start with
  | .waiting, .atTime start k =>
    if 2 ≤ k then { r with start := .atTime start (k - 1), tickDue := false } else { r with tickDue := true }
  | _, _ =>
    if r.running then
      if 2 ≤ r.remaining then { r with remaining := r.remaining - 1, tickDue := false } else { r with tickDue := true }
    else { r with tickDue := false }

/-- An Alert List entry at the second tick that brings the seconds counter to `now`: the level of a SOUNDING timer entry is
its start level and one more for each whole 60 s of age, 4 at most (R159). -/
def aged (now : BitVec 32) (e : Alert) : Alert :=
  if e.isTimer && e.sounding then { e with level := min 4 (e.startLevel + (now - e.raisedAt).toNat / 60) } else e

/-- Whether a system cause is present: what R160 names of the operating state, the hold cause set and the fault record. -/
def State.causeStands (s : State) : SystemCause → Bool
  | .lockout => s.stc.op = .lockout
  | .hold => s.stc.op = .hold
  | .driveFault => Load.all.any fun l => s.stc.faults.drive.get l || s.stc.faults.stuckOn.get l
  | .valveFault => Gas.all.any fun z => s.stc.faults.valve.get z || s.stc.faults.valveUnexpected.get z
  | .overtemp => s.stc.faults.plain.cavOvertemp || s.stc.faults.plain.grlOvertemp || s.stc.faults.plain.boardOvertemp
  | .sensorFault => s.stc.faults.plain.sensor || s.stc.faults.plain.probe
  | .timebase => s.stc.holds.timebase
  | .memoryFault => s.stc.faults.plain.memory

/-- What a command from `s` to `t` makes of an entry: the mark of a system entry whose cause changed is turned, and one that was
SILENCED leaves with its cause (R161). -/
def followedEntry (s t : State) (e : Alert) : Option Alert :=
  match e.source with
  | .timer _ => some e
  | .system c _ =>
    if t.causeStands c = s.causeStands c then some e
    else if t.causeStands c || e.sounding then some { e with source := .system c (t.causeStands c) } else none

/-- The entries that join from `s` to `t`: one for each cause that became present and had none, in the order of R157 (R161). -/
def joinedEntries (s t : State) : List Alert :=
  (SystemCause.all.filter fun c => t.causeStands c && !s.causeStands c && s.alc.entries.all fun e => !e.forCause c).map fun c =>
    { source := .system c true, point := none, raisedAt := t.tbu.seconds, startLevel := 4, level := 4, sounding := true }

/-- A slot's record after a CLOCK_SET: a WAITING AT_TIME slot has its seconds-to-start from the new time of day, and has
started where that is 0 (R17, R49). -/
def retimed (time : Nat) (r : Timer) : Timer :=
  match r.phase, r.start with
  | .waiting, .atTime start _ =>
    let k := (start + 86400 - time) % 86400
    if k = 0 then { r with phase := .started, remaining := r.duration, start := .atTime start 0, tickDue := false,
                           tempMark := false, probeMark := false }
    else { r with start := .atTime start k, tickDue := false }
  | _, _ => r

/-! ## The checks of a creation -/

/-- What the first failing check of a list answers: its refusal, and nothing where every check passes. A check is written as the
condition under which it fails. -/
def refusedBy : List (Prop × Status) → Option Status → Prop
  | [], r => r = none
  | (fails, e) :: rest, r => (fails ∧ r = some e) ∨ (¬ fails ∧ refusedBy rest r)

/-- Whether the fields of a TIMER_CREATE of kind `k` are ones that R44 and the second check of R48 allow; points as R202 codes
them: 6 to 9 are Z6, Z7, OV and GR. -/
def createFormed (k : Kind) (f : TimerFields) : Prop :=
  f.duration ≠ 0 ∧
  (k = .minder ∧ f.point = 0 ∨ k = .cookEnd ∧ 1 ≤ f.point ∧ f.point ≤ 9 ∨ k = .delayStart ∧ 6 ≤ f.point ∧ f.point ≤ 9) ∧
  (k = .delayStart ∧ f.level = 0 ∨ k ≠ .delayStart ∧ 1 ≤ f.level ∧ f.level ≤ 3) ∧
  (f.probe ≠ none → k = .cookEnd ∧ f.point = 8) ∧
  match f.start with
  | .immediate => True
  | .atTime time => time ≤ 86399
  | .atTemp _ => k = .cookEnd ∧ (f.point = 8 ∨ f.point = 9)
  | .afterLeader _ (some _) => k = .cookEnd ∧ (f.point = 8 ∨ f.point = 9)
  | .afterLeader _ none => k = .cookEnd ∧ 6 ≤ f.point ∧ f.point ≤ 9
  | .beyond => False

/-- Whether the start condition of a TIMER_CREATE carries a temperature threshold. -/
def carriesThreshold (f : TimerFields) : Prop :=
  (∃ a, f.start = .atTemp a) ∨ ∃ h a, f.start = .afterLeader h (some a)

/-- Whether a channel's last reading is a temperature. -/
def State.measures (s : State) (c : Sensor) : Prop := ∃ d, (s.snu.channels.get c).reading = .temp d

/-- The checks that R48 and R50 list for a TIMER_CREATE outside SELFTEST, in their order. -/
def checksOfCreate (p : Port) (f : TimerFields) (s : State) : List (Prop × Status) :=
  let x := Point.ofCode f.point
  let k := Kind.ofCode f.kind
  let leader := fun (e : Except Status Timer) => ∃ h a, f.start = .afterLeader h a ∧ s.tme.lookup h = e
  [(∀ j, k = some j → j = .step, .badValue),
   (∀ j, k = some j → ¬ createFormed j f, .badValue),
   ((s.stc.op = .config ∨ s.stc.op = .lockout) ∧ k ≠ some .minder, .refusedState),
   ((∃ time, f.start = .atTime time) ∧ s.tbu.timeOfDay = none, .clockUnset),
   (p ≠ .supervisor ∧ ∃ y, x = some y ∧ p ≠ (s.ptc.panel.get y).port, .notAssigned),
   (leader (.error .badValue), .badValue),
   (leader (.error .staleHandle), .staleHandle),
   (leader (.error .refusedState), .refusedState),
   (∃ r, leader (.ok r) ∧ (r.kind ≠ .delayStart ∨ r.point ≠ x ∨ r.follower ≠ none), .badValue),
   (∃ r, leader (.ok r) ∧ r.modifiableBy p = false, .notOwner),
   (carriesThreshold f ∧ ∃ y, x = some y ∧ ¬ s.measures (if y = .ov then .cav else .grl), .noSensor),
   (f.probe ≠ none ∧ ¬ s.measures .prb, .noSensor),
   (∃ y, x = some y ∧ (k = some .cookEnd ∧ (s.tme.hasKind y .cookEnd = true ∨ s.tme.hasKind y .step = true) ∨
     k = some .delayStart ∧ s.tme.hasKind y .delayStart = true), .pointTimed),
   (∀ u ∈ s.tme.slots, u.timer ≠ none, .tableFull),
   ((if p = .supervisor then 4 else 10) ≤ s.tme.held (.role p), .quota)]

/-- The start condition that a slot holds from a request's field, thresholds clamped to 30 to 300 °C (R48, R49, R50). -/
def startHeld (timeOfDay : Nat) : StartField → Start
  | .immediate | .beyond => .immediate
  | .atTime time => .atTime time ((time + 86400 - timeOfDay) % 86400)
  | .atTemp a => .atTemp (max 30 (min 300 a))
  | .afterLeader h a => .afterLeader (some h) (a.map fun b => max 30 (min 300 b))

/-- Whether a slot with this start condition starts at its creation (R48). -/
def startsNow : Start → Bool
  | .immediate => true
  | .atTime _ k => k = 0
  | _ => false

end Sys2Proof.Machine
end

