-- ==== Sys2Proof/Certificates/Slice0/Obligations.lean ====
section
/-! DEFINITION. The statements, chapter by chapter of spec/. A docstring cites the rules a statement formalises, or says
which log entry it rests on. -/

section Statements

open Sys2Proof Sys2Proof.Machine

/-! ## The machine as a whole -/

/-- A step takes the command at the front of the queue and runs it with the queue's rest (log 1). -/
def Obligations.StepRunsTheFrontCommand : Prop :=
  ∀ (c : Instr) (rest : List Instr) (s : State), step { s with pending := c :: rest } = exec c { s with pending := rest }

/-- A step on an empty queue is one RC millisecond, the model's choice (log 2): each panel's count of silence goes up by 1
where there is one, outside SELFTEST nothing else changes, and in SELFTEST only the part in progress may (log 13). -/
def Obligations.IdleStepIsAnRcMillisecond : Prop :=
  ∀ s : State, s.pending = [] → ∃ t, step s = .next t ∧
    t = { s with presence := t.presence, stc := { s.stc with selfTest := { s.stc.selfTest with part := t.stc.selfTest.part } },
                 free := t.free } ∧
    (∀ p, t.presence.get p =
      { s.presence.get p with silence := (s.presence.get p).silence.map fun n => min 65534999 (n + 1) }) ∧
    (s.stc.op ≠ .selftest → t.stc = s.stc ∧ t.free = s.free)

/-- After every command FLT, ATN-A to ATN-C and IND1 to IND9 stand as the fault record with its mask, the pending sets with
their masks, and the Alert List have them (R168, R183, R198); the queue, the model's own, stays as it was (log 27). After every
command but COLD_RESET, RESTART and ALERT_ACK that leaves the part outside SELFTEST, the system entries stand as the eight causes
have them: an entry whose cause became present or cleared has its mark turned, a SILENCED one whose cause cleared has left, and a
cause that became present without an entry has joined at the end of the list, in the order of R157, at level 4, SOUNDING, with
the time; a change posts ALERT_CHANGED to every port. In SELFTEST they stay (R157, R160, R161, R164). -/
def Obligations.LinesFollowTheirSets : Prop :=
  ∀ (i : Instr) (s t : State), exec i s = .next t →
    t.pending = s.pending ∧
    (t.pins.flt = true ↔ ∃ f, t.stc.faults.flagged f = true ∧ t.stc.faultMask.get f = true) ∧
    (∀ p, t.pins.atn.get p = true ↔
      ∃ c, (t.ports.get p).posted.get c = true ∧ (t.ports.get p).eventMask.get c = true) ∧
    (∀ x, t.pins.ind.get x = true ↔ ∃ e ∈ t.alc.entries, e.point = some x) ∧
    (i ≠ .coldReset → (∀ p, i ≠ .restart p) → (∀ p d, i ≠ .alertAck p d) →
      let system := fun u : State => u.alc.entries.filter fun e => !e.isTimer
      let joined := joinedEntries s t
      (t.stc.op = .selftest → system t = system s) ∧
      (t.stc.op ≠ .selftest →
        system t = (system s).filterMap (followedEntry s t) ++ joined ∧ joined <:+ t.alc.entries ∧
        (system t ≠ system s → ∀ q, (t.ports.get q).posted.alertChanged = true)))

/-- The relations between blocks hold in the state after a cold reset, and so do the sizes of the tables. -/
def Obligations.ResetIsSound : Prop := State.reset.Sound ∧ State.reset.Bounded

/-- Every step keeps the relations between blocks: lines (R168, R183, R198), masters (R124), HALTED and FAULT (R30, R31), the
halt in force (R69, R71), TIMEBASE (R15), RUN without hold causes (R173), tests in CONFIG (R138), first-fault (R181). -/
def Obligations.StepKeepsSound : Prop := ∀ s t : State, s.Sound → step s = .next t → t.Sound

/-- Every step keeps the Timer Table at 24 slots (R42), the arrears within 0 to 40 (R103), the receive buffers within 2
frames (R189) and the notice queue within 4 (R166). -/
def Obligations.StepKeepsBounded : Prop := ∀ s t : State, s.Bounded → step s = .next t → t.Bounded

/-- Once in LOCKOUT the part stays there until a cold reset, and both master lines are low after every command taken there
with them low (R178, R124). -/
def Obligations.LockoutStays : Prop :=
  ∀ (i : Instr) (s t : State), i ≠ .coldReset → s.stc.op = .lockout → exec i s = .next t →
    t.stc.op = .lockout ∧ (s.dru.gms = false → s.dru.ems = false → t.dru.gms = false ∧ t.dru.ems = false)

/-- No command but FAULT_CLEAR and COLD_RESET clears a latched flag or member, and first-fault stays while one is latched. A
command that latches into a record in which every flag is clear makes first-fault of what it latches, with the time (R181, R182);
where it latches several, that the first in the order of R181 is the one is the model's choice (logs 11, 35, 39). -/
def Obligations.FaultsStayLatched : Prop :=
  ∀ (i : Instr) (s t : State), i ≠ .coldReset → (∀ p fs, i ≠ .faultClear p fs) → exec i s = .next t →
    (∀ f, s.stc.faults.get f = true →
      t.stc.faults.get f = true ∧ t.stc.firstFault = s.stc.firstFault) ∧
    ((∀ f, s.stc.faults.get f = false) → ∀ f, t.stc.faults.get f = true →
      t.stc.firstFault = (FaultId.all.find? fun g => t.stc.faults.get g).map fun g => (g, t.tbu.seconds))

/-- COLD_RESET leaves every block at the value its chapter gives, the part in SELFTEST on RC (R21, R40, R73, R119, R141, R156,
R170, R179, R186, R201); what the model adds, the queue and the count of free values, stays (log 28). -/
def Obligations.ColdResetTakesEveryBlock : Prop :=
  ∀ s : State, ∃ t, exec .coldReset s = .next t ∧ t.pending = s.pending ∧ t.free = s.free ∧
    t = { State.reset with pending := t.pending, free := t.free } ∧
    t.stc.op = .selftest ∧ t.stc.holds.timebase = true ∧ t.tbu.source = .rc ∧ t.tbu.slice = 0 ∧ t.tbu.seconds = 0 ∧
    t.tbu.timeOfDay = none ∧ (∀ p, t.gateOpen p = false) ∧ (∀ n < 24, t.tme.timer n = none) ∧
    (∀ l, (t.spl.loads.get l).power = 0 ∧ t.dru.en.get l = false) ∧ t.spl.budget = 3600 ∧ t.dru.gms = false ∧
    t.dru.ems = false ∧ (∀ c, (t.snu.channels.get c).reading = .unavailable) ∧ t.alc.entries = [] ∧
    (∀ f, t.stc.faults.flagged f = false) ∧ (∀ p, (t.ports.get p).buffer = [] ∧ (t.ports.get p).rx = .hunt) ∧
    t.watchdog.state = .disarmed

/-! ## Requests (R191 to R193) -/

/-- The checks that stand before a block's own: a request that R192 allows the supervisor alone, sent by a panel, is answered
NOT_PERMITTED in every operating state; in SELFTEST every other request, but STATE_READ and FAULT_READ, is answered BUSY;
nothing else changes (R179, R191). -/
def Obligations.RefusedBeforeTheBlock : Prop :=
  ∀ (i : Instr) (p : Port) (code : Byte) (only : Bool) (s : State), asRequest i = some (p, code, only) → s.LinesFollow →
    (only = true → p ≠ .supervisor → ∃ t, exec i s = .next t ∧ OnlyReplied p code .notPermitted [] s t) ∧
    ((only = true → p = .supervisor) → i ≠ .stateRead p → i ≠ .faultRead p → s.stc.op = .selftest →
      ∃ t, exec i s = .next t ∧ OnlyReplied p code .busy [] s t)

/-- The reply that a block forms goes into transmission at the port of the request exactly where that port's frame in service
is the request answered; none is begun to a request that a break cut off before its block had taken it, and the frame in service
keeps its place (R189, R190, R193; the split of frame and request is log 16). -/
def Obligations.RepliesGoOutToTheFrameInService : Prop :=
  ∀ (i : Instr) (p : Port) (code : Byte) (only : Bool) (s t : State), asRequest i = some (p, code, only) →
    exec i s = .next t →
    ∃ r, (t.ports.get p).lastReply = some r ∧ r.code = code ∧
      (i ∉ (s.ports.get p).cutOff → (t.ports.get p).cutOff = (s.ports.get p).cutOff ∧
        (t.ports.get p).service =
          if (s.ports.get p).service = .handed i then .replying r.frames else (s.ports.get p).service) ∧
      (i ∈ (s.ports.get p).cutOff → (t.ports.get p).cutOff = (s.ports.get p).cutOff.erase i ∧
        (t.ports.get p).service = (s.ports.get p).service)

/-- The read requests of the timebase, the points, the timers and the channels are answered with the state as it stands, and
change nothing (R18, R39, R66, R86, R94). -/
def Obligations.TableReadsChangeNothing : Prop :=
  ∀ (p : Port) (s : State), s.stc.op ≠ .selftest → s.LinesFollow →
    (∃ t, exec (.clockRead p) s = .next t ∧ OnlyReplied p 0x82 .ok
      ((match s.tbu.timeOfDay with
        | some n => enc3 n
        | none => [0xFF, 0xFF, 0xFF]) ++ enc4 s.tbu.seconds.toNat ++ [byteOf s.tbu.slice.val]) s t) ∧
    (∃ t, exec (.timebaseRead p) s = .next t ∧ OnlyReplied p 0x83 .ok s.tbu.record s t) ∧
    (∀ x : Point, ∃ t, exec (.pointRead p (.point x.code)) s = .next t ∧
      OnlyReplied p 0x91 .ok (s.pointRecord x) s t) ∧
    (∀ (h : Handle) (r : Timer), s.tme.lookup h = .ok r →
      ∃ t, exec (.timerRead p h) s = .next t ∧ OnlyReplied p 0x98 .ok (timerRecord h r) s t) ∧
    (∃ t, exec (.timerList p none) s = .next t ∧
      OnlyReplied p 0x99 .ok (encTimers (s.tme.listed fun _ => true) ++ s.tme.counts) s t) ∧
    (∀ c : SeqChan, ∃ t, exec (.seqRead p (.channel c.index)) s = .next t ∧
      OnlyReplied p 0xA6 .ok (s.channelRecord c) s t) ∧
    ∃ t, exec (.seqRead p .memory) s = .next t ∧ OnlyReplied p 0xA6 .ok s.pmc.record s t

/-- The read requests of the planner, the Drive Unit, the Sensing Unit, the Alert List, the fault record and the port units are
answered with the state as it stands, and change nothing; STATE_READ and FAULT_READ in SELFTEST too (R118, R140, R155, R169,
R184, R185, R194, R200). -/
def Obligations.UnitReadsChangeNothing : Prop :=
  ∀ (p : Port) (s : State), s.LinesFollow →
    (∃ t, exec (.stateRead p) s = .next t ∧ OnlyReplied p 0xC9 .ok s.stateRecord s t) ∧
    (∃ t, exec (.faultRead p) s = .next t ∧ OnlyReplied p 0xD0 .ok s.faultRecord s t) ∧
    (s.stc.op ≠ .selftest →
      (∃ t, exec (.planRead p 0) s = .next t ∧
        OnlyReplied p 0xB0 .ok (s.spl.header ++ s.spl.planRecord s.spl.active) s t) ∧
      (∃ t, exec (.planRead p 1) s = .next t ∧ OnlyReplied p 0xB0 .ok (s.spl.header ++
        match s.spl.pending with
        | .complete q => s.spl.planRecord q
        | _ => []) s t) ∧
      (∃ t, exec (.feedbackRead p) s = .next t ∧ OnlyReplied p 0xB1 .ok s.dru.record s t) ∧
      (∃ t, exec (.senseRead p) s = .next t ∧ OnlyReplied p 0xB8 .ok s.senseRecord s t) ∧
      (∃ t, exec (.alertList p) s = .next t ∧ OnlyReplied p 0xBC .ok s.alertRecord s t) ∧
      (∃ t, exec (.eventsRead p) s = .next t ∧ OnlyReplied p 0xD8 .ok
        (encEvents (s.ports.get p).posted ++ encEvents (s.ports.get p).eventMask ++ encLevel (!s.pins.atn.get p)) s t) ∧
      ∃ t, exec (.countersRead p none) s = .next t ∧ OnlyReplied p 0xDB .ok (s.countersRecord p) s t)

/-- The timer record has 31 bytes (R203); the reply of PLAN_READ has a header of 42 bytes and a plan record of 126 (R204);
an entry of ALERT_LIST has 14 bytes (R205); a program record has 64 bytes (R206). -/
def Obligations.LayoutsHaveTheirLengths : Prop :=
  (∀ (h : Handle) (r : Timer), (timerRecord h r).length = 31) ∧
  (∀ t : Spl, t.header.length = 42) ∧ (∀ (t : Spl) (p : Plan), (t.planRecord p).length = 126) ∧
  (∀ (s : State) (e : Alert), (s.encAlert e).length = 14) ∧
  ∀ (c : SeqChan) (ts : List Machine.Step), ts.length ≤ 8 → (programRecord c ts).length = 64

/-! ## Timebase (R1 to R19) -/

/-- CLOCK_SET up to 86 399 s, from any port outside SELFTEST: the time of day, TIMEBASE_CHANGED at every port, the
seconds-to-start of every WAITING AT_TIME slot recomputed, OK; a slot whose start time it is starts with TIMER_STARTED and a STARTED
notice, which joins while fewer than 4 wait; nothing else changes. A value above is refused with BAD_VALUE; in SELFTEST the answer
is BUSY (R17, R49, R166). -/
def Obligations.ClockSetIsTaken : Prop :=
  ∀ (p : Port) (time : Nat) (s : State), s.LinesFollow →
    (s.stc.op = .selftest → ∃ t, exec (.clockSet p time) s = .next t ∧ OnlyReplied p 0x81 .busy [] s t) ∧
    (s.stc.op ≠ .selftest → 86399 < time →
      ∃ t, exec (.clockSet p time) s = .next t ∧ OnlyReplied p 0x81 .badValue [] s t) ∧
    (s.stc.op ≠ .selftest → time ≤ 86399 → ∃ t, exec (.clockSet p time) s = .next t ∧
      t = { s with tbu := { s.tbu with timeOfDay := some time }
                   tme := { s.tme with slots := s.tme.slots.map fun x =>
                     { x with timer := x.timer.map (retimed time) } }
                   alc := { s.alc with notices := (s.alc.notices ++
                     List.replicate (min (s.tme.timers.countP (startsAt time)) (4 - s.alc.notices.length)) .started) }
                   ports := t.ports
                   pins := t.pins } ∧
      PortsAfter (some p) (fun q c => c = .timebaseChanged ||
        (c = .timerStarted && s.tme.timers.any fun r => startsAt time r && s.timerAudience r q)) s t ∧
      t.Replied p 0x81 .ok [])

/-- CFG_TIMEBASE from the supervisor: the tolerance clamped to 1 to 60 in CONFIG, RUN and HOLD; the override in CONFIG alone,
and a request that carries it is refused as a whole in RUN and HOLD; OK (R19, R9). Set to AUTO, the override leaves as the detected
nominal the one in use on MAINS and UNKNOWN elsewhere, TIMEBASE_CHANGED posted where the detected nominal or the one in use changed
(R8, R9, R19). That the window not yet evaluated then detects nothing, and keeps no mark of a nominal known from its start once the
nominal is unknown, is the model's reading (log 21). -/
def Obligations.CfgTimebaseIsTaken : Prop :=
  ∀ (w : Nat) (s : State), s.LinesFollow → s.stc.op ≠ .selftest → s.stc.op ≠ .lockout →
    (∃ t, exec (.cfgTimebase .supervisor none (some w)) s = .next t ∧
      t = { s with tbu := { s.tbu with tolerance := max 1 (min 60 w) }, ports := t.ports } ∧
      PortsAfter (some .supervisor) noPosts s t ∧ t.Replied .supervisor 0xC5 .ok []) ∧
    (∀ mode ∈ [0, 1, 2], ∀ tol : Option Nat, s.stc.op ≠ .config →
      ∃ t, exec (.cfgTimebase .supervisor (some mode) tol) s = .next t ∧
        OnlyReplied .supervisor 0xC5 .refusedState [] s t) ∧
    (s.stc.op = .config → ∀ n : Nominal,
      ∃ t, exec (.cfgTimebase .supervisor (some (if n = .hz50 then 1 else 2)) (some w)) s = .next t ∧
        t = { s with tbu := { s.tbu with forced := some n, tolerance := max 1 (min 60 w) }
                     ports := t.ports
                     pins := t.pins } ∧
        PortsAfter (some .supervisor) (fun _ c => c = .timebaseChanged && s.tbu.nominal ≠ some n) s t ∧
        t.Replied .supervisor 0xC5 .ok []) ∧
    (s.stc.op = .config → ∃ t, exec (.cfgTimebase .supervisor (some 0) (some w)) s = .next t ∧
      t = { s with
        tbu := { s.tbu with
          forced := none
          detected := if s.tbu.source = .mains then s.tbu.nominal else none
          tolerance := max 1 (min 60 w)
          window := s.tbu.window.map fun v =>
            { v with detect := v.detect && s.tbu.ended.isSome, known := v.known && t.tbu.nominal.isSome }
          ended := s.tbu.ended.map fun e =>
            (e.1, { e.2 with detect := false, known := e.2.known && t.tbu.nominal.isSome }) }
        ports := t.ports
        pins := t.pins } ∧
      PortsAfter (some .supervisor) (fun _ c => c = .timebaseChanged &&
        (t.tbu.nominal ≠ s.tbu.nominal || t.tbu.detected ≠ s.tbu.detected)) s t ∧
      t.Replied .supervisor 0xC5 .ok [])

/-- What a failure of the crystal as active source leaves (R5, R10, R13 to R15): FAILED, XTAL latched, the slice restarted on
MAINS where mains is present with a known nominal and on RC otherwise, its number and both counters kept, the window
abandoned, the runs 0, TIMEBASE_CHANGED; on RC also TIMEBASE_LOST and the hold cause TIMEBASE, which takes RUN to HOLD. A window that
ended on RC and waits for its WINDOW_END stays, marked that the crystal stopped (R11; log 7). -/
def Obligations.CrystalStopEndsXtal : Prop :=
  ∀ s : State, s.tbu.source = .xtal → s.tbu.crystalRunning = true → ∃ t, exec .crystalStop s = .next t ∧
    t.tbu.crystal = .failed ∧ t.tbu.crystalRunning = false ∧ t.stc.faults.plain.xtal = true ∧
    t.tbu.source = (if s.tbu.mainsPresent && s.tbu.nominal.isSome then .mains else .rc) ∧
    t.tbu.slice = s.tbu.slice ∧ t.tbu.seconds = s.tbu.seconds ∧ t.tbu.timeOfDay = s.tbu.timeOfDay ∧
    t.tbu.window = none ∧ t.tbu.qualRun = 0 ∧ t.tbu.agreeRun = 0 ∧ t.tbu.disagreeRun = 0 ∧
    (∀ w, s.tbu.ended = some (.rc, w) → t.tbu.ended = some (.rc, { w with crystal := false })) ∧
    (∀ q, (t.ports.get q).posted.timebaseChanged = true) ∧ ControlFrame { s with tbu := t.tbu } t ∧
    (t.tbu.source = .rc → t.stc.faults.plain.timebaseLost = true ∧ t.stc.holds.timebase = true ∧
      (s.stc.op = .run → s.stc.noHold = true → t.stc.op = .hold)) ∧
    (s.stc.op ≠ .run → t = { s with tbu := t.tbu, stc := { t.stc with op := s.stc.op, enteredAt := s.stc.enteredAt }
                                    alc := t.alc, ports := t.ports, pins := t.pins })

/-- MAINS_LOST: mains is absent, the detected nominal UNKNOWN, with TIMEBASE_CHANGED where it was not; on MAINS the source becomes RC
at once with TIMEBASE_LOST and TIMEBASE, the window abandoned and the runs 0; on XTAL and RC the source stays (R4, R8, R13, R14).
CRYSTAL_START and MAINS_PRESENT set their marks. CRYSTAL_STOP on another source than XTAL sets the qualification and the agreement run
to 0 and keeps the status (R5, R11, R12). Nothing else changes but the marks of the windows not yet evaluated and of the slice; that
a window which ended before the event has its marks changed too is the model's choice (log 7). -/
def Obligations.MainsAndCrystalMarks : Prop :=
  ∀ s : State, s.LinesFollow →
    (s.tbu.mainsPresent = true → ∃ t, exec .mainsLost s = .next t ∧
      (let marked := fun v : Window => { v with mains := false, known := v.known && s.tbu.forced.isSome }
       let lost : Tbu := { s.tbu with
         mainsPresent := false
         detected := none
         window := s.tbu.window.map marked
         ended := s.tbu.ended.map fun e => (e.1, marked e.2) }
       (s.tbu.source = .mains →
         t.tbu = { lost with
           source := .rc
           window := none
           ended := lost.ended.filter fun e => e.1 = .rc
           qualRun := 0
           agreeRun := 0
           disagreeRun := 0
           sliceNominal := s.tbu.forced
           sliceCrystal := s.tbu.crystalRunning } ∧
         t.stc.faults.plain.timebaseLost = true ∧ t.stc.holds.timebase = true ∧
         (s.stc.op = .run → s.stc.noHold = true → t.stc.op = .hold) ∧ ControlFrame { s with tbu := t.tbu } t ∧
         ∀ q, (t.ports.get q).posted.timebaseChanged = true) ∧
       (s.tbu.source ≠ .mains → t = { s with tbu := lost, ports := t.ports, pins := t.pins } ∧
         PortsAfter none (fun _ c => c = .timebaseChanged && s.tbu.detected ≠ none) s t))) ∧
    (exec .crystalStart s = .next { s with tbu := { s.tbu with crystalRunning := true } }) ∧
    (exec .mainsPresent s = .next { s with tbu := { s.tbu with mainsPresent := true } }) ∧
    (s.tbu.source ≠ .xtal → s.tbu.crystalRunning = true →
      exec .crystalStop s = .next { s with tbu := { s.tbu with
        crystalRunning := false
        qualRun := 0
        agreeRun := 0
        sliceCrystal := false
        window := s.tbu.window.map fun v => { v with crystal := false }
        ended := s.tbu.ended.map fun e => (e.1, { e.2 with crystal := false }) } })

/-- SLICE_BOUNDARY: the slice counter moves on and wraps from 39 to 0. At a boundary into an even slice, and at no other, the
seconds counter and a set time of day go up by 1 (R2, R3, R16); each RUNNING slot and each AT_TIME wait counts down, what reaches
0 being marked (R52, log 5); SOUNDING timer entries rise with their age (R159; silencing at 600 s is log 10); outside SELFTEST a
scan begins, and a channel it no longer takes reads UNAVAILABLE (R144, log 36): GRL ends OVERTEMP of GR and unmarks its AT_TEMP
waits (R33, log 6), BRD the hold cause BOARD_OVERTEMP (R152), PRB every PROBE stop, with FEEDBACK (R57, R153). BUZ follows the
highest SOUNDING level and the slice, or the notice that plays (R165, R167). -/
def Obligations.SliceBoundaryCounts : Prop :=
  ∀ (x m c : Nat) (s : State), ∃ t, exec (.sliceBoundary x m c) s = .next t ∧
    t.tbu.slice.val = (s.tbu.slice.val + 1) % 40 ∧
    (t.tbu.slice.val % 2 = 0 → t.tbu.seconds = s.tbu.seconds + 1 ∧
      t.tbu.timeOfDay = s.tbu.timeOfDay.map fun n => if n = 86399 then 0 else n + 1) ∧
    (t.tbu.slice.val % 2 = 1 → t.tbu.seconds = s.tbu.seconds ∧ t.tbu.timeOfDay = s.tbu.timeOfDay) ∧
    (let lost := fun c => t.tbu.slice.val % 2 = 0 ∧ s.stc.op ≠ .selftest ∧ s.snu.lastScan.get c = true ∧ s.snu.scans c = false
     (t.tbu.slice.val % 2 = 0 → t.stc.op = s.stc.op →
       t.tme = { s.tme with slots := s.tme.slots.map fun x => { x with timer := x.timer.map fun u =>
         let v := ticked u
         { v with
           tempMark := match v.phase, v.start with
             | .waiting, .atTemp _ => if v.point = some .gr ∧ lost .grl then false else v.tempMark
             | _, _ => v.tempMark
           probe := if lost .prb then none else v.probe
           probeMark := if v.probe ≠ none ∧ lost .prb then false else v.probeMark } } }) ∧
     (∀ x, (t.ptc.reasons.get x).overtemp = if x = .gr ∧ lost .grl then false else (s.ptc.reasons.get x).overtemp) ∧
     (t.stc.holds.boardOvertemp = if lost .brd then false else s.stc.holds.boardOvertemp) ∧
     (lost .prb → ∀ u ∈ s.tme.timers, u.probe ≠ none → ∀ q, s.timerAudience u q = true →
       (t.ports.get q).posted.feedback = true)) ∧
    (t.tbu.slice.val % 2 = 0 →
      t.alc.entries.filter Alert.isTimer = (s.alc.entries.filter Alert.isTimer).map (aged t.tbu.seconds) ∧
      (s.stc.op = .selftest → t.snu = s.snu) ∧
      (s.stc.op ≠ .selftest → t.snu = { s.snu with
        scanN := some s.snu.averaging
        lastScan := .of s.snu.scans
        scanLeft := Sensor.all.filter s.snu.scans
        channels := .of fun c =>
          if s.snu.lastScan.get c && !s.snu.scans c then
            { s.snu.channels.get c with reading := .unavailable, mean := none, updatedAt := some t.tbu.seconds }
          else s.snu.channels.get c })) ∧
    (t.tbu.slice.val % 2 = 1 → t.snu = s.snu ∧ (t.stc.op = s.stc.op → t.tme = s.tme) ∧
      t.alc.entries.filter Alert.isTimer = s.alc.entries.filter Alert.isTimer) ∧
    (s.stc.op = .selftest → t.alc.buz = false ∧ t.alc.playing = s.alc.playing ∧ t.alc.notices = s.alc.notices) ∧
    (s.stc.op ≠ .selftest →
      (∀ e ∈ s.alc.entries, e.sounding = true → (∀ y ∈ s.alc.entries, y.sounding = true → y.level ≤ e.level) →
        t.alc.buz = decide (t.tbu.slice.val %
          (if e.level ≤ 1 then 16 else if e.level = 2 then 8 else if e.level = 3 then 4 else 2) = 0) ∧
        t.alc.playing = none ∧ t.alc.notices = s.alc.notices) ∧
      ((∀ e ∈ s.alc.entries, e.sounding = false) →
        (t.alc.buz = true ↔ ∃ k i, t.alc.playing = some (k, i) ∧ (i = 1 ∨ i = 3)) ∧
        (∀ k i, s.alc.playing = some (k, i) → i < 4 →
          t.alc.playing = some (k, i + 1) ∧ t.alc.notices = s.alc.notices) ∧
        ((∀ k i, s.alc.playing = some (k, i) → 4 ≤ i) →
          t.alc.playing = s.alc.notices.head?.map (fun k => (k, 1)) ∧ t.alc.notices = s.alc.notices.tail))) ∧
    t.ptc.gas = s.ptc.gas ∧ t.ptc.duty = s.ptc.duty ∧ t.ptc.panel = s.ptc.panel ∧ t.ptc.rank = s.ptc.rank ∧
    t = { s with tbu := t.tbu, ptc := t.ptc, tme := t.tme, spl := t.spl, dru := t.dru, snu := t.snu, alc := t.alc
                 stc := t.stc, ports := t.ports, pins := t.pins }

/-- On RC a boundary adds 1 to the qualification run where the crystal ran throughout the slice and its count lies from 15 074
to 17 694, and sets it to 0 otherwise; at a run of 4 the crystal is QUALIFIED, the source XTAL, TIMEBASE out of the hold
cause set (R11, R14, R15). -/
def Obligations.FourRcSlicesQualifyTheCrystal : Prop :=
  ∀ (x m c : Nat) (s : State), s.tbu.source = .rc → s.tbu.qualRun < 4 → ∃ t, exec (.sliceBoundary x m c) s = .next t ∧
    (s.tbu.sliceCrystal = true → 15074 ≤ x → x ≤ 17694 → s.tbu.qualRun = 3 →
      t.tbu.source = .xtal ∧ t.tbu.crystal = .qualified ∧ t.stc.holds.timebase = false ∧ t.tbu.qualRun = 0) ∧
    (s.tbu.sliceCrystal = true → 15074 ≤ x → x ≤ 17694 → s.tbu.qualRun < 3 →
      t.tbu.source = .rc ∧ t.tbu.qualRun = s.tbu.qualRun + 1) ∧
    (s.tbu.sliceCrystal = false ∨ x < 15074 ∨ 17694 < x → t.tbu.source = .rc ∧ t.tbu.qualRun = 0)

/-- WINDOW_END evaluates the window that the last boundary ended, under the rule of the source it ran on, with the E and W in force at
that command (log 7), and records its result with M, R and G (R18; G is 0 where C is 0, log 23). Gross check: the crystal ran
throughout and G lies from 301 466 to 353 894. Agreement: mains throughout, the nominal known from the start, |R − E| ≤ W (R7).
- On XTAL a gross failure fails the crystal and ends XTAL; else the nominal is detected where it is UNKNOWN (R8), which makes it known
  to the window begun at that boundary; a DISAGREE adds 1 to the disagreement run and latches TIMEBASE_SUSPECT from a run of 3; any
  other result sets it to 0 (R10).
- On RC the result is NOT_EVALUATED, the nominal is detected, and the source becomes MAINS where mains was present throughout, the nominal
  known from the start and the crystal has not qualified at that boundary (R11).
- On MAINS an agreeing window adds 1 to the agreement run, which qualifies the crystal at 6; any other result sets it to 0 (R12).
A window of a source other than RC that is no longer active is dropped (log 7). The model's choices are these: a window on RC is
recorded and detects where the crystal has qualified at its boundary or the source is else no longer RC (log 22), and a window in
which the override was set to AUTO detects nothing (log 21). -/
def Obligations.WindowEndOnXtal : Prop :=
  ∀ (src : Source) (w : Window) (s : State), s.tbu.ended = some (src, w) →
    ∃ t, exec .windowEnd s = .next t ∧ t.tbu.ended = none ∧ t.tbu.slice = s.tbu.slice ∧ t.tbu.seconds = s.tbu.seconds ∧
    let g := w.x * 40000000 / w.c
    let r := (2 * w.m * 327680 + w.x) / (2 * w.x)
    let passes : Prop := w.crystal = true ∧ 301466 ≤ g ∧ g ≤ 353894
    let tested : Prop := w.mains = true ∧ w.known = true
    let near := fun n : Nominal =>
      r ≤ (if n = .hz50 then 500 else 600) + s.tbu.tolerance ∧ (if n = .hz50 then 500 else 600) ≤ r + s.tbu.tolerance
    let records := fun (v : WindowResult) (off : Bool) => t.tbu.last =
      some { result := v, m := w.m, r := if w.x = 0 then none else some r, g := g, offNominal := off }
    let found : Option Nominal :=
      if s.tbu.detected = none ∧ w.mains = true ∧ w.detect = true then
        if 475 ≤ w.m ∧ w.m ≤ 525 then some .hz50 else if 570 ≤ w.m ∧ w.m ≤ 630 then some .hz60 else none
      else none
    let detects : Prop :=
      (found = none → t.tbu.detected = s.tbu.detected) ∧
      (found ≠ none → t.tbu.detected = found ∧ (∀ v, t.tbu.window = some v → v.known = true) ∧
        ∀ q, (t.ports.get q).posted.timebaseChanged = true)
    (src = .xtal → s.tbu.source = .xtal → ¬ passes →
      records .grossFail false ∧ t.tbu.source = s.tbu.fallback ∧ t.tbu.crystal = .failed ∧
        t.stc.faults.plain.xtal = true ∧ t.tbu.disagreeRun = 0 ∧ ControlFrame { s with tbu := t.tbu } t) ∧
    (src = .xtal → s.tbu.source = .xtal → passes →
      t.tbu.source = .xtal ∧ detects ∧ t = { s with tbu := t.tbu, stc := t.stc, ports := t.ports, pins := t.pins } ∧
      (¬ tested ∨ t.tbu.nominal = none → records .notEvaluated false ∧ t.tbu.disagreeRun = 0 ∧ t.stc = s.stc) ∧
      ∀ n, tested → t.tbu.nominal = some n →
        (near n → records .agree false ∧ t.tbu.disagreeRun = 0 ∧ t.stc = s.stc) ∧
        (¬ near n → records .disagree true ∧ t.tbu.disagreeRun = min 255 (s.tbu.disagreeRun + 1) ∧
          (3 ≤ t.tbu.disagreeRun → t.stc.faults.plain.timebaseSuspect = true) ∧
          ∀ q, (t.ports.get q).posted.timebaseChanged = true)) ∧
    (src = .rc → records .notEvaluated false ∧ detects ∧
      (s.tbu.source = .rc → tested → s.tbu.mainsPresent = true → t.tbu.nominal ≠ none →
        t.tbu.source = .mains ∧ t.stc = { s.stc with holds := { s.stc.holds with timebase := false } } ∧
        t = { s with tbu := t.tbu, stc := t.stc, alc := t.alc, ports := t.ports, pins := t.pins }) ∧
      (s.tbu.source ≠ .rc ∨ ¬ tested ∨ s.tbu.mainsPresent = false ∨ t.tbu.nominal = none →
        t.tbu.source = s.tbu.source ∧ t = { s with tbu := t.tbu, ports := t.ports, pins := t.pins })) ∧
    (src = .mains → s.tbu.source = .mains →
      let agrees : Prop := passes ∧ tested ∧ ∃ n, s.tbu.nominal = some n ∧ near n
      t.tbu.detected = s.tbu.detected ∧
      (¬ passes → records .grossFail false) ∧
      (passes → ¬ tested ∨ s.tbu.nominal = none → records .notEvaluated false) ∧
      (∀ n, passes → tested → s.tbu.nominal = some n → records (if near n then .agree else .disagree) false) ∧
      (agrees → 5 ≤ s.tbu.agreeRun → t.tbu.source = .xtal ∧ t.tbu.crystal = .qualified ∧ t.tbu.agreeRun = 0 ∧
        t = { s with tbu := t.tbu, stc := t.stc, alc := t.alc, ports := t.ports, pins := t.pins }) ∧
      (agrees → s.tbu.agreeRun < 5 → t.tbu.agreeRun = s.tbu.agreeRun + 1) ∧
      (¬ agrees → t.tbu.agreeRun = 0) ∧
      (¬ agrees ∨ s.tbu.agreeRun < 5 → t.tbu.source = .mains ∧ t.tbu.disagreeRun = s.tbu.disagreeRun ∧
        t = { s with tbu := t.tbu, pins := t.pins })) ∧
    (src ≠ .rc → s.tbu.source ≠ src → t = { s with tbu := { s.tbu with ended := none }, pins := t.pins })

/-! ## Points (R22 to R41) -/

/-- POINT_DEMAND on a gas point: from another role than its owning panel it is refused NOT_ASSIGNED; from that panel ON (0) and
OFF (1) are stored, OFF removes TIMER_OFF and no other reason, and no other demand, gate, timer, plan or line of the Drive Unit
changes; another value is refused BAD_VALUE (R23, R25, R26). -/
def Obligations.PointDemandOnGas : Prop :=
  ∀ (p : Port) (z : Gas) (v : Nat) (s : State), s.LinesFollow → s.stc.op ≠ .selftest →
    (p ≠ (s.ptc.panel.get z.point).port → ∃ t, exec (.pointDemand p z.point.code (.gas v)) s = .next t ∧
      OnlyReplied p 0x90 .notAssigned [] s t) ∧
    (p = (s.ptc.panel.get z.point).port → 1 < v → ∃ t, exec (.pointDemand p z.point.code (.gas v)) s = .next t ∧
      OnlyReplied p 0x90 .badValue [] s t) ∧
    (p = (s.ptc.panel.get z.point).port → v ≤ 1 → ∃ t, exec (.pointDemand p z.point.code (.gas v)) s = .next t ∧
      t = { s with
        ptc := { s.ptc with
          gas := s.ptc.gas.set z (v = 0)
          reasons := if v = 0 then s.ptc.reasons
            else s.ptc.reasons.set z.point { s.ptc.reasons.get z.point with timerOff := false } }
        ports := t.ports
        pins := t.pins } ∧
      PortsAfter (some p) (toPorts .pointChanged fun q =>
        (s.ptc.gas.get z != (v = 0) || (v = 1 && (s.ptc.reasons.get z.point).timerOff)) &&
          (q = .supervisor || q = p)) s t ∧
      t.Replied p 0x90 .ok [])

/-- POINT_DEMAND on an electric point, from its demand source (the supervisor for OV, the owning panel else) with one duty for
each of its loads: each is stored clamped to 100, every other duty stays; every load that falls from above 0 to 0 is withdrawn
at the Slice Planner and the Drive Unit; TIMER_OFF goes where all are 0; a change starts a pass whose snapshot holds it (R23,
R25, R26, R35, R109). -/
def Obligations.PointDemandOnElectric : Prop :=
  ∀ (p : Port) (x : Point) (ds : List Nat) (s : State), s.stc.op ≠ .selftest → x.electric = true →
    p = (if x = .ov then .supervisor else (s.ptc.panel.get x).port) → ds.length = x.loads.length →
    ∃ t, exec (.pointDemand p x.code (.duties ds)) s = .next t ∧ t.Replied p 0x90 .ok [] ∧
      (∀ (k : Nat) (l : Load) (d : Nat), x.loads[k]? = some l → ds[k]? = some d → t.ptc.duty.get l = min d 100) ∧
      (∀ l, l ∉ x.loads → t.ptc.duty.get l = s.ptc.duty.get l) ∧
      (∀ l, s.ptc.duty.get l ≠ 0 → t.ptc.duty.get l = 0 →
        t.spl.withdrawals.get l = true ∧ t.dru.withdrawLoads.get l = true) ∧
      (∀ l, (s.ptc.duty.get l = 0 ∨ t.ptc.duty.get l ≠ 0) → t.spl.withdrawals.get l = s.spl.withdrawals.get l ∧
        t.dru.withdrawLoads.get l = s.dru.withdrawLoads.get l) ∧
      t.ptc = { s.ptc with
        duty := t.ptc.duty
        reasons := if ds.all (fun d => d = 0) then
          s.ptc.reasons.set x { s.ptc.reasons.get x with timerOff := false } else s.ptc.reasons } ∧
      (t.ptc.duty ≠ s.ptc.duty → ∃ b, t.spl.pending = .building b ∧ ∀ l, (b.loads.get l).duty = t.ptc.duty.get l) ∧
      t = { s with ptc := t.ptc, spl := { s.spl with pending := t.spl.pending, serial := t.spl.serial,
                                                     withdrawals := t.spl.withdrawals }
                   dru := { s.dru with withdrawLoads := t.dru.withdrawLoads }, ports := t.ports, pins := t.pins }

/-- CFG_RANK, CFG_MEMORY and FAULT_MASK from the supervisor, each with values in range: taken in CONFIG, where they replace the
rank list, repeats included, the device address and library base, and the fault mask with FLT after it; REFUSED_STATE in RUN,
HOLD and LOCKOUT (R37, R87, R183). -/
def Obligations.ConfigAloneSetsThese : Prop :=
  ∀ (a b c d : EPoint) (device base mask : Nat) (s : State), s.LinesFollow → s.stc.op ≠ .selftest →
    device ≤ 127 → base % 64 = 0 → base ≤ 63488 → mask < 32768 →
    (∃ t, exec (.cfgRank .supervisor a.point.code b.point.code c.point.code d.point.code) s = .next t ∧
      (s.stc.op ≠ .config → OnlyReplied .supervisor 0xC3 .refusedState [] s t) ∧
      (s.stc.op = .config →
        t = { s with ptc := { s.ptc with rank := ⟨a, b, c, d⟩ }, ports := t.ports } ∧
        PortsAfter (some .supervisor) noPosts s t ∧ t.Replied .supervisor 0xC3 .ok [])) ∧
    (∃ t, exec (.cfgMemory .supervisor (some device) (some base)) s = .next t ∧
      (s.stc.op ≠ .config → OnlyReplied .supervisor 0xC6 .refusedState [] s t) ∧
      (s.stc.op = .config →
        t = { s with pmc := { s.pmc with device := device, base := base }, ports := t.ports } ∧
        PortsAfter (some .supervisor) noPosts s t ∧ t.Replied .supervisor 0xC6 .ok [])) ∧
    ∃ t, exec (.faultMask .supervisor mask) s = .next t ∧
      (s.stc.op ≠ .config → OnlyReplied .supervisor 0xD2 .refusedState [] s t) ∧
      (s.stc.op = .config →
        t = { s with
          stc := { s.stc with faultMask := .of fun f => mask.testBit f.index }
          ports := t.ports
          pins := t.pins } ∧
        (t.pins.flt = true ↔ ∃ f, s.stc.faults.flagged f = true ∧ mask.testBit f.index = true) ∧
        PortsAfter (some .supervisor) noPosts s t ∧ t.Replied .supervisor 0xD2 .ok (encFlags t.stc.faultMask))

/-- CFG_ASSIGN in CONFIG with one entry: the point has the panel named; where that changes it, its demand becomes zero, but for
OV, duties that fell are withdrawn, and POINT_CHANGED goes to all three ports; every other point's panel and demand stay (R35,
R36, R38). -/
def Obligations.CfgAssignMovesAPoint : Prop :=
  ∀ (x : Point) (q : Panel) (s : State), s.LinesFollow → s.stc.op = .config →
    ∃ t, exec (.cfgAssign .supervisor [{ point := x.code, role := if q = .a then 1 else 2 }]) s = .next t ∧
      t.Replied .supervisor 0xC2 .ok [] ∧ t.ptc.panel = s.ptc.panel.set x q ∧ t.ptc.reasons = s.ptc.reasons ∧
      (s.ptc.panel.get x = q → t = { s with ports := t.ports } ∧ PortsAfter (some .supervisor) noPosts s t) ∧
      (s.ptc.panel.get x ≠ q →
        PortsAfter (some .supervisor) (toAll .pointChanged) s t ∧
        (∀ z, t.ptc.gas.get z = (s.ptc.gas.get z && z.point ≠ x)) ∧
        (∀ l, t.ptc.duty.get l = if l.point = x ∧ x ≠ .ov then 0 else s.ptc.duty.get l) ∧
        (∀ l, t.spl.withdrawals.get l =
          (s.spl.withdrawals.get l || (l.point = x && x ≠ .ov && s.ptc.duty.get l ≠ 0))) ∧
        PlannerKept s t ∧ DriveKept s t ∧ t.ptc.rank = s.ptc.rank ∧ t.ptc.attribution = s.ptc.attribution ∧
        t = { s with ptc := t.ptc, spl := t.spl, dru := t.dru, ports := t.ports, pins := t.pins })

/-! ## Timers (R42 to R73) -/

/-- TIMER_CREATE from any port outside SELFTEST, in every form. The first of the checks of R48, with R50's on a leader in their
place, that fails gives its refusal, and nothing changes. Where all pass, the lowest FREE slot is taken with the next generation:
its duration clamped to 86 399, its thresholds to 30 to 300 and 30 to 99 °C, HALT on it where it has a point and the halt is in
force; started at once for IMMEDIATE and for an AT_TIME that is the time of day, else WAITING; a leader's follower field holds the
new handle; every other slot stays; a DELAY_START adds DELAY to its point, whose open gate closes with the withdrawal of its
loads; the reply is the handle and the first state (R43 to R50, R28). -/
def Obligations.TimerCreateStartsASlot : Prop :=
  ∀ (p : Port) (f : TimerFields) (s : State), s.LinesFollow → s.stc.op ≠ .selftest → s.tme.slots.length = 24 →
    (∀ e, refusedBy (checksOfCreate p f s) (some e) →
      ∃ t, exec (.timerCreate p f) s = .next t ∧ OnlyReplied p 0x92 e [] s t) ∧
    ∀ (k : Kind) (n : Nat) (g : Byte), refusedBy (checksOfCreate p f s) none → Kind.ofCode f.kind = some k →
      s.tme.slots[n]? = some { gen := g, timer := none } → (∀ m < n, s.tme.timer m ≠ none) →
      let x := Point.ofCode f.point
      let halt := x.isSome && s.tme.halt
      let start := startHeld (s.tbu.timeOfDay.getD 0) f.start
      let made : Slot := { gen := g + 1, timer := some {
        kind := k, point := x, owner := .role p, phase := if startsNow start then .started else .waiting,
        duration := min f.duration 86399, remaining := min f.duration 86399, start := start,
        probe := f.probe.map fun a => max 30 (min 99 a), follower := none, pause := { user := false, halt := halt },
        level := f.level, endCause := none, tickDue := false, tempMark := false, probeMark := false } }
      let linked := fun u : Slot => { u with timer := u.timer.map fun r =>
        { r with follower := some { slot := byteOf n, gen := g + 1 } } }
      ∃ t, exec (.timerCreate p f) s = .next t ∧
        t.Replied p 0x92 .ok [byteOf n, g + 1, if startsNow start then if halt then 3 else 2 else 1] ∧
        (∀ h a, f.start = .afterLeader h a →
          t.tme = { s.tme with slots := (s.tme.slots.set n made).modify h.slot.toNat linked }) ∧
        ((∀ h a, f.start ≠ .afterLeader h a) → t.tme = { s.tme with slots := s.tme.slots.set n made }) ∧
        (k ≠ .delayStart → t = { s with tme := t.tme, ports := t.ports, pins := t.pins } ∧
          PortsAfter (some p) noPosts s t) ∧
        (k = .delayStart → ∀ y, x = some y →
          t.ptc = { s.ptc with reasons := s.ptc.reasons.set y { s.ptc.reasons.get y with delay := true } } ∧
          (s.gateOpen y = true → ∀ l ∈ y.loads, t.spl.withdrawals.get l = true ∧ t.dru.withdrawLoads.get l = true) ∧
          PlannerKept s t ∧ DriveKept s t ∧
          t = { s with tme := t.tme, ptc := t.ptc, spl := t.spl, dru := t.dru, ports := t.ports, pins := t.pins })

/-- The handle checks of R43 on the requests that name a timer, a leader's handle in TIMER_CREATE among them (R50): a slot number
outside 0 to 23 is refused BAD_VALUE, another generation STALE_HANDLE, a FREE slot REFUSED_STATE, and nothing else changes. A
follower's creation is one that passes the checks that stand before the leader's (R48). -/
def Obligations.HandlesAreChecked : Prop :=
  ∀ (p : Port) (h : Handle) (d : Int) (s : State), s.LinesFollow → s.stc.op ≠ .selftest → s.tme.slots.length = 24 →
    ∀ e : Status,
      (24 ≤ h.slot.toNat ∧ e = .badValue ∨
       (∃ x, h.slot.toNat < 24 ∧ s.tme.slots[h.slot.toNat]? = some x ∧ x.gen ≠ h.gen ∧ e = .staleHandle) ∨
       (∃ x, h.slot.toNat < 24 ∧ s.tme.slots[h.slot.toNat]? = some x ∧ x.gen = h.gen ∧ x.timer = none ∧
         e = .refusedState)) →
      (∃ t, exec (.timerAdjust p h d) s = .next t ∧ OnlyReplied p 0x93 e [] s t) ∧
      (∃ t, exec (.timerPause p h) s = .next t ∧ OnlyReplied p 0x94 e [] s t) ∧
      (∃ t, exec (.timerResume p h) s = .next t ∧ OnlyReplied p 0x95 e [] s t) ∧
      (∃ t, exec (.timerCancel p h) s = .next t ∧ OnlyReplied p 0x96 e [] s t) ∧
      (∃ t, exec (.timerAdopt p h) s = .next t ∧ OnlyReplied p 0x97 e [] s t) ∧
      (∃ t, exec (.timerRead p h) s = .next t ∧ OnlyReplied p 0x98 e [] s t) ∧
      (∃ t, exec (.alertAck p (.timer h)) s = .next t ∧ OnlyReplied p 0xBD e [] s t) ∧
      ∀ (kind duration level : Nat) (x : Point) (threshold : Option Int), Kind.ofCode kind = some .cookEnd → duration ≠ 0 →
        1 ≤ level → level ≤ 3 → (threshold.isSome = true → x = .ov ∨ x = .gr) → x.electric = true →
        (s.stc.op = .run ∨ s.stc.op = .hold) → (p = .supervisor ∨ p = (s.ptc.panel.get x).port) →
        ∃ t, exec (.timerCreate p ⟨kind, x.code, duration, .afterLeader h threshold, none, level⟩) s = .next t ∧
          OnlyReplied p 0x92 e [] s t

/-- TIMER_ADJUST by a role that may modify the slot (R59): a started slot has its remaining time moved by the delta and clamped
to 1 to 86 399, a WAITING one its duration and remaining time; an EXPIRED MINDER or COOK_END is extended by a positive delta, started
again, its entry gone and TIMER_OFF with it for a COOK_END; a delta of 0 or less is refused BAD_VALUE there; every other slot stays
(R60, R61). The reply is the new time; R61 names none for an extended slot, where its remaining time is the model's choice (log
19). -/
def Obligations.TimerAdjustMovesTime : Prop :=
  ∀ (p : Port) (h : Handle) (d : Int) (r : Timer) (s : State), s.LinesFollow → s.stc.op ≠ .selftest →
    s.tme.lookup h = .ok r → r.modifiableBy p = true →
    let n := h.slot.toNat
    let moved := fun k : Nat => (max 1 (min 86399 ((k : Int) + max (-86399) (min 86399 d)))).toNat
    (r.phase = .started → ∃ t, exec (.timerAdjust p h d) s = .next t ∧
      t = { s with tme := s.tme.setTimer n (some { r with remaining := moved r.remaining }), ports := t.ports } ∧
      PortsAfter (some p) noPosts s t ∧ t.Replied p 0x93 .ok (enc3 (moved r.remaining))) ∧
    (r.phase = .waiting → ∃ t, exec (.timerAdjust p h d) s = .next t ∧
      t = { s with tme := s.tme.setTimer n (some { r with duration := moved r.duration, remaining := moved r.duration })
                   ports := t.ports } ∧
      PortsAfter (some p) noPosts s t ∧ t.Replied p 0x93 .ok (enc3 (moved r.duration))) ∧
    (r.phase = .expired → d ≤ 0 → ∃ t, exec (.timerAdjust p h d) s = .next t ∧ OnlyReplied p 0x93 .badValue [] s t) ∧
    (r.phase = .expired → 0 < d → r.kind = .minder → r.point = none → ∃ t, exec (.timerAdjust p h d) s = .next t ∧
      t = { s with
        tme := s.tme.setTimer n (some { r with
          phase := .started, remaining := moved 0, pause := { user := false, halt := false }, endCause := none,
          probe := if r.endCause = some .probe then none else r.probe, tickDue := false, tempMark := false
          probeMark := false })
        alc := { s.alc with entries := s.alc.entries.filter fun e => !e.forTimer h }
        ports := t.ports
        pins := t.pins } ∧
      PortsAfter (some p) (toPorts .alertChanged (s.timerAudience r)) s t ∧ t.Replied p 0x93 .ok (enc3 (moved 0))) ∧
    (∀ x, r.phase = .expired → 0 < d → r.kind = .cookEnd → r.point = some x →
      ∃ t, exec (.timerAdjust p h d) s = .next t ∧
      t.tme = s.tme.setTimer n (some { r with
        phase := .started, remaining := moved 0, pause := { user := false, halt := s.tme.halt }, endCause := none,
        probe := if r.endCause = some .probe then none else r.probe, tickDue := false, tempMark := false
        probeMark := false }) ∧
      t.alc = { s.alc with entries := s.alc.entries.filter fun e => !e.forTimer h } ∧
      t.ptc = { s.ptc with reasons := s.ptc.reasons.set x { s.ptc.reasons.get x with timerOff := false } } ∧
      (s.gateOpen x = false → t.gateOpen x = true → x.electric = true → ∃ b, t.spl.pending = .building b) ∧
      PlannerKept s t ∧ t.spl.withdrawals = s.spl.withdrawals ∧
      t = { s with tme := t.tme, ptc := t.ptc, spl := t.spl, alc := t.alc, ports := t.ports, pins := t.pins } ∧
      t.Replied p 0x93 .ok (enc3 (moved 0)))

/-- TIMER_PAUSE and TIMER_RESUME by a role that may modify a slot that is not EXPIRED set and clear USER in its pause causes and
change nothing else, but that a pause takes the slot out of a tick or an AT_TEMP reading whose mark still waits, an AT_TIME wait
excepted (R49, R52; log 5, log 6); another role is refused NOT_OWNER; an EXPIRED slot REFUSED_STATE (R59, R62). SEQ_PAUSE and
SEQ_RESUME by the supervisor do the same to the STEP slot of an ACTIVE channel and are refused REFUSED_STATE in any other state
(R84). -/
def Obligations.PausesSetUser : Prop :=
  ∀ (v : Bool) (s : State), s.LinesFollow → s.stc.op ≠ .selftest →
    let changed := fun r : Timer => { r with
      pause := { r.pause with user := v }
      tickDue := if v then r.tickDue && r.waitsTime else r.tickDue
      tempMark := if v then false else r.tempMark }
    (∀ (p : Port) (h : Handle) (r : Timer), s.tme.lookup h = .ok r →
      let code : Byte := if v then 0x94 else 0x95
      ∃ t, exec (if v then .timerPause p h else .timerResume p h) s = .next t ∧
        (r.modifiableBy p = false → OnlyReplied p code .notOwner [] s t) ∧
        (r.modifiableBy p = true → r.phase = .expired → OnlyReplied p code .refusedState [] s t) ∧
        (r.modifiableBy p = true → r.phase ≠ .expired →
          t = { s with tme := s.tme.setTimer h.slot.toNat (some (changed r))
                       ports := t.ports } ∧
          PortsAfter (some p) noPosts s t ∧ t.Replied p code .ok [])) ∧
    ∀ c : SeqChan,
      let code : Byte := if v then 0xA3 else 0xA4
      ∃ t, exec (if v then .seqPause .supervisor c.index else .seqResume .supervisor c.index) s = .next t ∧
        ((s.squ.get c).state ≠ .active → OnlyReplied .supervisor code .refusedState [] s t) ∧
        ∀ (h : Handle) (r : Timer), (s.squ.get c).state = .active → (s.squ.get c).slot = some h →
          s.tme.lookup h = .ok r →
          t = { s with tme := s.tme.setTimer h.slot.toNat (some (changed r))
                       ports := t.ports } ∧
          PortsAfter (some .supervisor) noPosts s t ∧ t.Replied .supervisor code .ok []

/-- TIMER_CANCEL by a role that may modify the slot frees it, its generation kept: an EXPIRED slot's entry leaves and TIMER_OFF
stays; a DELAY_START takes its follower and DELAY with it; a COOK_END that follows no leader changes nothing else; OK (R63). -/
def Obligations.TimerCancelFreesTheSlot : Prop :=
  ∀ (p : Port) (h : Handle) (r : Timer) (s : State), s.stc.op ≠ .selftest → s.tme.lookup h = .ok r →
    r.modifiableBy p = true → ∃ t, exec (.timerCancel p h) s = .next t ∧ t.Replied p 0x96 .ok [] ∧
      t.tme.timer h.slot.toNat = none ∧ t.tme.slots.map Slot.gen = s.tme.slots.map Slot.gen ∧
      (r.phase = .expired → t = { s with
        tme := s.tme.setTimer h.slot.toNat none
        alc := { s.alc with entries := s.alc.entries.filter fun e => !e.forTimer h }
        ports := t.ports
        pins := t.pins }) ∧
      (r.phase ≠ .expired → r.kind = .delayStart → ∀ x, r.point = some x →
        (t.ptc.reasons.get x).delay = false ∧ (∀ y, y ≠ x → t.ptc.reasons.get y = s.ptc.reasons.get y) ∧
        (∀ f, r.follower = some f → t.tme.timer f.slot.toNat = none) ∧
        (∀ m, m ≠ h.slot.toNat → (∀ f, r.follower = some f → m ≠ f.slot.toNat) → t.tme.timer m = s.tme.timer m) ∧
        PlannerKept s t ∧ DemandKept s t ∧ DriveKept s t ∧
        t = { s with tme := t.tme, ptc := t.ptc, spl := t.spl, dru := t.dru, ports := t.ports, pins := t.pins }) ∧
      (r.phase ≠ .expired → r.kind = .cookEnd → (∀ l c, r.start ≠ .afterLeader (some l) c) →
        t = { s with tme := s.tme.setTimer h.slot.toNat none, ports := t.ports, pins := t.pins })

/-- TIMER_ADOPT: a slot owned by NONE becomes the requester's where its quota allows, and is refused QUOTA where it does not; a
slot of any other owner is refused NOT_OWNER (R68). -/
def Obligations.TimerAdoptTakesAnOrphan : Prop :=
  ∀ (p : Port) (h : Handle) (r : Timer) (s : State), s.LinesFollow → s.stc.op ≠ .selftest → s.tme.lookup h = .ok r →
    ∃ t, exec (.timerAdopt p h) s = .next t ∧
      (r.owner ≠ .nobody → OnlyReplied p 0x97 .notOwner [] s t) ∧
      (r.owner = .nobody → (if p = .supervisor then 4 else 10) ≤ s.tme.held (.role p) →
        OnlyReplied p 0x97 .quota [] s t) ∧
      (r.owner = .nobody → s.tme.held (.role p) < (if p = .supervisor then 4 else 10) →
        t = { s with tme := s.tme.setTimer h.slot.toNat (some { r with owner := .role p }), ports := t.ports } ∧
        PortsAfter (some p) noPosts s t ∧ t.Replied p 0x97 .ok [])

/-- TIMER_EXPIRY of the lowest slot that the second tick brought to 0, a MINDER or a COOK_END: EXPIRED with end cause TIME, no
time and no pause cause left, one entry at the end of the Alert List at its level, TIMER_EXPIRED; a COOK_END adds TIMER_OFF to
its point, and an open gate closes with the withdrawal of its loads or permission line (R29, R34, R52 to R54, R158). R52 ends the
slot within the tick; that the tick marks it with 1 s left and TIMER_EXPIRY acts on the lowest marked slot is the model's choice
(log 5). -/
def Obligations.TimerExpiryRaisesAnEntry : Prop :=
  ∀ (n : Nat) (r : Timer) (s : State), s.tme.tickSlot = some n → s.tme.timer n = some r → r.running = true →
    r.remaining = 1 → (r.kind = .minder ∧ r.point = none ∨ r.kind = .cookEnd ∧ r.point.isSome = true) →
    s.stc.op ≠ .selftest → ∃ t, exec .timerExpiry s = .next t ∧
      t.tme = s.tme.setTimer n (some { r with
        phase := .expired
        remaining := 0
        pause := { user := false, halt := false }
        endCause := some .time
        tickDue := false
        tempMark := false
        probeMark := false }) ∧
      t.alc = { s.alc with entries := s.alc.entries ++
        [⟨.timer (s.tme.handle n), r.point, s.tbu.seconds, r.level, r.level, true⟩] } ∧
      (∀ q, s.timerAudience r q = true →
        (t.ports.get q).posted.timerExpired = true ∧ (t.ports.get q).posted.alertChanged = true) ∧
      (r.point = none → t = { s with tme := t.tme, alc := t.alc, ports := t.ports, pins := t.pins }) ∧
      ∀ x, r.point = some x →
        t.ptc = { s.ptc with reasons := s.ptc.reasons.set x { s.ptc.reasons.get x with timerOff := true } } ∧
        t.gateOpen x = false ∧
        (s.gateOpen x = true → (∀ l ∈ x.loads, t.spl.withdrawals.get l = true ∧ t.dru.withdrawLoads.get l = true) ∧
          ∀ z, x = z.point → t.dru.withdrawGas.get z = true) ∧
        PlannerKept s t ∧ DriveKept s t ∧
        t = { s with tme := t.tme, ptc := t.ptc, spl := t.spl, dru := t.dru, alc := t.alc, ports := t.ports
                     pins := t.pins }

/-- TIMER_EXPIRY of a DELAY_START: DELAY leaves its point's reasons, its slot is FREE with its generation, a STARTED notice is
queued where fewer than 4 wait, TIMER_EXPIRED is posted and no entry raised; a follower without a threshold starts, one with a
threshold becomes an AT_TEMP wait (R50, R55). R52 ends the slot within the tick; that the tick marks it with 1 s left and
TIMER_EXPIRY acts on the lowest marked slot is the model's choice (log 5). The gate is OPEN then where no other reason remains, and
a gate that opens on an electric point starts a pass (R27, R34). -/
def Obligations.DelayStartExpiryOpensTheGate : Prop :=
  ∀ (n : Nat) (r : Timer) (x : Point) (s : State), s.tme.tickSlot = some n → s.tme.timer n = some r → r.running = true →
    r.remaining = 1 → r.kind = .delayStart → r.point = some x → s.stc.op ≠ .selftest →
    ∃ t, exec .timerExpiry s = .next t ∧ t.tme.timer n = none ∧
      t.tme.slots.map Slot.gen = s.tme.slots.map Slot.gen ∧ t.tme.halt = s.tme.halt ∧
      (t.gateOpen x = true ↔ ∀ o, o ≠ .delay → (s.ptc.reasons.get x).get o = false) ∧
      (s.gateOpen x = false → t.gateOpen x = true → x.electric = true → ∃ b, t.spl.pending = .building b) ∧
      t.ptc = { s.ptc with reasons := s.ptc.reasons.set x { s.ptc.reasons.get x with delay := false } } ∧
      t.alc = { s.alc with
        notices := if s.alc.notices.length < 4 then s.alc.notices ++ [.started] else s.alc.notices } ∧
      (∀ q, s.timerAudience r q = true → (t.ports.get q).posted.timerExpired = true) ∧
      (∀ m, m ≠ n → (∀ f, r.follower = some f → m ≠ f.slot.toNat) → t.tme.timer m = s.tme.timer m) ∧
      PlannerKept s t ∧ DriveKept s t ∧
      t = { s with tme := t.tme, ptc := t.ptc, spl := t.spl, dru := t.dru, alc := t.alc, ports := t.ports
                   pins := t.pins } ∧
      ∀ (f : Handle) (u : Timer), r.follower = some f → s.tme.lookup f = .ok u → f.slot.toNat ≠ n →
        ((∀ l c, u.start ≠ .afterLeader l (some c)) →
          ∃ v, t.tme.timer f.slot.toNat = some v ∧ v.phase = .started ∧ v.remaining = u.duration ∧ v.pause = u.pause) ∧
        ∀ l c, u.start = .afterLeader l (some c) → u.phase = .waiting →
          t.tme.timer f.slot.toNat = some { u with start := .atTemp c }

/-- TIMER_START_AT_TIME starts the lowest slot that the tick brought to its start time, TIMER_START_AT_TEMP the lowest WAITING
AT_TEMP slot that the last reading reached: remaining is its duration, its pause causes stay, TIMER_STARTED is posted and a
STARTED or a READY notice queued (R45, R49, R52). PROBE_STOP ends the lowest started COOK_END on OV whose threshold the last PRB
reading reached: EXPIRED with end cause PROBE, TIMER_OFF on OV, its entry raised (R57). The rules act on every such slot within the
tick or the update; that the tick and the reading mark the slots and each command acts on the lowest marked one is the model's choice
(log 5, log 6). -/
def Obligations.WaitsAndProbesAct : Prop :=
  ∀ (n : Nat) (r : Timer) (s : State), s.tme.timer n = some r → s.stc.op ≠ .selftest →
    (s.tme.tickSlot = some n → r.waitsTime = true → ∃ t, exec .timerStartAtTime s = .next t ∧
      (∃ v, t.tme = s.tme.setTimer n (some v) ∧ v.phase = .started ∧ v.remaining = r.duration ∧ v.pause = r.pause ∧
        v.kind = r.kind ∧ v.owner = r.owner) ∧
      t.alc = { s.alc with
        notices := if s.alc.notices.length < 4 then s.alc.notices ++ [.started] else s.alc.notices } ∧
      PortsAfter none (toPorts .timerStarted (s.timerAudience r)) s t ∧
      t = { s with tme := t.tme, alc := t.alc, ports := t.ports, pins := t.pins }) ∧
    (s.tme.lowest Timer.tempDue = some n → ∃ t, exec .timerStartAtTemp s = .next t ∧
      (∃ v, t.tme = s.tme.setTimer n (some v) ∧ v.phase = .started ∧ v.remaining = r.duration ∧ v.pause = r.pause ∧
        v.kind = r.kind ∧ v.owner = r.owner) ∧
      t.alc = { s.alc with
        notices := if s.alc.notices.length < 4 then s.alc.notices ++ [.ready] else s.alc.notices } ∧
      PortsAfter none (toPorts .timerStarted (s.timerAudience r)) s t ∧
      t = { s with tme := t.tme, alc := t.alc, ports := t.ports, pins := t.pins }) ∧
    (s.tme.lowest Timer.probeDue = some n → r.point = some .ov → ∃ t, exec .probeStop s = .next t ∧
      (∃ v, t.tme = s.tme.setTimer n (some v) ∧ v.phase = .expired ∧ v.remaining = 0 ∧ v.endCause = some .probe ∧
        v.pause = { user := false, halt := false }) ∧
      (t.ptc.reasons.get .ov).timerOff = true ∧ t.gateOpen .ov = false ∧ PlannerKept s t ∧ DemandKept s t ∧
      DriveKept s t ∧
      t = { s with tme := t.tme, ptc := t.ptc, spl := t.spl, dru := t.dru, alc := t.alc, ports := t.ports
                   pins := t.pins } ∧
      t.alc.entries = s.alc.entries ++
        [⟨.timer (s.tme.handle n), some .ov, s.tbu.seconds, r.level, r.level, true⟩])

/-! ## Sequences and the program memory (R74 to R95) -/

/-- SEQ_STORE by the supervisor of one step, in a state that allows it: duration and cap clamped, READY with that step, the
source STORED, the controlling port kept or the requester, OK; LOADING is answered BUSY, ACTIVE and WAITING_ACK REFUSED_STATE
(R75, R77). -/
def Obligations.SeqStoreFillsAChannel : Prop :=
  ∀ (c : SeqChan) (f : StepField) (a : EndAction) (s : State), s.LinesFollow → s.stc.op ≠ .selftest →
    f.duration ≠ 0 → f.mask &&& c.maskBits = f.mask → EndAction.ofCode f.action = some a →
    ∃ t, exec (.seqStore .supervisor c.index [f]) s = .next t ∧
      ((s.squ.get c).state = .loading → OnlyReplied .supervisor 0xA1 .busy [] s t) ∧
      ((s.squ.get c).state = .active ∨ (s.squ.get c).state = .waitingAck →
        OnlyReplied .supervisor 0xA1 .refusedState [] s t) ∧
      ((s.squ.get c).state = .empty ∨ (s.squ.get c).state = .ready ∨ (s.squ.get c).state = .failed ∨
          (s.squ.get c).state = .done → t.Replied .supervisor 0xA1 .ok [] ∧
        t.squ = s.squ.set c
          { state := .ready
            steps := [{ duration := min f.duration 86399, mask := byteOf f.mask, cap := min f.cap 100, action := a }]
            source := some .stored, current := none, slot := none
            control := some ((s.squ.get c).control.getD .supervisor), fail := none } ∧
        t.ptc = s.ptc ∧ (∀ q, (s.seqAudience c q = true → (t.ports.get q).posted.seqChanged = true)) ∧
        t = { s with tme := t.tme, squ := t.squ, alc := t.alc, ports := t.ports, pins := t.pins } ∧
        ((s.squ.get c).slot = none → t = { s with squ := t.squ, ports := t.ports, pins := t.pins }))

/-- SEQ_LOAD by the supervisor on a channel that is neither LOADING, ACTIVE nor WAITING_ACK and has no job: the channel is
LOADING with its buffer kept, and a READ job joins the queue. LIB_WRITE of 1 to 8 allowed steps in CONFIG or RUN: a WRITE job with
the program's record joins, or BUSY where the supervisor has a job. A job starts at once where the queue was empty; both are
answered ACCEPTED (R78, R88, R89, R91). -/
def Obligations.JobsJoinTheQueue : Prop :=
  ∀ (c : SeqChan) (i : Nat) (s : State), s.LinesFollow → s.stc.op ≠ .selftest → i ≤ 31 →
    let joins := fun (j : Job) (t : State) =>
      t.pmc.jobs = s.pmc.jobs ++ [j] ∧
      (s.pmc.jobs = [] →
        (t.pmc.bus = .transfer ∨ t.pmc.bus = .waitFree) ∧ t.pmc.progress.transfer = j.firstTransfer ∧
        t.pmc.progress.attempts = 0 ∧ t.pmc.progress.bytes = [] ∧ t.pmc.progress.device = s.pmc.device ∧
        t.pmc.progress.base = s.pmc.base) ∧
      (s.pmc.jobs ≠ [] → t.pmc = { s.pmc with jobs := t.pmc.jobs } ∧ t.free = s.free)
    (s.pmc.busy (.channel c) = false → (s.squ.get c).state ≠ .loading → (s.squ.get c).state ≠ .active →
      (s.squ.get c).state ≠ .waitingAck → (s.squ.get c).slot = none →
      ∃ t, exec (.seqLoad .supervisor c.index i) s = .next t ∧ t.Replied .supervisor 0xA0 .accepted [] ∧
        t.squ = s.squ.set c { s.squ.get c with
          state := .loading
          current := none
          slot := none
          fail := none
          control := some ((s.squ.get c).control.getD .supervisor) } ∧
        joins { kind := .read .supervisor, index := i, requester := .channel c, discard := false } t ∧
        t = { s with squ := t.squ, pmc := t.pmc, ports := t.ports, free := t.free, pins := t.pins }) ∧
    ∀ (fs : List StepField) (ts : List Machine.Step), stepsOfFields c fs = some ts →
      (s.stc.op = .config ∨ s.stc.op = .run) →
      ∃ t, exec (.libWrite .supervisor i (if c = .ov then 8 else 9) fs) s = .next t ∧
        (s.pmc.busy .supervisor = true → OnlyReplied .supervisor 0xA7 .busy [] s t) ∧
        (s.pmc.busy .supervisor = false → t.Replied .supervisor 0xA7 .accepted [] ∧
          joins { kind := .write (programRecord c ts), index := i, requester := .supervisor, discard := false } t ∧
          PortsAfter (some .supervisor) noPosts s t ∧
          t = { s with pmc := t.pmc, ports := t.ports, free := t.free })

/-- SEQ_START of a READY channel in RUN or HOLD, IMMEDIATE, by the supervisor, with no COOK_END on the point and a FREE slot: a
STEP slot of the first step's duration in the lowest FREE slot, level 2, HALT on it where the halt is in force, the channel
ACTIVE at step 1 with the slot's handle, a pass started, OK with the handle (R72, R76, R80). -/
def Obligations.SeqStartRunsAProgram : Prop :=
  ∀ (c : SeqChan) (first : Machine.Step) (rest : List Machine.Step) (n : Nat) (g : Byte) (s : State),
    (s.stc.op = .run ∨ s.stc.op = .hold) → (s.squ.get c).state = .ready → (s.squ.get c).steps = first :: rest →
    s.tme.hasKind c.point .cookEnd = false → s.tme.firstFree = some n → s.tme.slots[n]? = some { gen := g, timer := none } →
    ∃ t, exec (.seqStart .supervisor c.index .immediate) s = .next t ∧
      t.Replied .supervisor 0xA2 .ok [byteOf n, g + 1] ∧
      (∃ r, t.tme = { s.tme with slots := s.tme.slots.set n { gen := g + 1, timer := some r } } ∧ r.kind = .step ∧
        r.point = some c.point ∧ r.owner = .channel c ∧ r.phase = .started ∧ r.duration = first.duration ∧
        r.remaining = first.duration ∧ r.level = 2 ∧ r.pause = { user := false, halt := s.tme.halt }) ∧
      t.squ = s.squ.set c { s.squ.get c with
        state := .active, current := some 1, slot := some { slot := byteOf n, gen := g + 1 }
        control := some ((s.squ.get c).control.getD .supervisor) } ∧
      (∃ b, t.spl = { s.spl with serial := s.spl.serial + 1, pending := .building b } ∧
        ∀ l, l.point = c.point → (b.loads.get l).restriction = if first.has l then .capped first.cap else .held) ∧
      t = { s with tme := t.tme, squ := t.squ, spl := t.spl, ports := t.ports, pins := t.pins }

/-- TIMER_EXPIRY of the STEP slot of an ACTIVE channel at step k. With a next step and NEXT: the slot runs the next step's time,
step k + 1, a STEP notice, no entry. With a next step and PAUSE_FOR_ACK: EXPIRED with an entry at the end of the Alert List at
the slot's level, WAITING_ACK. At the last step: the same entry, DONE, TIMER_OFF on the point. A pass starts in each case (R56, R81 to
R83, R158). The slot is the lowest one that the tick marked (log 5). -/
def Obligations.StepsFollowOneAnother : Prop :=
  ∀ (c : SeqChan) (k n : Nat) (r : Timer) (cur : Machine.Step) (s : State), s.tme.tickSlot = some n →
    s.tme.timer n = some r → r.running = true → r.remaining = 1 → r.kind = .step → r.owner = .channel c →
    (s.squ.get c).state = .active → (s.squ.get c).current = some (k + 1) → (s.squ.get c).steps[k]? = some cur →
    s.stc.op ≠ .selftest →
    let entry : Alert := ⟨.timer (s.tme.handle n), r.point, s.tbu.seconds, r.level, r.level, true⟩
    ∃ t, exec .timerExpiry s = .next t ∧ (∃ b, t.spl.pending = .building b) ∧
      PlannerKept s t ∧ DemandKept s t ∧ DriveKept s t ∧
      t = { s with tme := t.tme, squ := t.squ, ptc := t.ptc, spl := t.spl, dru := t.dru, alc := t.alc, ports := t.ports
                   pins := t.pins } ∧
      (∀ next, (s.squ.get c).steps[k + 1]? = some next → cur.action = .next →
        (∃ v, t.tme = s.tme.setTimer n (some v) ∧ v.phase = .started ∧ v.duration = next.duration ∧
          v.remaining = next.duration ∧ v.pause = { user := false, halt := s.tme.halt }) ∧
        t.squ = s.squ.set c { s.squ.get c with state := .active, current := some (k + 2) } ∧ t.ptc = s.ptc ∧
        t.alc = { s.alc with
          notices := if s.alc.notices.length < 4 then s.alc.notices ++ [.step] else s.alc.notices }) ∧
      (∀ next, (s.squ.get c).steps[k + 1]? = some next → cur.action = .pauseForAck →
        (∃ v, t.tme = s.tme.setTimer n (some v) ∧ v.phase = .expired ∧ v.remaining = 0) ∧
        t.squ = s.squ.set c { s.squ.get c with state := .waitingAck } ∧ t.ptc = s.ptc ∧
        t.alc = { s.alc with entries := (s.alc.entries ++ [entry]) }) ∧
      ((s.squ.get c).steps[k + 1]? = none →
        (∃ v, t.tme = s.tme.setTimer n (some v) ∧ v.phase = .expired ∧ v.remaining = 0) ∧
        t.squ = s.squ.set c { s.squ.get c with state := .done } ∧
        (t.ptc.reasons.get c.point).timerOff = true ∧
        t.alc = { s.alc with entries := (s.alc.entries ++ [entry]) })

/-- SEQ_ABORT by the supervisor is answered OK in every channel state: EMPTY and READY stay; LOADING becomes EMPTY, its queued job
gone or its job in flight marked, every other job kept; ACTIVE and WAITING_ACK free the slot and become READY with their steps and
no TIMER_OFF; DONE becomes READY; FAILED becomes READY, or EMPTY without steps. The other channel, every other slot and, outside
LOADING, the job queue stay (R85, R89). -/
def Obligations.SeqAbortEndsAProgram : Prop :=
  ∀ (c : SeqChan) (s : State), s.LinesFollow → s.stc.op ≠ .selftest →
    ∃ t, exec (.seqAbort .supervisor c.index) s = .next t ∧ t.Replied .supervisor 0xA5 .ok [] ∧ t.ptc = s.ptc ∧
      PlannerKept s t ∧ t.spl.withdrawals = s.spl.withdrawals ∧
      t = { s with tme := t.tme, squ := t.squ, pmc := { s.pmc with jobs := t.pmc.jobs }, spl := t.spl, alc := t.alc
                   ports := t.ports, pins := t.pins } ∧
      ((s.squ.get c).state = .empty ∨ (s.squ.get c).state = .ready → OnlyReplied .supervisor 0xA5 .ok [] s t) ∧
      (∀ d, d ≠ c → t.squ.get d = s.squ.get d) ∧
      ((s.squ.get c).state = .loading → t.squ = s.squ.set c Channel.reset ∧ t.tme = s.tme ∧ t.alc = s.alc ∧
        t.pmc.jobs = match s.pmc.jobs with
          | [] => []
          | j :: js => (if j.requester = .channel c then { j with discard := true } else j) ::
              js.filter fun k => k.requester ≠ .channel c) ∧
      ((s.squ.get c).state ≠ .loading → t.pmc.jobs = s.pmc.jobs) ∧
      ((s.squ.get c).state = .active ∨ (s.squ.get c).state = .waitingAck ∨ (s.squ.get c).state = .done →
        t.squ = s.squ.set c { s.squ.get c with state := .ready, current := none, slot := none, fail := none } ∧
        t.tme.slots.map Slot.gen = s.tme.slots.map Slot.gen ∧ t.tme.halt = s.tme.halt ∧
        t.alc = { s.alc with entries := t.alc.entries } ∧
        (∀ m, (∀ h, (s.squ.get c).slot = some h → m ≠ h.slot.toNat) → t.tme.timer m = s.tme.timer m) ∧
        ((s.squ.get c).slot = none → t.tme = s.tme ∧ t.alc = s.alc) ∧
        ∀ (h : Handle) (r : Timer), (s.squ.get c).slot = some h → s.tme.lookup h = .ok r →
          t.tme.timer h.slot.toNat = none ∧
          t.alc.entries = if r.phase = .expired then s.alc.entries.filter fun e => !e.forTimer h else s.alc.entries) ∧
      ((s.squ.get c).state = .failed → t.tme = s.tme ∧ t.alc = s.alc ∧
        t.squ = s.squ.set c (if (s.squ.get c).steps = [] then Channel.reset else
          { s.squ.get c with state := .ready, current := none, slot := none, fail := none }))

/-- The bus events of a job that goes on: a wait or a poll that ends starts the next transfer, a page that was written is polled,
a burst's bytes are kept and the next burst begins, an attempt without an address acknowledge that is not the third waits for its
retry; nothing else changes (R88, R90, R92). -/
def Obligations.BusEventsMoveTheJob : Prop :=
  ∀ s : State, s.LinesFollow →
    let g := s.pmc.progress
    let goes := fun (i : Instr) (b : BusState) (h : Progress) =>
      exec i s = .next { s with pmc := { s.pmc with bus := b, progress := h } }
    (s.pmc.bus = .waitFree → goes .busLinesFree .transfer g) ∧
    (s.pmc.bus = .retryWait → goes .retryWaitExpiry .transfer g) ∧
    (∀ k d, s.pmc.bus = .transfer → g.transfer = .burst k → k < 3 →
      goes (.readBurstEnd (.read d)) .transfer
        { g with transfer := .burst (k + 1), attempts := 0, bytes := g.bytes ++ d }) ∧
    (∀ k, s.pmc.bus = .transfer → g.transfer = .burst k → g.attempts < 2 →
      goes (.readBurstEnd .noAddressAck) .retryWait { g with attempts := g.attempts + 1 }) ∧
    (∀ k, s.pmc.bus = .transfer → g.transfer = .page k →
      goes (.pageWriteEnd .written) .pollWait { g with polls := 0 } ∧
      (g.attempts < 2 → goes (.pageWriteEnd .noAddressAck) .retryWait { g with attempts := g.attempts + 1 })) ∧
    ∀ k, s.pmc.bus = .pollWait → g.transfer = .page k →
      goes (.writePoll true) .transfer
        { g with transfer := if k < 3 then .page (k + 1) else .burst 0, attempts := 0, polls := 0 } ∧
      (g.polls < 19 → goes (.writePoll false) .pollWait { g with polls := g.polls + 1 })

/-- How a job in flight fails, and how a write ends: BUS_FREE_TIMEOUT and CLOCK_STRETCH_TIMEOUT with MEM_BUS, the third address
attempt and a refused data byte with MEM_NACK, the twentieth poll with MEM_TIMEOUT, a readback that differs from the record with
MEM_VERIFY, one that is equal with OK. MEMORY is latched unless the outcome is OK, the requester has its result, the job leaves
and the next one starts; a write posts MEMORY_DONE; a LOADING channel becomes FAILED with its cause and its issuer hears of it. A
record read whole that fails its validation makes the channel FAILED with BAD_RECORD, which latches MEMORY, or WRONG_POINT, which
does not; its last result is OK. A read whose channel was discarded ends OK too where its record is in: its bytes are dropped,
nothing is posted and nothing latched; one that fails latches MEMORY and posts no MEMORY_DONE and no SEQ_CHANGED (R79, R88, R90,
R92, R93; the poll's clock stretch is log 24). -/
def Obligations.JobsFailWithAnOutcome : Prop :=
  ∀ (i : Instr) (e : JobEnd) (j : Job) (js : List Job) (s : State), s.pmc.jobs = j :: js →
    (i = .busFreeTimeout ∧ e = .memBus ∧ s.pmc.bus = .waitFree ∨
     i = .clockStretchTimeout ∧ e = .memBus ∧ (s.pmc.bus = .transfer ∨ s.pmc.bus = .pollWait) ∨
     (∃ k, i = .readBurstEnd .noAddressAck ∧ e = .memNack ∧ s.pmc.bus = .transfer ∧
       s.pmc.progress.transfer = .burst k ∧ s.pmc.progress.attempts = 2) ∨
     (∃ k, (i = .pageWriteEnd .noDataAck ∨ i = .pageWriteEnd .noAddressAck ∧ s.pmc.progress.attempts = 2) ∧ e = .memNack ∧
       s.pmc.bus = .transfer ∧ s.pmc.progress.transfer = .page k) ∨
     (∃ k, i = .writePoll false ∧ e = .memTimeout ∧ s.pmc.bus = .pollWait ∧ s.pmc.progress.transfer = .page k ∧
       s.pmc.progress.polls = 19) ∨
     (∃ r d, i = .readBurstEnd (.read d) ∧ j.kind = .write r ∧ s.pmc.bus = .transfer ∧
       s.pmc.progress.transfer = .burst 3 ∧ e = if s.pmc.progress.bytes ++ d = r then .ok else .memVerify) ∨
     (∃ q c d f, i = .readBurstEnd (.read d) ∧ j.kind = .read q ∧ j.requester = .channel c ∧ j.discard = false ∧
       (s.squ.get c).state = .loading ∧ s.pmc.bus = .transfer ∧ s.pmc.progress.transfer = .burst 3 ∧
       validateRecord c (s.pmc.progress.bytes ++ d) = .error f ∧ e = .ok) ∨
     (∃ q c d, i = .readBurstEnd (.read d) ∧ j.kind = .read q ∧ j.requester = .channel c ∧ j.discard = true ∧
       s.pmc.bus = .transfer ∧ s.pmc.progress.transfer = .burst 3 ∧ e = .ok)) →
    ∃ t, exec i s = .next t ∧ (e ≠ .ok → t.stc.faults.plain.memory = true) ∧
      (∀ r, j.kind = .write r → e = .ok → t.stc = s.stc) ∧
      t.pmc.results = s.pmc.results.set j.requester (some (e, j.index)) ∧ t.pmc.jobs = js ∧
      t.pmc.device = s.pmc.device ∧ t.pmc.base = s.pmc.base ∧
      (js = [] → t.pmc.bus = .idle ∧ t.free = s.free) ∧
      (∀ n ns, js = n :: ns → (t.pmc.bus = .transfer ∨ t.pmc.bus = .waitFree) ∧
        t.pmc.progress.transfer = n.firstTransfer ∧ t.pmc.progress.attempts = 0) ∧
      (∀ r, j.kind = .write r → t.squ = s.squ ∧ (t.ports.get .supervisor).posted.memoryDone = true) ∧
      (∀ (q : Port) (c : SeqChan), j.kind = .read q → j.requester = .channel c → j.discard = false →
        (s.squ.get c).state = .loading →
        t.squ = s.squ.set c { s.squ.get c with
          state := .failed
          fail := (t.squ.get c).fail } ∧
        (e ≠ .ok → (t.squ.get c).fail = some (if e = .memNack then .memNack else .memBus)) ∧
        (∀ d f, e = .ok → i = .readBurstEnd (.read d) → validateRecord c (s.pmc.progress.bytes ++ d) = .error f →
          (t.squ.get c).fail = some f ∧
          (f = .badRecord → t.stc.faults.plain.memory = true) ∧ (f ≠ .badRecord → t.stc = s.stc)) ∧
        (t.ports.get q).posted.memoryDone = true ∧ (t.ports.get .supervisor).posted.seqChanged = true) ∧
      (∀ (q : Port) (c : SeqChan), j.kind = .read q → j.requester = .channel c → j.discard = true → t.squ = s.squ ∧
        (e = .ok → t.stc = s.stc ∧ t.alc = s.alc ∧ t.ports = s.ports) ∧
        ∀ p, (t.ports.get p).posted.memoryDone = (s.ports.get p).posted.memoryDone ∧
          (t.ports.get p).posted.seqChanged = (s.ports.get p).posted.seqChanged) ∧
      t = { s with stc := { s.stc with faults := t.stc.faults, firstFault := t.stc.firstFault }
                   squ := t.squ, pmc := t.pmc, alc := t.alc, ports := t.ports, free := t.free, pins := t.pins }

/-- A program written as a record of R206 is read back as the same steps: validation of the record gives them (R79), and the fourth
burst of a channel's READ job whose bytes make that record fills the channel with them, READY, its source the library index (R79,
R90, R93). -/
def Obligations.ProgramsReadBack : Prop :=
  ∀ (c : SeqChan) (ts : List Machine.Step), 1 ≤ ts.length → ts.length ≤ 8 →
    (∀ t ∈ ts, 1 ≤ t.duration ∧ t.duration ≤ 86399 ∧ t.mask.toNat &&& c.maskBits = t.mask.toNat ∧ t.cap ≤ 100) →
    validateRecord c (programRecord c ts) = .ok ts ∧
    ∀ (i : Nat) (q : Port) (js : List Job) (d : List Byte) (s : State),
      s.pmc.jobs = { kind := .read q, index := i, requester := .channel c, discard := false } :: js →
      s.pmc.bus = .transfer → s.pmc.progress.transfer = .burst 3 → s.pmc.progress.bytes ++ d = programRecord c ts →
      (s.squ.get c).state = .loading →
      ∃ t, exec (.readBurstEnd (.read d)) s = .next t ∧
        t.squ = s.squ.set c { s.squ.get c with
          state := .ready
          steps := ts
          source := some (.library i)
          current := none
          slot := none
          fail := none } ∧
        t.pmc.results = s.pmc.results.set (.channel c) (some (.ok, i)) ∧ t.pmc.jobs = js ∧
        (t.ports.get q).posted.memoryDone = true ∧ (t.ports.get .supervisor).posted.seqChanged = true ∧
        t = { s with squ := t.squ, pmc := t.pmc, ports := t.ports, free := t.free, pins := t.pins }

/-! ## The slice planner (R96 to R120) -/

/-- PASS_COMPLETE makes the pending plan from the snapshot of the pass, and nothing else changes (R110). Whatever the snapshot, the
loads that the plan has run in a slice draw no more than its budget; every run is 40 slices or 2 to 38, never more than is
requested; shortfall is a grant below the request; a closed gate, a duty of 0 or a part not in RUN gives no run (R100, R104, R106,
R107). Each entry holds the d of its effective duty, the r that carry and normalisation make of it, and its preferred offset (R100 to
R102, R105). Under a rank list without repeats a load has the longest allowed run up to its request that fits beside the loads placed
before it, at the first offset from the preferred one on at which it fits (R104, R106). -/
def Obligations.PlansKeepToTheBudget : Prop :=
  ∀ (b : Snapshot) (s : State), s.LinesFollow → s.spl.pending = .building b →
    ∃ p : Plan, exec .passComplete s = .next { s with spl := { s.spl with pending := .complete p } } ∧
      p.serial = b.serial ∧ p.budget = b.budget ∧
      (∀ n < 40, p.total (fun l => (b.loads.get l).record.power) n ≤ b.budget) ∧
      ∀ l, let e := p.entries.get l
        (e.g = 0 ∨ e.g = 40 ∨ 2 ≤ e.g ∧ e.g ≤ 38) ∧ e.g ≤ e.r ∧ (e.s = none ↔ e.g = 0) ∧ (∀ x, e.s = some x → x < 40) ∧
        (e.shortfall = true ↔ e.g < e.r) ∧
        (b.running = false ∨ (b.loads.get l).gateOpen = false ∨ (b.loads.get l).duty = 0 → e.g = 0) ∧
        let i := b.loads.get l
        let pct := if b.running = true ∧ i.gateOpen = true ∧ i.record.power ≠ 0 then
            match i.restriction with
            | .free => i.duty
            | .capped c => min i.duty c
            | .held => 0
          else 0
        let owed := if i.record.carry = true ∧ 0 < e.d then min 40 (e.d + i.arrears) else e.d
        e.d = (pct * 40 + 50) / 100 ∧ e.r = (if owed = 1 then 2 else if owed = 39 then 40 else owed) ∧
        e.pinned = i.record.pin.isSome ∧
        e.p = (match i.record.pin with
          | some o => o
          | none => if 0 < i.grant then i.start.getD 0 else 0) ∧
        (b.rank.toList.Nodup →
          let before := (b.rank.toList.flatMap fun y => y.point.loads).takeWhile fun k => k ≠ l
          let placed := fun n => (before.map fun k => if (p.entries.get k).covers n then (b.loads.get k).record.power else 0).sum
          let fits := fun o len : Nat => ∀ n < 40, (n + 40 - o) % 40 < len → placed n + i.record.power ≤ b.budget
          (∀ o, e.s = some o → fits o e.g ∧
            ∃ k < 40, o = (e.p + k) % 40 ∧ ∀ j < k, ¬ fits ((e.p + j) % 40) e.g) ∧
          ∀ len, e.g < len → len ≤ e.r → (len = 40 ∨ 2 ≤ len ∧ len ≤ 38) → ∀ o < 40, ¬ fits o len)

/-- CFG_BUDGET is rounded down to 10 W and clamped to 1000 to 7400 W, CFG_LOADS with one entry of power, carry and pin replaces that
load's record and ends its arrears at carry OFF; either starts a pass with the next serial, whose snapshot holds the new values.
BUSY while a drive test runs in CONFIG; REFUSED_STATE for CFG_BUDGET in LOCKOUT, for CFG_LOADS outside CONFIG (R97, R98, R103,
R109). -/
def Obligations.LoadsAndBudgetAreStored : Prop :=
  ∀ s : State, s.LinesFollow → s.stc.op ≠ .selftest →
    (∀ w : Nat, ∃ t, exec (.cfgBudget .supervisor w) s = .next t ∧
      (s.stc.op = .lockout → OnlyReplied .supervisor 0xC1 .refusedState [] s t) ∧
      (s.stc.op = .config → s.dru.test.status = .running → OnlyReplied .supervisor 0xC1 .busy [] s t) ∧
      (s.stc.op = .run ∨ s.stc.op = .hold ∨ s.stc.op = .config ∧ s.dru.test.status ≠ .running →
        (∃ b : Snapshot, b.serial = s.spl.serial + 1 ∧ b.budget = max 1000 (min 7400 (w / 10 * 10)) ∧
          t = { s with spl := { s.spl with budget := b.budget, serial := b.serial, pending := .building b }
                       ports := t.ports }) ∧
        PortsAfter (some .supervisor) noPosts s t ∧ t.Replied .supervisor 0xC1 .ok (enc2 t.spl.budget))) ∧
    ∀ (l : Load) (w o : Nat) (on : Bool), (w = 0 ∨ w % 10 = 0 ∧ 10 ≤ w ∧ w ≤ 3000) → o < 40 →
      ∃ t, exec (.cfgLoads .supervisor [⟨l.index, some w, some (if on then 0 else 1), some o⟩]) s = .next t ∧
        (s.stc.op ≠ .config → OnlyReplied .supervisor 0xC0 .refusedState [] s t) ∧
        (s.stc.op = .config → s.dru.test.status = .running → OnlyReplied .supervisor 0xC0 .busy [] s t) ∧
        (s.stc.op = .config → s.dru.test.status ≠ .running →
          (∃ b : Snapshot, b.serial = s.spl.serial + 1 ∧ (b.loads.get l).record = ⟨w, on, some o⟩ ∧
            t = { s with
              spl := { s.spl with
                loads := s.spl.loads.set l ⟨w, on, some o⟩
                arrears := if on then s.spl.arrears else s.spl.arrears.set l 0
                serial := b.serial
                pending := .building b }
              ports := t.ports }) ∧
          PortsAfter (some .supervisor) noPosts s t ∧ t.Replied .supervisor 0xC0 .ok [])

/-- SLICE_BOUNDARY at the planner and the lines. At the boundary into slice 0 a COMPLETE plan becomes active, else the active plan
is repeated, counted up to 255 where a pass is in flight; the entries of closed gates, zero duties and withdrawn loads are
emptied, the arrears follow, and a pass starts. At any other boundary the withdrawn loads alone are emptied, their arrears 0.
Every withdrawal waiting leaves both sets at each boundary; one that the checks of the same boundary bring waits for the next
(R132). SHORTFALL goes to the demand source of each load whose entry newly falls short (R114). An enable line is then high exactly
in RUN, its gate open, no withdrawal waiting, its run covering the slice, or in the load's bar of a running drive test, whose bars
follow one another from the first boundary on (a bar whatever the withdrawal set is log 34, what is left of the bars at their end
log 9); a permission line in RUN, its gate open, no withdrawal waiting (R103, R111 to R115, R121 to R123, R136); a valve grace
counts the boundaries since its line fell (R126, log 8). At the boundary into slice 0 the verifier judges the load verified, where
every slice of the period could be used, and takes the next load, a new period usable but for a test with a bar left (R132, R136;
log 31); where every slice was sampled each fitted load is examined, and one found stuck latches STUCK_ON, lowers EMS and takes
the part to LOCKOUT (R134, R178). That the lines are set before these checks is the model's choice (log 11). -/
def Obligations.BoundariesTurnPlansAndSetLines : Prop :=
  ∀ (x m c : Nat) (s : State), ∃ t, exec (.sliceBoundary x m c) s = .next t ∧
    (t.tbu.slice ≠ 0 → t.spl.active = { s.spl.active with
        entries := .of fun l =>
          if s.spl.withdrawals.get l then (s.spl.active.entries.get l).emptied else s.spl.active.entries.get l } ∧
      t.spl.repeats = s.spl.repeats ∧
      ∀ l, t.spl.arrears.get l = if s.spl.withdrawals.get l then 0 else s.spl.arrears.get l) ∧
    (∀ x, let closes := s.gateOpen x && !t.gateOpen x
      (∀ l ∈ x.loads, t.spl.withdrawals.get l = closes ∧ t.dru.withdrawLoads.get l = closes) ∧
      ∀ z, z.point = x → t.dru.withdrawGas.get z = closes) ∧
    (t.tbu.slice = 0 → (∃ b, t.spl.pending = .building b) ∧
      ∀ p : Plan, p = (match s.spl.pending with
          | .complete q => q
          | _ => s.spl.active) →
        t.spl.active = { p with
          entries := .of fun l =>
            if s.gateOpen l.point = false ∨ s.ptc.duty.get l = 0 ∨ s.spl.withdrawals.get l = true then
              (p.entries.get l).emptied else p.entries.get l } ∧
        t.spl.repeats = (match s.spl.pending with
          | .building _ => min 255 (s.spl.repeats + 1)
          | _ => s.spl.repeats) ∧
        ∀ l, t.spl.arrears.get l = if (s.spl.loads.get l).carry then
            min 40 ((if s.spl.withdrawals.get l then 0 else s.spl.arrears.get l) +
              (t.spl.active.entries.get l).d - (t.spl.active.entries.get l).g) else 0) ∧
    (∀ q, (t.ports.get q).posted.shortfall = true ↔ (s.ports.get q).posted.shortfall = true ∨
      t.tbu.slice = 0 ∧ ∃ l, (s.spl.active.entries.get l).shortfall = false ∧
        (t.spl.active.entries.get l).shortfall = true ∧
        q = if l.point = .ov then .supervisor else (s.ptc.panel.get l.point).port) ∧
    (let u := s.dru.test
     let v := t.dru.test
     let bar := fun l => u.status = .running ∧ ∃ b, v.left.head? = some b ∧ b.load = l
     v = { u with status := v.status, begun := v.begun, left := v.left } ∧
     (u.status ≠ .running → v = u) ∧
     (u.status = .running → v.begun = true ∧
       v.left = (if u.begun then
         match u.left with
         | [] => []
         | b :: rest => if b.slices ≤ 1 then rest else { b with slices := b.slices - 1 } :: rest
         else u.left)) ∧
     ∀ l, (t.dru.en.get l = true ↔ bar l ∨
      s.stc.op = .run ∧ s.gateOpen l.point = true ∧ s.dru.withdrawLoads.get l = false ∧
        (t.spl.active.entries.get l).covers t.tbu.slice.val = true)) ∧
    (∀ z, (t.dru.gp.get z = true ↔ s.stc.op = .run ∧ s.gateOpen z.point = true ∧ s.dru.withdrawGas.get z = false)) ∧
    (∀ z, let counts := s.stc.op ≠ .selftest ∧ s.dru.graceBegun = true
      t.dru.grace.get z =
        (if t.dru.gp.get z then .none else if s.dru.gp.get z then .counting 0 else
          match s.dru.grace.get z with
          | .counting n => if counts ∧ n < 5 then .counting (n + 1) else .counting n
          | g => g) ∧
      (t.dru.graceDue.get z = true ↔ t.dru.gp.get z = false ∧ s.dru.gp.get z = false ∧
        (s.dru.graceDue.get z = true ∨ counts ∧ s.dru.grace.get z = .counting 5))) ∧
    (t.tbu.slice ≠ 0 → t.stc.faults = s.stc.faults ∧ t.stc.op = s.stc.op ∧ t.dru.standing = s.dru.standing ∧
      t.dru.findings = s.dru.findings ∧ t.dru.counts = s.dru.counts ∧
      t.dru.verifier = { s.dru.verifier with usable := s.dru.verifier.usable && s.dru.sampled } ∧
      t.dru.allSampled = (s.dru.allSampled && s.dru.sampled)) ∧
    (t.tbu.slice = 0 →
      let count := s.dru.counts.verify
      let judged := fun l => s.dru.verifier.verified = some l ∧ s.dru.verifier.usable = true ∧ s.dru.sampled = true
      let found := fun l => (s.spl.loads.get l).power ≠ 0 ∧ s.dru.counts.driven.get l = 0 ∧ 20 ≤ s.dru.counts.closedLow.get l ∧
        s.dru.allSampled = true ∧ s.dru.sampled = true
      (∀ l, judged l → t.dru.verifier.last = some { load := l, count := count, pass := count ≤ s.dru.verifier.tolerance } ∧
        t.dru.standing.get l = if s.dru.verifier.tolerance < count then .fail else .pass) ∧
      (∀ l, ¬ judged l → t.dru.standing.get l = s.dru.standing.get l) ∧
      (∀ l, t.stc.faults.drive.get l =
        (s.stc.faults.drive.get l || decide (judged l ∧ s.dru.verifier.tolerance < count))) ∧
      t.dru.verifier.verified = (match s.dru.verifier.mode with
        | .off => none
        | .fixed l => if (s.spl.loads.get l).power ≠ 0 then some l else none
        | .auto => (loadsAfter s.dru.verifier.position).find? fun l => (s.spl.loads.get l).power ≠ 0) ∧
      t.dru.verifier.position = (if s.dru.verifier.mode = .auto then
        t.dru.verifier.verified.or s.dru.verifier.position else s.dru.verifier.position) ∧
      (t.dru.verifier.usable = true ↔ s.dru.test.status = .running → t.dru.test.left = []) ∧ t.dru.counts.verify = 0 ∧
      (∀ l, t.dru.counts.driven.get l = 0 ∧ t.dru.counts.closedLow.get l = 0) ∧ t.dru.allSampled = true ∧
      (∀ l, (s.spl.loads.get l).power ≠ 0 → s.dru.allSampled = true → s.dru.sampled = true →
        t.dru.findings.get l = decide (found l)) ∧
      (∀ l, (s.spl.loads.get l).power = 0 ∨ s.dru.allSampled = false ∨ s.dru.sampled = false →
        t.dru.findings.get l = s.dru.findings.get l) ∧
      (∀ l, t.stc.faults.stuckOn.get l = (s.stc.faults.stuckOn.get l || decide (found l))) ∧
      ((∃ l, found l ∧ s.stc.faults.stuckOn.get l = false) →
        t.dru.ems = false ∧ (s.stc.op ≠ .selftest → t.stc.op = .lockout)) ∧
      ((∀ l, found l → s.stc.faults.stuckOn.get l = true) → t.stc.op = s.stc.op ∧ t.dru.ems = s.dru.ems))

/-! ## Drive and feedback (R121 to R142) -/

/-- SLICE_MIDDLE_SAMPLE outside SELFTEST is recorded with the lines it was taken under and counted once for its slice, for the
stuck-on check, for the load verified and, while a bar is in progress, for each load of the drive test (R125, R132, R134, R136);
the RELAY group stands at MISMATCH exactly where a masked contact differs from its line, the VALVE group exactly where a masked
valve differs from its expected value, and an entry to MISMATCH records the lowest such line and posts FEEDBACK (R126, R127); an
open valve whose grace is OVER latches VALVE, and the first one of a gas point lowers GMS and takes the part to LOCKOUT (R128,
R178); the sixth unexpected-open sample in a row latches VALVE_UNEXPECTED and leaves the run 0 for the rest of its slice, and a
sample without the condition sets the run to 0 (R125, R129; log 25); burner-out is a closed valve under demand (R130).
VALVE_GRACE_OVER makes the graces that are due OVER and changes nothing else (R126, log 8). -/
def Obligations.SamplesAreJudged : Prop :=
  ∀ (closed : PerLoad Bool) (opened : PerGas Bool) (s : State),
    (s.stc.op ≠ .selftest → ∃ t, exec (.sliceMiddleSample closed opened) s = .next t ∧
      t.dru.lastSample =
        some { slice := s.tbu.slice, closed := closed, opened := opened, en := s.dru.en, gp := s.dru.gp } ∧
      t.dru.sampled = true ∧ t.dru.en = s.dru.en ∧ t.dru.gp = s.dru.gp ∧ t.dru.atSlice = s.dru.atSlice ∧
      (∀ l, t.dru.counts.driven.get l = s.dru.atSlice.driven.get l + (s.dru.en.get l).toNat ∧
        t.dru.counts.closedLow.get l = s.dru.atSlice.closedLow.get l + (!s.dru.en.get l && closed.get l).toNat) ∧
      t.dru.counts.verify = s.dru.atSlice.verify + (match s.dru.verifier.verified with
        | some l => if closed.get l = s.dru.en.get l then 0 else 1
        | none => 0) ∧
      (∀ l, t.dru.counts.test.get l =
        if s.dru.test.status = .running ∧ s.dru.test.begun = true ∧ s.dru.test.left ≠ [] then
          s.dru.atSlice.test.get l + (if s.dru.test.mask.get l = true ∧ closed.get l ≠ s.dru.en.get l then 1 else 0)
        else s.dru.counts.test.get l) ∧
      (t.dru.relay.mismatch = true ↔ ∃ l, s.dru.relay.mask.get l = true ∧ closed.get l ≠ s.dru.en.get l) ∧
      (s.dru.relay.mismatch = false → t.dru.relay.mismatch = true →
        (t.ports.get .supervisor).posted.feedback = true) ∧
      t.dru.relay.mask = s.dru.relay.mask ∧ t.dru.valve.mask = s.dru.valve.mask ∧
      t.dru.relay.recorded = (if s.dru.relay.mismatch then s.dru.relay.recorded else
        (Load.all.find? fun l => s.dru.relay.mask.get l && closed.get l != s.dru.en.get l).or s.dru.relay.recorded) ∧
      (let off := fun z => s.dru.valve.mask.get z = true ∧
         if s.dru.gp.get z then opened.get z ≠ s.ptc.gas.get z else s.dru.grace.get z = .over ∧ opened.get z = true
       (t.dru.valve.mismatch = true ↔ ∃ z, off z) ∧
       t.dru.valve.recorded = (if s.dru.valve.mismatch then s.dru.valve.recorded else
         (Gas.all.find? fun z => decide (off z)).or s.dru.valve.recorded) ∧
       (s.dru.valve.mismatch = false → ∀ z, off z → (∀ y, y.index < z.index → ¬ off y) →
         ∀ q, q = .supervisor ∨ q = (s.ptc.panel.get z.point).port → (t.ports.get q).posted.feedback = true)) ∧
      (∀ z, t.stc.faults.valve.get z =
        (s.stc.faults.valve.get z || (s.dru.grace.get z = .over && opened.get z))) ∧
      (t.stc.faults.valve ≠ s.stc.faults.valve → t.stc.op = .lockout ∧ t.dru.gms = false) ∧
      (t.stc.faults.valve = s.stc.faults.valve →
        t.stc.op = s.stc.op ∧ t.dru.gms = s.dru.gms ∧ t.dru.ems = s.dru.ems) ∧
      (∀ z, s.dru.runSpent.get z = true →
        t.dru.counts.openRun.get z = 0 ∧ t.stc.faults.valveUnexpected.get z = s.stc.faults.valveUnexpected.get z) ∧
      (∀ z, s.dru.gp.get z = false ∨ s.ptc.gas.get z = true ∨ opened.get z = false →
        t.dru.counts.openRun.get z = 0 ∧ t.stc.faults.valveUnexpected.get z = s.stc.faults.valveUnexpected.get z) ∧
      (∀ z, s.dru.runSpent.get z = false → s.stc.faults.valveUnexpected.get z = true → s.dru.gp.get z = true →
        s.ptc.gas.get z = false → opened.get z = true →
        t.dru.counts.openRun.get z = min 6 (s.dru.atSlice.openRun.get z + 1)) ∧
      (∀ z, s.dru.runSpent.get z = false → s.stc.faults.valveUnexpected.get z = false → s.dru.gp.get z = true →
        s.ptc.gas.get z = false → opened.get z = true →
        if s.dru.atSlice.openRun.get z < 5 then
          t.dru.counts.openRun.get z = s.dru.atSlice.openRun.get z + 1 ∧ t.stc.faults.valveUnexpected.get z = false
        else
          t.dru.counts.openRun.get z = 0 ∧ t.stc.faults.valveUnexpected.get z = true ∧
            (s.GatesFollow → (t.ptc.reasons.get z.point).fault = true)) ∧
      (∀ z, t.dru.burnerOut.get z = (s.dru.gp.get z && s.ptc.gas.get z && !opened.get z)) ∧
      PlannerKept s t ∧ DemandKept s t ∧ t.dru.grace = s.dru.grace ∧ t.dru.verifier = s.dru.verifier ∧
      t.dru.standing = s.dru.standing ∧ t.dru.findings = s.dru.findings ∧
      t = { s with ptc := t.ptc, tme := t.tme, spl := t.spl, dru := t.dru, alc := t.alc, stc := t.stc, ports := t.ports
                   pins := t.pins }) ∧
    (s.LinesFollow → exec .valveGraceOver s = .next { s with
      dru := { s.dru with
        grace := .of fun z => if s.dru.graceDue.get z then .over else s.dru.grace.get z
        graceDue := .of fun _ => false } })

/-- DRIVE_TEST of one fitted load within the budget, in CONFIG with no test running: one bar of the length clamped to 10 to 400
slices, RUNNING, EMS high, ACCEPTED; BUSY while one runs, REFUSED_STATE outside CONFIG (R124, R135). DRIVE_TEST_ABORT ends it
ABORTED with its counts, EMS low (R138, R139). DRIVE_TEST_COMPLETE after its last bar: COMPLETE, EMS low, each tested load PASS at
a count up to the tolerance and FAIL above it with DRIVE latched, STATE_CHANGED (R137). R137 completes the test at the boundary
that ends its last bar; that it stays RUNNING until DRIVE_TEST_COMPLETE, answered BUSY or ABORTED till then, is the model's choice
(log 9). -/
def Obligations.DriveTestsRun : Prop :=
  ∀ s : State,
    (∀ (l : Load) (n : Nat), s.LinesFollow → s.stc.op ≠ .selftest →
      (s.spl.loads.get l).power ≠ 0 → (s.spl.loads.get l).power ≤ s.spl.budget →
      ∃ t, exec (.driveTest .supervisor (2 ^ l.index) n) s = .next t ∧
        (s.stc.op ≠ .config → OnlyReplied .supervisor 0xB3 .refusedState [] s t) ∧
        (s.stc.op = .config → s.dru.test.status = .running → OnlyReplied .supervisor 0xB3 .busy [] s t) ∧
        (s.stc.op = .config → s.dru.test.status ≠ .running →
          t.dru.test = { status := .running, mask := .of fun x => x = l, length := max 10 (min 400 n)
                         bars := [⟨l, max 10 (min 400 n)⟩], begun := false, left := [⟨l, max 10 (min 400 n)⟩]
                         outcome := .of fun _ => .none } ∧
          t.dru.ems = true ∧ t.dru.gms = false ∧ (∀ x, t.dru.counts.test.get x = 0) ∧
          t = { s with dru := t.dru, ports := t.ports } ∧ PortsAfter (some .supervisor) noPosts s t ∧
          t.Replied .supervisor 0xB3 .accepted [])) ∧
    (s.stc.op = .config → s.dru.test.status = .running →
      (∃ t, exec (.driveTestAbort .supervisor) s = .next t ∧
        t = { s with
          dru := { s.dru with test := { s.dru.test with status := .aborted }, gms := false, ems := false }
          ports := t.ports
          pins := t.pins } ∧
        PortsAfter (some .supervisor) (toAll .stateChanged) s t ∧ t.Replied .supervisor 0xB4 .ok []) ∧
      (s.dru.test.begun = true → s.dru.test.left = [] → ∃ t, exec .driveTestComplete s = .next t ∧
        t.dru.test = { s.dru.test with
          status := .complete
          outcome := .of fun l =>
            if s.dru.test.mask.get l then
              if s.dru.verifier.tolerance < s.dru.counts.test.get l then .fail else .pass else .none } ∧
        t.dru.gms = false ∧ t.dru.ems = false ∧ t.stc.op = .config ∧
        (∀ l, t.dru.standing.get l = if s.dru.test.mask.get l then
          if s.dru.verifier.tolerance < s.dru.counts.test.get l then .fail else .pass else s.dru.standing.get l) ∧
        (∀ l, t.stc.faults.drive.get l = (s.stc.faults.drive.get l ||
          (s.dru.test.mask.get l && s.dru.verifier.tolerance < s.dru.counts.test.get l))) ∧
        PlannerKept s t ∧ DemandKept s t ∧ t.dru.en = s.dru.en ∧ t.dru.counts = s.dru.counts ∧
        t.dru.verifier = s.dru.verifier ∧
        t = { s with ptc := t.ptc, spl := t.spl, dru := t.dru, alc := t.alc, stc := t.stc, ports := t.ports
                     pins := t.pins } ∧
        ∀ q, (t.ports.get q).posted.stateChanged = true))

/-! ## Sensing (R143 to R156) -/

/-- CONVERSION_END of the channel next in the scan: the mean rounded down; OPEN from 1016, SHORT up to 7, else the calibrated and
clamped temperature; the stamp (R143, R146). Then its rules: a CAV or GRL temperature at the limit adds OVERTEMP and latches its
flag, 20 °C below removes OVERTEMP; OPEN and SHORT latch SENSOR and close their point, or latch PROBE for a PRB SHORT; a PRB
without a temperature ends every PROBE stop, with FEEDBACK; a BRD at 105 °C latches BOARD_OVERTEMP and holds the part, one OPEN or
SHORT holds it, one at 95 °C or below ends that cause, one between changes nothing (R33, R57, R148 to R150, R152, R153). A CAV or
GRL temperature reaches each WAITING AT_TEMP slot of its point that has no pause cause and whose threshold it is not below, a PRB
temperature each started slot with a PROBE stop likewise (R49, R57); that the reading marks these slots, for TIMER_START_AT_TEMP
and PROBE_STOP to act on, is the model's choice (log 6). -/
def Obligations.ConversionsGiveReadings : Prop :=
  ∀ (c : Sensor) (rest : List Sensor) (samples : List (BitVec 10)) (s : State), s.snu.scanLeft = c :: rest →
    s.snu.scanN = some samples.length →
    let m := (samples.map BitVec.toNat).sum / samples.length
    let ch := s.snu.channels.get c
    let deg : Int := max (-40) (min 600 ((((m * 5 / 8 : Nat) : Int) - 40) * ch.gain / 64 + ch.offset))
    let r : Reading := if 1016 ≤ m then .open else if m ≤ 7 then .short else .temp deg
    ∃ t, exec (.conversionEnd samples) s = .next t ∧
      t.snu = { s.snu with
        scanLeft := rest
        channels := s.snu.channels.set c { ch with reading := r, mean := some m, updatedAt := some s.tbu.seconds } } ∧
      PlannerKept s t ∧ DemandKept s t ∧ DriveKept s t ∧
      t = { s with snu := t.snu, ptc := t.ptc, tme := t.tme, spl := t.spl, dru := t.dru, alc := t.alc, stc := t.stc
                   ports := t.ports, pins := t.pins } ∧
      (∀ (x : Point) (limit : Int) (f : PlainFlag),
        (c = .cav ∧ x = .ov ∧ limit = s.snu.cavLimit ∧ f = .cavOvertemp ∨
         c = .grl ∧ x = .gr ∧ limit = s.snu.grlLimit ∧ f = .grlOvertemp) → r = .temp deg →
        (limit ≤ deg → (t.ptc.reasons.get x).overtemp = true ∧ t.stc.faults.plain.get f = true) ∧
        (deg ≤ limit - 20 → (t.ptc.reasons.get x).overtemp = false ∧ t.stc.faults = s.stc.faults) ∧
        (limit - 20 < deg → deg < limit → t.ptc = s.ptc ∧ t.stc.faults = s.stc.faults)) ∧
      (∀ x : Point, (c = .cav ∧ x = .ov ∨ c = .grl ∧ x = .gr) →
        (r = .open ∨ r = .short → s.GatesFollow → (t.ptc.reasons.get x).fault = true ∧
          (t.ptc.reasons.get x).overtemp = (s.ptc.reasons.get x).overtemp) ∧
        t.tme = { s.tme with slots := s.tme.slots.map fun y => { y with timer := y.timer.map fun u =>
          match u.phase, u.start with
          | .waiting, .atTemp threshold =>
            if u.point = some x then
              { u with tempMark := !u.pause.user && !u.pause.halt && r = .temp deg && threshold ≤ deg } else u
          | _, _ => u } }) ∧
      (r = .open ∨ r = .short → c ≠ .prb → t.stc.faults.plain.sensor = true) ∧
      (c = .prb → t.ptc = s.ptc ∧ t.tme = { s.tme with slots := s.tme.slots.map fun y => { y with timer := y.timer.map fun u =>
          match u.probe with
          | none => u
          | some threshold =>
            if r = .temp deg then { u with probeMark := u.phase = .started && threshold ≤ deg }
            else { u with probe := none, probeMark := false } } }) ∧
      (c = .prb → r = .open ∨ r = .short → (∀ u ∈ t.tme.timers, u.probe = none) ∧
        (∀ u ∈ s.tme.timers, u.probe ≠ none → ∀ q, s.timerAudience u q = true → (t.ports.get q).posted.feedback = true) ∧
        (r = .short → t.stc.faults.plain.probe = true)) ∧
      (c = .brd → r = .temp deg → 105 ≤ deg → t.stc.faults.plain.boardOvertemp = true ∧
        t.stc.holds.boardOvertemp = true ∧ (s.stc.op = .run → s.stc.noHold = true → t.stc.op = .hold)) ∧
      (c = .brd → r = .open ∨ r = .short →
        t.stc.holds.boardOvertemp = true ∧ (s.stc.op = .run → s.stc.noHold = true → t.stc.op = .hold)) ∧
      (c = .brd → r = .temp deg → 95 < deg → deg < 105 → t.stc = s.stc ∧ t.ptc = s.ptc) ∧
      (c = .brd → r = .temp deg → deg ≤ 95 → t.stc.holds.boardOvertemp = false ∧ t.stc.op = s.stc.op) ∧
      (c = .brd → t.stc.op = s.stc.op → t.tme = s.tme)

/-- VERIFY_SET, CFG_LIMITS and SENSE_CONFIG by the supervisor in CONFIG, RUN and HOLD store what they carry, clamped, and answer
OK with the settings as stored; in LOCKOUT each is refused REFUSED_STATE; the conformity masks and the channel mask are set in
CONFIG alone (R133, R145, R147, R151, R154). -/
def Obligations.SettingsAreStored : Prop :=
  ∀ (s : State), s.LinesFollow → s.stc.op ≠ .selftest →
    (∀ (l : Load) (w : Nat), ∃ t, exec (.verifySet .supervisor (some (.fixed l.index)) (some w) none none) s = .next t ∧
      (s.stc.op = .lockout → OnlyReplied .supervisor 0xB2 .refusedState [] s t) ∧
      (s.stc.op ≠ .lockout →
        t = { s with
          dru := { s.dru with verifier := { s.dru.verifier with mode := .fixed l, tolerance := min 10 w } }
          ports := t.ports } ∧
        PortsAfter (some .supervisor) noPosts s t ∧ t.Replied .supervisor 0xB2 .ok t.dru.settings)) ∧
    (∀ relay valve : Nat, relay < 128 → valve < 32 →
      ∃ t, exec (.verifySet .supervisor none none (some relay) (some valve)) s = .next t ∧
        (s.stc.op ≠ .config → OnlyReplied .supervisor 0xB2 .refusedState [] s t) ∧
        (s.stc.op = .config →
          t = { s with
            dru := { s.dru with
              relay := { s.dru.relay with mask := .of fun l => relay.testBit l.index }
              valve := { s.dru.valve with mask := .of fun z => valve.testBit z.index } }
            ports := t.ports } ∧
          PortsAfter (some .supervisor) noPosts s t ∧ t.Replied .supervisor 0xB2 .ok t.dru.settings)) ∧
    (∀ a b : Int, ∃ t, exec (.cfgLimits .supervisor (some a) (some b)) s = .next t ∧
      (s.stc.op = .lockout → OnlyReplied .supervisor 0xC4 .refusedState [] s t) ∧
      (s.stc.op ≠ .lockout →
        t = { s with
          snu := { s.snu with cavLimit := max 100 (min 560 a), grlLimit := max 100 (min 560 b) }
          ports := t.ports } ∧
        PortsAfter (some .supervisor) noPosts s t ∧
        t.Replied .supervisor 0xC4 .ok (encTemp t.snu.cavLimit ++ encTemp t.snu.grlLimit))) ∧
    (∀ (c : Sensor) (n gain : Nat) (offset : Int),
      ∃ t, exec (.senseConfig .supervisor none (some n) (some [⟨c.index, some gain, some offset⟩]) false) s = .next t ∧
        (s.stc.op = .lockout → OnlyReplied .supervisor 0xB9 .refusedState [] s t) ∧
        (s.stc.op ≠ .lockout →
          t = { s with
            snu := { s.snu with
              averaging := if n < 4 then 2 else if n < 8 then 4 else if n < 16 then 8 else 16
              channels := s.snu.channels.set c { s.snu.channels.get c with
                gain := min gain 255
                offset := max (-128) (min 127 offset) } }
            ports := t.ports } ∧
          PortsAfter (some .supervisor) noPosts s t ∧ t.Replied .supervisor 0xB9 .ok t.snu.settings)) ∧
    ∀ mask < 16, ∃ t, exec (.senseConfig .supervisor (some mask) none none true) s = .next t ∧
      (s.stc.op ≠ .config → OnlyReplied .supervisor 0xB9 .refusedState [] s t) ∧
      (s.stc.op = .config →
        t = { s with
          snu := { s.snu with
            mask := .of fun c => mask.testBit c.index
            channels := .of fun c => { s.snu.channels.get c with gain := 64, offset := 0 } }
          ports := t.ports } ∧
        PortsAfter (some .supervisor) noPosts s t ∧ t.Replied .supervisor 0xB9 .ok t.snu.settings)

/-! ## Alerts (R157 to R170) -/

/-- ALERT_ACK of a timer's entry: the entry leaves, REMOVED; without an entry REFUSED_STATE. The slot is freed; a STEP slot of a
WAITING_ACK channel runs the next step, the channel ACTIVE and a pass started; one of a DONE channel is freed and the channel
stays DONE (R65, R82, R83, R162). ALERT_ACK of a system cause: an entry whose cause is present is silenced and keeps its place, or
stays UNCHANGED; one whose cause has cleared leaves. OLDEST names the first SOUNDING entry, and is refused REFUSED_STATE without
one (R162). ALERT_SILENCE silences the first SOUNDING timer entry of 600 s or more (R159, log 10). Nothing else changes. -/
def Obligations.AlertsAreAcknowledged : Prop :=
  ∀ s : State,
    (∀ (p : Port) (h : Handle) (r : Timer), s.LinesFollow → s.stc.op ≠ .selftest → s.tme.lookup h = .ok r → r.kind ≠ .step →
      ∃ t, exec (.alertAck p (.timer h)) s = .next t ∧
        ((∀ e ∈ s.alc.entries, e.forTimer h = false) → OnlyReplied p 0xBD .refusedState [] s t) ∧
        ((∃ e ∈ s.alc.entries, e.forTimer h = true) →
          t = { s with
            tme := s.tme.setTimer h.slot.toNat none
            alc := { s.alc with entries := s.alc.entries.filter fun e => !e.forTimer h }
            ports := t.ports
            pins := t.pins } ∧
          PortsAfter (some p) (toPorts .alertChanged (s.timerAudience r)) s t ∧
          t.Replied p 0xBD .ok [0, h.slot, h.gen, 0])) ∧
    (∀ (p : Port) (h : Handle) (r : Timer) (c : SeqChan), s.stc.op ≠ .selftest → s.tme.lookup h = .ok r →
      r.kind = .step → r.owner = .channel c → (∃ e ∈ s.alc.entries, e.forTimer h = true) →
      ∃ t, exec (.alertAck p (.timer h)) s = .next t ∧ t.Replied p 0xBD .ok [0, h.slot, h.gen, 0] ∧
        t.alc = { s.alc with entries := s.alc.entries.filter fun e => !e.forTimer h } ∧
        (∀ k next, (s.squ.get c).state = .waitingAck → (s.squ.get c).current = some k →
          (s.squ.get c).steps[k]? = some next →
          t.squ = s.squ.set c { s.squ.get c with state := .active, current := some (k + 1) } ∧
          (∃ v, t.tme = s.tme.setTimer h.slot.toNat (some v) ∧ v.phase = .started ∧ v.duration = next.duration ∧
            v.remaining = next.duration ∧ v.pause = { user := false, halt := s.tme.halt } ∧ v.endCause = none) ∧
          (∃ b, t.spl = { s.spl with serial := s.spl.serial + 1, pending := .building b }) ∧
          t = { s with tme := t.tme, squ := t.squ, spl := t.spl, alc := t.alc, ports := t.ports, pins := t.pins }) ∧
        ((s.squ.get c).state = .done →
          t = { s with
            tme := s.tme.setTimer h.slot.toNat none
            squ := s.squ.set c { s.squ.get c with slot := none }
            alc := t.alc
            ports := t.ports
            pins := t.pins })) ∧
    (∀ p : Port, s.stc.op ≠ .selftest →
      ((∀ e ∈ s.alc.entries, e.sounding = false) → s.LinesFollow →
        ∃ t, exec (.alertAck p .oldest) s = .next t ∧ OnlyReplied p 0xBD .refusedState [] s t) ∧
      ∀ (e : Alert) (before after : List Alert), s.alc.entries = before ++ e :: after → (∀ y ∈ before, y.sounding = false) →
        e.sounding = true → ∃ t, exec (.alertAck p .oldest) s = .next t ∧
        (∀ x, e.source = .system x true → t = { s with
            alc := { s.alc with entries := (before ++ { e with sounding := false } :: after) }
            ports := t.ports
            pins := t.pins } ∧
          t.Replied p 0xBD .ok [1, byteOf x.code, 0, 1]) ∧
        (∀ h r, e.source = .timer h → s.tme.lookup h = .ok r → r.kind ≠ .step → t = { s with
            tme := s.tme.setTimer h.slot.toNat none
            alc := { s.alc with entries := s.alc.entries.filter fun y => !y.forTimer h }
            ports := t.ports
            pins := t.pins } ∧
          t.Replied p 0xBD .ok [0, h.slot, h.gen, 0])) ∧
    (∀ (p : Port) (x : SystemCause) (e : Alert) (present : Bool) (before after : List Alert), s.stc.op ≠ .selftest →
      s.alc.entries = before ++ e :: after → (∀ y ∈ before, y.forCause x = false) → e.source = .system x present →
      (∀ y ∈ after, y.forCause x = false) →
      ∃ t, exec (.alertAck p (.cause x.code)) s = .next t ∧
        t = { s with alc := { s.alc with entries := t.alc.entries }, ports := t.ports, pins := t.pins } ∧
        (present = true → e.sounding = true →
          t.alc.entries = before ++ { e with sounding := false } :: after ∧
          PortsAfter (some p) (toAll .alertChanged) s t ∧ t.Replied p 0xBD .ok [1, byteOf x.code, 0, 1]) ∧
        (present = true → e.sounding = false →
          t.alc.entries = s.alc.entries ∧ PortsAfter (some p) noPosts s t ∧
          t.Replied p 0xBD .ok [1, byteOf x.code, 0, 2]) ∧
        (present = false → t.alc.entries = before ++ after ∧ PortsAfter (some p) (toAll .alertChanged) s t ∧
          t.Replied p 0xBD .ok [1, byteOf x.code, 0, 0])) ∧
    ∀ (e : Alert) (before after : List Alert), s.alc.entries = before ++ e :: after →
      (∀ y ∈ before, y.isTimer = false ∨ y.sounding = false ∨ (s.tbu.seconds - y.raisedAt).toNat < 600) →
      e.isTimer = true → e.sounding = true → 600 ≤ (s.tbu.seconds - e.raisedAt).toNat →
      ∃ t, exec .alertSilence s = .next t ∧
        t = { s with
          alc := { s.alc with entries := before ++ { e with sounding := false } :: after }
          ports := t.ports
          pins := t.pins } ∧
        (t.ports.get .supervisor).posted.alertChanged = true

/-! ## Operating states and faults (R171 to R186) -/

/-- SELFTEST_END without a finding: PASS, CONFIG at that second, both masters low. With one, the first of march test, planner and
output readback, and at SELFTEST_TIME_LIMIT: FAIL with that part, SELFTEST latched, LOCKOUT, both masters low, the halt in force
(R171, R172, R179, R180; what the hardware finds is the command's operand, log 14). -/
def Obligations.SelftestsEnd : Prop :=
  ∀ s : State, s.stc.op = .selftest → s.TestInConfig →
    (∃ t, exec (.selftestEnd { march := none, plannerFault := false, lines := 0 }) s = .next t ∧
      t.stc = { s.stc with
        op := .config
        enteredAt := s.tbu.seconds
        selfTest := { status := .pass, failing := .none, part := none } } ∧
      t.dru.gms = false ∧ t.dru.ems = false ∧ t.tme = Tme.reset ∧ (∀ x, (t.ptc.reasons.get x).halted = true) ∧
      (∀ l, (t.spl.active.entries.get l).g = 0) ∧ DemandKept s t ∧ DriveKept s t ∧
      t = { s with stc := t.stc, ptc := t.ptc, tme := t.tme, spl := t.spl, dru := t.dru, alc := t.alc, ports := t.ports
                   pins := t.pins } ∧
      ∀ q, (t.ports.get q).posted.stateChanged = true) ∧
    ∀ (i : Instr) (f : FailingPart),
      (i = .selftestTimeLimit ∧ f = .timeLimit ∨
       ∃ found, i = .selftestEnd found ∧
        (found.march = some .timerStore ∧ f = .timerStore ∨ found.march = some .planStore ∧ f = .planStore ∨
         found.march = none ∧ found.plannerFault = true ∧ f = .planner ∨
         ∃ n, found.march = none ∧ found.plannerFault = false ∧ found.lines.getLsbD n.val = true ∧
          (∀ k < n, found.lines.getLsbD k.val = false) ∧ f = .output n)) →
      ∃ t, exec i s = .next t ∧ t.stc.op = .lockout ∧ t.stc.enteredAt = s.tbu.seconds ∧
        t.stc.selfTest = { status := .fail, failing := f, part := none } ∧ t.stc.faults.plain.selftest = true ∧
        t.stc.holds = s.stc.holds ∧ t.dru.gms = false ∧ t.dru.ems = false ∧ t.tme.halt = true ∧ DemandKept s t ∧
        DriveKept s t ∧
        t = { s with stc := t.stc, ptc := t.ptc, tme := t.tme, spl := t.spl, dru := t.dru, alc := t.alc, ports := t.ports
                     pins := t.pins } ∧
        (∀ x, (t.ptc.reasons.get x).halted = true) ∧ ∀ q, (t.ports.get q).posted.stateChanged = true

/-- CFG_COMMIT outside CONFIG is refused REFUSED_STATE. In CONFIG it is refused at the first check that fails, with its detail,
and is else taken: the part enters RUN, or HOLD where a hold cause is present, both masters rise, a drive test that runs is
ABORTED, HALTED and the halt in force follow the state, and OK returns it. The outcome is kept (R30, R69, R71, R124, R138, R176). -/
def Obligations.CommitsAreChecked : Prop :=
  ∀ s : State, s.LinesFollow → s.stc.op ≠ .selftest →
    ∃ t, exec (.cfgCommit .supervisor) s = .next t ∧
      (s.stc.op ≠ .config → t = { s with stc := { s.stc with lastCommit := t.stc.lastCommit }, ports := t.ports } ∧
        PortsAfter (some .supervisor) noPosts s t ∧ t.Replied .supervisor 0xC8 .refusedState []) ∧
      (s.stc.op = .config →
      let stays := fun (r : CommitResult) (e : Status) (d : List Byte) =>
        t = { s with stc := { s.stc with lastCommit := some r }, ports := t.ports } ∧
          PortsAfter (some .supervisor) noPosts s t ∧ t.Replied .supervisor 0xC8 e d
      (s.stc.holds.timebase = true → stays .timebase .refusedState [0]) ∧
      (s.stc.holds.timebase = false → (∃ e, e ∉ s.ptc.rank.toList) → stays .rank .badValue [1]) ∧
      (s.stc.holds.timebase = false → (∀ e, e ∈ s.ptc.rank.toList) →
        (∀ l, s.spl.budget < (s.spl.loads.get l).power →
          (∀ k, k.index < l.index → (s.spl.loads.get k).power ≤ s.spl.budget) →
          stays (.load l) .badValue [2, byteOf l.index]) ∧
        ((∀ l, (s.spl.loads.get l).power ≤ s.spl.budget) → s.snu.mask.cav = false → stays .cavMask .badValue [3]) ∧
        ((∀ l, (s.spl.loads.get l).power ≤ s.spl.budget) → s.snu.mask.cav = true →
          let runs := s.stc.noHold
          t.stc = { s.stc with
            op := if runs then .run else .hold
            enteredAt := s.tbu.seconds
            lastCommit := some .ok } ∧
          t.dru.gms = true ∧ t.dru.ems = true ∧ t.tme = (if runs then s.tme.unhalted else s.tme.halted) ∧
          (∀ x, t.ptc.reasons.get x = { s.ptc.reasons.get x with halted := !runs }) ∧ ControlFrame s t ∧
          t.dru.test.status = (if s.dru.test.status = .running then .aborted else s.dru.test.status) ∧
          (∀ q, (t.ports.get q).posted.stateChanged = true) ∧
          t.Replied .supervisor 0xC8 .ok [if runs then 2 else 3])))

/-- HOLD_REQUEST: the supervisor's alone; BUSY in SELFTEST, REFUSED_STATE in CONFIG and LOCKOUT; in RUN and HOLD it adds
SUPERVISOR_REQUEST and returns the set, takes a part in RUN to HOLD, and changes nothing in HOLD where the cause is present (R174). -/
def Obligations.HoldRequestsHold : Prop :=
  ∀ (p : Port) (s : State), s.LinesFollow → ∃ t, exec (.holdRequest p) s = .next t ∧
    (p ≠ .supervisor → OnlyReplied p 0xCA .notPermitted [] s t) ∧
    (p = .supervisor → s.stc.op = .selftest → OnlyReplied p 0xCA .busy [] s t) ∧
    (p = .supervisor → s.stc.op = .config ∨ s.stc.op = .lockout → OnlyReplied p 0xCA .refusedState [] s t) ∧
    (p = .supervisor → s.stc.op = .run ∨ s.stc.op = .hold →
      t.stc.holds = { s.stc.holds with supervisorRequest := true } ∧ t.Replied p 0xCA .ok (encHolds t.stc.holds) ∧
      (s.stc.op = .run → s.stc.noHold = true →
        t.stc = { s.stc with op := .hold, enteredAt := s.tbu.seconds, holds := t.stc.holds } ∧ t.tme = s.tme.halted ∧
        t.dru.gms = true ∧ t.dru.ems = true ∧
        (∀ x, t.ptc.reasons.get x = { s.ptc.reasons.get x with halted := true }) ∧ ControlFrame s t ∧
        ∀ q, (t.ports.get q).posted.stateChanged = true) ∧
      (s.stc.op = .hold → s.stc.holds.supervisorRequest = false →
        t = { s with
          stc := { s.stc with holds := t.stc.holds }
          ports := t.ports
          pins := t.pins } ∧
        PortsAfter (some p) (toAll .stateChanged) s t) ∧
      (s.stc.op = .hold → s.stc.holds.supervisorRequest = true →
        OnlyReplied p 0xCA .ok (encHolds s.stc.holds) s t))

/-- RESUME: the supervisor's alone; BUSY in SELFTEST, REFUSED_STATE in CONFIG, RUN and LOCKOUT; in HOLD with another cause than
SUPERVISOR_REQUEST it is refused with the whole set, which stays; with none, SUPERVISOR_REQUEST leaves and the part enters RUN
(R175). -/
def Obligations.ResumesRun : Prop :=
  ∀ (p : Port) (s : State), s.LinesFollow → ∃ t, exec (.resume p) s = .next t ∧
    (p ≠ .supervisor → OnlyReplied p 0xCB .notPermitted [] s t) ∧
    (p = .supervisor → s.stc.op = .selftest → OnlyReplied p 0xCB .busy [] s t) ∧
    (p = .supervisor → s.stc.op = .config ∨ s.stc.op = .run ∨ s.stc.op = .lockout →
      OnlyReplied p 0xCB .refusedState [] s t) ∧
    (p = .supervisor → s.stc.op = .hold → ∀ h, h ≠ .supervisorRequest → s.stc.holds.get h = true →
      OnlyReplied p 0xCB .refusedState (encHolds s.stc.holds) s t) ∧
    (p = .supervisor → s.stc.op = .hold → (∀ h, h ≠ .supervisorRequest → s.stc.holds.get h = false) →
      t.stc = { s.stc with
        op := .run
        enteredAt := s.tbu.seconds
        holds := { s.stc.holds with supervisorRequest := false } } ∧
      t.Replied p 0xCB .ok [] ∧ t.tme = s.tme.unhalted ∧ t.dru.gms = true ∧ t.dru.ems = true ∧ ControlFrame s t ∧
      (∀ x, t.ptc.reasons.get x = { s.ptc.reasons.get x with halted := false }) ∧
      ∀ q, (t.ports.get q).posted.stateChanged = true)

/-- RESTART in CONFIG, RUN or HOLD: CONFIG, SUPERVISOR_REQUEST gone and the other causes kept; faults, first-fault, mask and
self-test kept; demand zero, HALTED alone with FAULT where it has members; every slot FREE with its generation, every channel
EMPTY, no job, no run, no arrears, the budget and the load records kept; both masters low, no test running; no alert and no
notice; the timebase, the sensing, the presence and the watchdog as they were (R21, R41, R73, R95, R120, R142, R156, R170, R177).
SEQ_CHANGED is posted for each channel that was neither EMPTY nor LOADING (R75, R95), and a pass starts where one was ACTIVE or
WAITING_ACK (R76, R109; log 37). -/
def Obligations.RestartsAreWarm : Prop :=
  ∀ s : State, s.stc.op = .config ∨ s.stc.op = .run ∨ s.stc.op = .hold →
    ∃ t, exec (.restart .supervisor) s = .next t ∧ t.Replied .supervisor 0xCC .ok [] ∧
      t.stc = { s.stc with
        op := .config
        enteredAt := s.tbu.seconds
        holds := { s.stc.holds with supervisorRequest := false } } ∧
      (∀ z, t.ptc.gas.get z = false) ∧ (∀ l, t.ptc.duty.get l = 0) ∧
      (∀ x, t.ptc.reasons.get x = { delay := false, timerOff := false, halted := true
                                    fault := s.ptc.attribution.holds x, overtemp := false }) ∧
      t.ptc.panel = s.ptc.panel ∧ t.ptc.rank = s.ptc.rank ∧ t.ptc.attribution = s.ptc.attribution ∧
      t.tme = { slots := s.tme.slots.map fun x => { x with timer := none }, halt := false } ∧
      (∀ c, t.squ.get c = Channel.reset) ∧
      (∀ c q, (s.squ.get c).state ≠ .empty → (s.squ.get c).state ≠ .loading →
        q = .supervisor ∨ q = (s.ptc.panel.get c.point).port → (t.ports.get q).posted.seqChanged = true) ∧
      (∀ c, (s.squ.get c).state = .active ∨ (s.squ.get c).state = .waitingAck → ∃ b, t.spl.pending = .building b) ∧
      t.pmc.jobs = [] ∧ t.pmc.bus = .idle ∧ t.pmc.device = s.pmc.device ∧
      t.pmc.base = s.pmc.base ∧ t.pmc.results = s.pmc.results ∧
      (∀ l, (t.spl.active.entries.get l).g = 0 ∧ t.spl.arrears.get l = 0) ∧ t.spl.repeats = 0 ∧
      t.spl.loads = s.spl.loads ∧ t.spl.budget = s.spl.budget ∧
      t.dru.gms = false ∧ t.dru.ems = false ∧ (∀ z, t.dru.burnerOut.get z = false) ∧
      t.dru.test = { s.dru.test with
        status := if s.dru.test.status = .running then .aborted else s.dru.test.status } ∧
      t.alc.entries = [] ∧ t.alc.notices = [] ∧ t.tbu = s.tbu ∧ t.snu = s.snu ∧ t.presence = s.presence ∧
      t.watchdog = s.watchdog ∧ t.free = s.free ∧ t.dru.en = s.dru.en ∧ t.dru.gp = s.dru.gp ∧
      t.dru.standing = s.dru.standing ∧ ∀ q, (t.ports.get q).posted.stateChanged = true

/-- FAULT_CLEAR of ALL by the supervisor in CONFIG, RUN, HOLD and LOCKOUT: of what was latched, exactly the flags and members
whose condition still holds are latched after it; first-fault leaves where none is; the attribution members of loads and valves
leave with their flags, where SENSOR was latched a SENSOR
member is there after it exactly where its channel reads OPEN or SHORT; FAULT stays on the points
with a member, every other reason stays, and a gate left without a reason is OPEN; a change posts FAULT_CHANGED, and the operating
state stays. FAULT_CLEAR of one flag leaves every other (R20, R31, R32, R93, R131, R149, R150, R152, R153, R182). -/
def Obligations.FaultsAreCleared : Prop :=
  ∀ s : State, s.stc.op ≠ .selftest →
    (∃ t, exec (.faultClear .supervisor .all) s = .next t ∧ t.Replied .supervisor 0xD1 .ok t.stc.faults.enc ∧
      t.stc.op = s.stc.op ∧ t.stc.holds = s.stc.holds ∧
      (let was := s.stc.faults.plain
       let now := t.stc.faults.plain
       now.memory = false ∧ now.selftest = (was.selftest && s.stc.selfTest.status = .fail) ∧
       now.xtal = (was.xtal && s.tbu.crystal = .failed) ∧ now.timebaseLost = (was.timebaseLost && s.tbu.source = .rc) ∧
       now.timebaseSuspect = (was.timebaseSuspect && 3 ≤ s.tbu.disagreeRun) ∧
       now.supervisorSilent = (was.supervisorSilent && s.stc.holds.supervisorSilent) ∧
       (now.boardOvertemp = true ↔
         was.boardOvertemp = true ∧ ∃ d, (s.snu.channels.get .brd).reading = .temp d ∧ 95 < d) ∧
       now.cavOvertemp = (was.cavOvertemp && (s.ptc.reasons.get .ov).overtemp) ∧
       now.grlOvertemp = (was.grlOvertemp && (s.ptc.reasons.get .gr).overtemp) ∧
       (now.sensor = true ↔ was.sensor = true ∧ ∃ c, c ≠ .prb ∧
         ((s.snu.channels.get c).reading = .open ∨ (s.snu.channels.get c).reading = .short)) ∧
       now.probe = (was.probe && (s.snu.channels.get .prb).reading = .short)) ∧
      (∀ l, t.stc.faults.drive.get l = (s.stc.faults.drive.get l && s.dru.standing.get l = .fail) ∧
        t.stc.faults.stuckOn.get l = (s.stc.faults.stuckOn.get l && s.dru.findings.get l)) ∧
      (∀ z, (t.stc.faults.valve.get z = true ↔ s.stc.faults.valve.get z = true ∧
          ∃ u, s.dru.lastSample = some u ∧ u.opened.get z = true) ∧
        (t.stc.faults.valveUnexpected.get z = true ↔ s.stc.faults.valveUnexpected.get z = true ∧
          ∃ u, s.dru.lastSample = some u ∧ u.opened.get z = true)) ∧
      (t.stc.firstFault = if t.stc.faults.any then s.stc.firstFault else none) ∧
      (let was := s.ptc.attribution
       let now := t.ptc.attribution
       let reads := fun c => (s.snu.channels.get c).reading = .open ∨ (s.snu.channels.get c).reading = .short
       (∀ l, now.drive.get l = (was.drive.get l && (!s.stc.faults.drive.get l || t.stc.faults.drive.get l)) ∧
         now.stuckOn.get l = (was.stuckOn.get l && (!s.stc.faults.stuckOn.get l || t.stc.faults.stuckOn.get l))) ∧
       (∀ z, now.valve.get z = (was.valve.get z && (!s.stc.faults.valve.get z || t.stc.faults.valve.get z)) ∧
         now.valveUnexpected.get z =
           (was.valveUnexpected.get z && (!s.stc.faults.valveUnexpected.get z || t.stc.faults.valveUnexpected.get z))) ∧
       (if s.stc.faults.plain.sensor then (now.sensorCav = true ↔ reads .cav) ∧ (now.sensorGrl = true ↔ reads .grl)
        else now.sensorCav = was.sensorCav ∧ now.sensorGrl = was.sensorGrl) ∧
       (∀ x o, o ≠ .fault → (t.ptc.reasons.get x).get o = (s.ptc.reasons.get x).get o) ∧
       (s.GatesFollow → ∀ x, let member := (∃ l, l.point = x ∧ (now.drive.get l = true ∨ now.stuckOn.get l = true)) ∨
           (∃ z, z.point = x ∧ (now.valve.get z = true ∨ now.valveUnexpected.get z = true)) ∨
           x = .ov ∧ now.sensorCav = true ∨ x = .gr ∧ now.sensorGrl = true
         ((t.ptc.reasons.get x).fault = true ↔ member) ∧
         (t.gateOpen x = true ↔ ¬ member ∧ ∀ o, o ≠ .fault → (s.ptc.reasons.get x).get o = false))) ∧
      (t.stc.faults ≠ s.stc.faults → ∀ q, (t.ports.get q).posted.faultChanged = true) ∧
      PlannerKept s t ∧ DemandKept s t ∧ DriveKept s t ∧ t.dru.gms = s.dru.gms ∧ t.dru.ems = s.dru.ems ∧
      t = { s with ptc := t.ptc, spl := t.spl, dru := t.dru, alc := t.alc, stc := t.stc, ports := t.ports
                   pins := t.pins }) ∧
    ∀ f : FaultFlag, ∃ t, exec (.faultClear .supervisor (.flags [f.index])) s = .next t ∧
      ∀ i : FaultId, i.flag ≠ f → t.stc.faults.get i = s.stc.faults.get i

/-! ## Ports (R187 to R201) -/

/-- The receiver of a port, byte by byte: HUNT until 0xC3, a length of 1 to 60, then its bytes; a wrong length counts FRAME_ERR, a
wrong CRC CRC_ERR, a gap inside a frame GAP, a low stop bit FRAME_ERR, a break BREAK with every frame and reply gone; the line
high after a break brings HUNT; REPLY_SENT takes the frame in service out, and nothing or the next request follows. Every other
port and block stays as it was, and each counter stays at 255 (R188 to R190, R194). A request that the break cut off before its
block took it gets no reply (R190). The next request is dispatched: NOT_PERMITTED to a panel where the supervisor alone is allowed
it, BUSY in SELFTEST but for STATE_READ and FAULT_READ, else handed to its block, which acts at the request's own command, the
model's choice (R191, log 16). The last byte as BYTE_RECEIVED, FRAME_ERR in HUNT and nothing taken at rest are the model's too
(log 26). -/
def Obligations.ReceiversFollowTheLine : Prop :=
  ∀ (p : Port) (b : Byte) (s : State), s.LinesFollow →
    let u := s.ports.get p
    let goes := fun (i : Instr) (v : PortUnit) => exec i s = .next { s with ports := s.ports.set p v }
    (u.rx = .hunt → goes (.byteReceived p b) { u with rx := if b = 0xC3 then .length else .hunt }) ∧
    (u.rx = .length → 1 ≤ b.toNat → b.toNat ≤ 60 →
      goes (.byteReceived p b) { u with rx := .body [b] (b.toNat + 1) }) ∧
    (u.rx = .length → b.toNat = 0 ∨ 60 < b.toNat → goes (.byteReceived p b)
      { u with rx := .hunt, counters := { u.counters with frameErr := min 255 (u.counters.frameErr + 1) } }) ∧
    (∀ bs n, u.rx = .body bs n → 2 ≤ n → goes (.byteReceived p b) { u with rx := .body (bs ++ [b]) (n - 1) }) ∧
    (∀ bs, u.rx = .body bs 1 → exec (.byteReceived p b) s = exec (.frameReceived p b) s ∧
      (crc8 bs ≠ b → goes (.frameReceived p b)
        { u with rx := .hunt, counters := { u.counters with crcErr := min 255 (u.counters.crcErr + 1) } })) ∧
    (u.rx = .length ∨ (∃ bs n, u.rx = .body bs n) → goes (.gapTimeout p)
      { u with rx := .hunt, counters := { u.counters with gap := min 255 (u.counters.gap + 1) } }) ∧
    (u.rx = .hunt → goes (.gapTimeout p) u) ∧
    (u.rx ≠ .rest →
      goes (.frameErr p)
        { u with rx := .hunt, counters := { u.counters with frameErr := min 255 (u.counters.frameErr + 1) } } ∧
      goes (.lineBreak p) { u with
        rx := .rest
        buffer := []
        service := .idle
        cutOff := (match u.service with
          | .handed i => u.cutOff ++ [i]
          | _ => u.cutOff)
        counters := { u.counters with breaks := min 255 (u.counters.breaks + 1) } }) ∧
    (u.rx = .rest → goes (.byteReceived p b) u ∧ goes (.lineHighAfterBreak p) { u with rx := .hunt }) ∧
    ∀ (fs : List (List Byte)) (f : Frame), u.service = .replying fs →
      (u.buffer = [f] → goes (.replySent p) { u with buffer := [], service := .idle }) ∧
      ∀ (g : Frame) (i : Instr) (code : Byte) (only : Bool), u.buffer = [f, g] →
        decodeRequest p g.code g.payload = .ok i → asRequest i = some (p, code, only) →
        let answered := fun e : Status => goes (.replySent p) { u with
          buffer := [g]
          lastReply := some { code := code, status := e, data := [] }
          service := .replying (Reply.frames { code := code, status := e, data := [] }) }
        (only = true ∧ p ≠ .supervisor → answered .notPermitted) ∧
        (¬ (only = true ∧ p ≠ .supervisor) → s.stc.op = .selftest ∧ i ≠ .stateRead p ∧ i ≠ .faultRead p →
          answered .busy) ∧
        (¬ (only = true ∧ p ≠ .supervisor) → ¬ (s.stc.op = .selftest ∧ i ≠ .stateRead p ∧ i ≠ .faultRead p) →
          goes (.replySent p) { u with buffer := [g], service := .handed i })

/-- FRAME_RECEIVED with the right CRC: HUNT; the first frame is dispatched: answered by the port UNKNOWN_REQUEST, BAD_LENGTH,
NOT_PERMITTED or BUSY, or handed to its block as the request it spells, which acts at its own command (log 16); a second waits; a
third is lost and counted as OVERRUN. A panel becomes PRESENT with its silence at 0; the supervisor sets the watchdog RUNNING and
ends the hold cause SUPERVISOR_SILENT where it had EXPIRED (R188, R189, R191, R195, R196). -/
def Obligations.FramesAreServed : Prop :=
  ∀ (p : Port) (bs : List Byte) (s : State), (s.ports.get p).rx = .body bs 1 →
    let u := s.ports.get p
    let f : Frame := { code := bs.getD 1 0, payload := bs.drop 2 }
    ∃ t, exec (.frameReceived p (crc8 bs)) s = .next t ∧ (t.ports.get p).rx = .hunt ∧
      (u.buffer = [] → (t.ports.get p).buffer = [f] ∧
        (∀ i code only, decodeRequest p f.code f.payload = .ok i → asRequest i = some (p, code, only) →
          let barred := only = true ∧ p ≠ .supervisor
          let early := s.stc.op = .selftest ∧ i ≠ .stateRead p ∧ i ≠ .faultRead p
          (barred → t.Replied p code .notPermitted [] ∧ ∃ fs, (t.ports.get p).service = .replying fs) ∧
          (¬ barred → early → t.Replied p code .busy [] ∧ ∃ fs, (t.ports.get p).service = .replying fs) ∧
          (¬ barred → ¬ early → (t.ports.get p).service = .handed i ∧ (t.ports.get p).lastReply = u.lastReply)) ∧
        (decodeRequest p f.code f.payload = .unknownRequest → t.Replied p (replyCode f.code) .unknownRequest [] ∧
          ∃ fs, (t.ports.get p).service = .replying fs) ∧
        (decodeRequest p f.code f.payload = .badLength → t.Replied p (replyCode f.code) .badLength [] ∧
          ∃ fs, (t.ports.get p).service = .replying fs)) ∧
      (∀ g, u.buffer = [g] → (t.ports.get p).buffer = [g, f] ∧ (t.ports.get p).service = u.service ∧
        (t.ports.get p).counters = u.counters) ∧
      (∀ g h, u.buffer = [g, h] → (t.ports.get p).buffer = [g, h] ∧ (t.ports.get p).service = u.service ∧
        (t.ports.get p).counters = { u.counters with overrun := min 255 (u.counters.overrun + 1) }) ∧
      (∀ x, p.panel = some x →
        t = { s with
          presence := s.presence.set x { s.presence.get x with present := true, silence := some 0 }
          ports := t.ports
          pins := t.pins }) ∧
      (p = .supervisor → t.watchdog = { s.watchdog with state := .running } ∧ t.stc.op = s.stc.op ∧
        t.stc.faults = s.stc.faults ∧
        t.stc.holds = { s.stc.holds with
          supervisorSilent := s.stc.holds.supervisorSilent && s.watchdog.state ≠ .expired } ∧
        t = { s with stc := t.stc, watchdog := t.watchdog, ports := t.ports, pins := t.pins })

/-- PRESENCE_TIMEOUT of a panel that is PRESENT: ABSENT; its timers pass to NONE and are nothing else changed, TIMER_ORPHANED to
both other ports where there is one; its channels have no controlling port, SEQ_CHANGED to the supervisor and the other panel
(R67, R75, R195). WATCHDOG_EXPIRY while RUNNING: EXPIRED, the hold cause and the flag SUPERVISOR_SILENT, and RUN becomes HOLD
(R173, R196). -/
def Obligations.SilenceIsNoticed : Prop :=
  ∀ s : State,
    (∀ x : Panel, (s.presence.get x).present = true → ∃ t, exec (.presenceTimeout x) s = .next t ∧
      (t.presence.get x).present = false ∧ (t.presence.get x).timeout = (s.presence.get x).timeout ∧
      t.presence.get x.other = s.presence.get x.other ∧
      t.tme = { s.tme with
        slots := s.tme.slots.map fun y => { y with
          timer := y.timer.map fun r => if r.owner = .role x.port then { r with owner := .nobody } else r } } ∧
      (s.tme.held (.role x.port) ≠ 0 → ∀ q, q ≠ x.port → (t.ports.get q).posted.timerOrphaned = true) ∧
      (∀ c, t.squ.get c = if (s.squ.get c).control = some x.port then { s.squ.get c with control := none } else
        s.squ.get c) ∧
      (∀ c, (s.squ.get c).control = some x.port → ∀ q, q ≠ x.port → (t.ports.get q).posted.seqChanged = true) ∧
      t = { s with presence := t.presence, tme := t.tme, squ := t.squ, ports := t.ports, pins := t.pins }) ∧
    (s.watchdog.state = .running → ∃ t, exec .watchdogExpiry s = .next t ∧
      t.watchdog = { s.watchdog with state := .expired } ∧
      t.stc.holds = { s.stc.holds with supervisorSilent := true } ∧ t.stc.faults.plain.supervisorSilent = true ∧
      (s.stc.op = .run → s.stc.noHold = true → t.stc.op = .hold ∧ t.stc.enteredAt = s.tbu.seconds) ∧
      (s.stc.op ≠ .run → t.stc.op = s.stc.op) ∧
      ControlFrame { s with watchdog := t.watchdog } t ∧
      ∀ q, (t.ports.get q).posted.faultChanged = true ∨ s.stc.faults.plain.supervisorSilent = true)

/-- The port units' own requests: CFG_PORTS stores the presence timeouts clamped to 10 to 120 s, a panel silent for that long
being ABSENT at once, and the watchdog timeout clamped to 1 to 20 units, and returns them; LOCKOUT refuses it; EVENTS_CLEAR takes
classes out of the requester's pending set, EVENTS_MASK replaces its mask; COUNTERS_CLEAR sets its counters to 0 (R194, R197,
R198, R200). -/
def Obligations.PortRequestsAreTaken : Prop :=
  ∀ s : State, s.LinesFollow → s.stc.op ≠ .selftest →
    (∀ a b w : Nat, ∃ t, exec (.cfgPorts .supervisor (some a) (some b) (some w)) s = .next t ∧
      (s.stc.op = .lockout → OnlyReplied .supervisor 0xC7 .refusedState [] s t) ∧
      (s.stc.op ≠ .lockout →
        t.presence.a = { s.presence.a with
          timeout := max 10 (min 120 a)
          present := s.presence.a.present && !(s.presence.a.silence.any fun m => max 10 (min 120 a) * 1000 ≤ m) } ∧
        t.presence.b = { s.presence.b with
          timeout := max 10 (min 120 b)
          present := s.presence.b.present && !(s.presence.b.silence.any fun m => max 10 (min 120 b) * 1000 ≤ m) } ∧
        t = { s with presence := t.presence, watchdog := { s.watchdog with timeout := max 1 (min 20 w) }
                     tme := t.tme, squ := t.squ, ports := t.ports, pins := t.pins } ∧
        (t.presence.a.present = s.presence.a.present → t.presence.b.present = s.presence.b.present →
          t.tme = s.tme ∧ t.squ = s.squ ∧ PortsAfter (some .supervisor) noPosts s t) ∧
        t.Replied .supervisor 0xC7 .ok
          [byteOf (max 10 (min 120 a)), byteOf (max 10 (min 120 b)), byteOf (max 1 (min 20 w))])) ∧
    ∀ (p : Port),
      (∀ n, 0 < n → n < 4096 → ∃ t, exec (.eventsClear p n) s = .next t ∧
        t = { s with ports := t.ports, pins := t.pins } ∧
        (∀ q c, (t.ports.get q).posted.get c =
          ((s.ports.get q).posted.get c && !(q = p && n.testBit c.index))) ∧
        (∀ q, (t.ports.get q).eventMask = (s.ports.get q).eventMask) ∧
        t.Replied p 0xD9 .ok (encEvents (t.ports.get p).posted)) ∧
      (∀ n, n < 4096 → ∃ t, exec (.eventsMask p n) s = .next t ∧
        t = { s with ports := t.ports, pins := t.pins } ∧
        (∀ q c, (t.ports.get q).eventMask.get c = if q = p then n.testBit c.index else (s.ports.get q).eventMask.get c) ∧
        (∀ q, (t.ports.get q).posted = (s.ports.get q).posted) ∧
        t.Replied p 0xDA .ok (encEvents (t.ports.get p).eventMask)) ∧
      ∃ t, exec (.countersClear p) s = .next t ∧ t = { s with ports := t.ports } ∧
        (∀ q, (t.ports.get q).counters = if q = p then
          { gap := 0, crcErr := 0, overrun := 0, frameErr := 0, breaks := 0 } else (s.ports.get q).counters) ∧
        (∀ q, (t.ports.get q).posted = (s.ports.get q).posted) ∧ t.Replied p 0xDC .ok []

end Statements
end

