-- ==== Sys2Proof/Laws/State.lean ====
section
/-! SUPPORT. One lemma for each field of State and each replacement of a field, and the two ways of replacing a field
twice. -/

namespace Sys2Proof.Machine.State

variable (s : State)

section
variable (v w : Tbu)
@[simp] theorem setTbu_tbu : (s.setTbu v).tbu = v := rfl
@[simp] theorem setTbu_ptc : (s.setTbu v).ptc = s.ptc := rfl
@[simp] theorem setTbu_tme : (s.setTbu v).tme = s.tme := rfl
@[simp] theorem setTbu_squ : (s.setTbu v).squ = s.squ := rfl
@[simp] theorem setTbu_pmc : (s.setTbu v).pmc = s.pmc := rfl
@[simp] theorem setTbu_spl : (s.setTbu v).spl = s.spl := rfl
@[simp] theorem setTbu_dru : (s.setTbu v).dru = s.dru := rfl
@[simp] theorem setTbu_snu : (s.setTbu v).snu = s.snu := rfl
@[simp] theorem setTbu_alc : (s.setTbu v).alc = s.alc := rfl
@[simp] theorem setTbu_stc : (s.setTbu v).stc = s.stc := rfl
@[simp] theorem setTbu_ports : (s.setTbu v).ports = s.ports := rfl
@[simp] theorem setTbu_presence : (s.setTbu v).presence = s.presence := rfl
@[simp] theorem setTbu_watchdog : (s.setTbu v).watchdog = s.watchdog := rfl
@[simp] theorem setTbu_pins : (s.setTbu v).pins = s.pins := rfl
@[simp] theorem setTbu_free : (s.setTbu v).free = s.free := rfl
@[simp] theorem setTbu_pending : (s.setTbu v).pending = s.pending := rfl
@[simp] theorem setTbu_twice : (s.setTbu v).setTbu w = s.setTbu w := rfl
@[simp] theorem setTbu_same : s.setTbu s.tbu = s := rfl
end

section
variable (v w : Ptc)
@[simp] theorem setPtc_tbu : (s.setPtc v).tbu = s.tbu := rfl
@[simp] theorem setPtc_ptc : (s.setPtc v).ptc = v := rfl
@[simp] theorem setPtc_tme : (s.setPtc v).tme = s.tme := rfl
@[simp] theorem setPtc_squ : (s.setPtc v).squ = s.squ := rfl
@[simp] theorem setPtc_pmc : (s.setPtc v).pmc = s.pmc := rfl
@[simp] theorem setPtc_spl : (s.setPtc v).spl = s.spl := rfl
@[simp] theorem setPtc_dru : (s.setPtc v).dru = s.dru := rfl
@[simp] theorem setPtc_snu : (s.setPtc v).snu = s.snu := rfl
@[simp] theorem setPtc_alc : (s.setPtc v).alc = s.alc := rfl
@[simp] theorem setPtc_stc : (s.setPtc v).stc = s.stc := rfl
@[simp] theorem setPtc_ports : (s.setPtc v).ports = s.ports := rfl
@[simp] theorem setPtc_presence : (s.setPtc v).presence = s.presence := rfl
@[simp] theorem setPtc_watchdog : (s.setPtc v).watchdog = s.watchdog := rfl
@[simp] theorem setPtc_pins : (s.setPtc v).pins = s.pins := rfl
@[simp] theorem setPtc_free : (s.setPtc v).free = s.free := rfl
@[simp] theorem setPtc_pending : (s.setPtc v).pending = s.pending := rfl
@[simp] theorem setPtc_twice : (s.setPtc v).setPtc w = s.setPtc w := rfl
@[simp] theorem setPtc_same : s.setPtc s.ptc = s := rfl
end

section
variable (v w : Tme)
@[simp] theorem setTme_tbu : (s.setTme v).tbu = s.tbu := rfl
@[simp] theorem setTme_ptc : (s.setTme v).ptc = s.ptc := rfl
@[simp] theorem setTme_tme : (s.setTme v).tme = v := rfl
@[simp] theorem setTme_squ : (s.setTme v).squ = s.squ := rfl
@[simp] theorem setTme_pmc : (s.setTme v).pmc = s.pmc := rfl
@[simp] theorem setTme_spl : (s.setTme v).spl = s.spl := rfl
@[simp] theorem setTme_dru : (s.setTme v).dru = s.dru := rfl
@[simp] theorem setTme_snu : (s.setTme v).snu = s.snu := rfl
@[simp] theorem setTme_alc : (s.setTme v).alc = s.alc := rfl
@[simp] theorem setTme_stc : (s.setTme v).stc = s.stc := rfl
@[simp] theorem setTme_ports : (s.setTme v).ports = s.ports := rfl
@[simp] theorem setTme_presence : (s.setTme v).presence = s.presence := rfl
@[simp] theorem setTme_watchdog : (s.setTme v).watchdog = s.watchdog := rfl
@[simp] theorem setTme_pins : (s.setTme v).pins = s.pins := rfl
@[simp] theorem setTme_free : (s.setTme v).free = s.free := rfl
@[simp] theorem setTme_pending : (s.setTme v).pending = s.pending := rfl
@[simp] theorem setTme_twice : (s.setTme v).setTme w = s.setTme w := rfl
@[simp] theorem setTme_same : s.setTme s.tme = s := rfl
end

section
variable (v w : PerSeq Channel)
@[simp] theorem setSqu_tbu : (s.setSqu v).tbu = s.tbu := rfl
@[simp] theorem setSqu_ptc : (s.setSqu v).ptc = s.ptc := rfl
@[simp] theorem setSqu_tme : (s.setSqu v).tme = s.tme := rfl
@[simp] theorem setSqu_squ : (s.setSqu v).squ = v := rfl
@[simp] theorem setSqu_pmc : (s.setSqu v).pmc = s.pmc := rfl
@[simp] theorem setSqu_spl : (s.setSqu v).spl = s.spl := rfl
@[simp] theorem setSqu_dru : (s.setSqu v).dru = s.dru := rfl
@[simp] theorem setSqu_snu : (s.setSqu v).snu = s.snu := rfl
@[simp] theorem setSqu_alc : (s.setSqu v).alc = s.alc := rfl
@[simp] theorem setSqu_stc : (s.setSqu v).stc = s.stc := rfl
@[simp] theorem setSqu_ports : (s.setSqu v).ports = s.ports := rfl
@[simp] theorem setSqu_presence : (s.setSqu v).presence = s.presence := rfl
@[simp] theorem setSqu_watchdog : (s.setSqu v).watchdog = s.watchdog := rfl
@[simp] theorem setSqu_pins : (s.setSqu v).pins = s.pins := rfl
@[simp] theorem setSqu_free : (s.setSqu v).free = s.free := rfl
@[simp] theorem setSqu_pending : (s.setSqu v).pending = s.pending := rfl
@[simp] theorem setSqu_twice : (s.setSqu v).setSqu w = s.setSqu w := rfl
@[simp] theorem setSqu_same : s.setSqu s.squ = s := rfl
end

section
variable (v w : Pmc)
@[simp] theorem setPmc_tbu : (s.setPmc v).tbu = s.tbu := rfl
@[simp] theorem setPmc_ptc : (s.setPmc v).ptc = s.ptc := rfl
@[simp] theorem setPmc_tme : (s.setPmc v).tme = s.tme := rfl
@[simp] theorem setPmc_squ : (s.setPmc v).squ = s.squ := rfl
@[simp] theorem setPmc_pmc : (s.setPmc v).pmc = v := rfl
@[simp] theorem setPmc_spl : (s.setPmc v).spl = s.spl := rfl
@[simp] theorem setPmc_dru : (s.setPmc v).dru = s.dru := rfl
@[simp] theorem setPmc_snu : (s.setPmc v).snu = s.snu := rfl
@[simp] theorem setPmc_alc : (s.setPmc v).alc = s.alc := rfl
@[simp] theorem setPmc_stc : (s.setPmc v).stc = s.stc := rfl
@[simp] theorem setPmc_ports : (s.setPmc v).ports = s.ports := rfl
@[simp] theorem setPmc_presence : (s.setPmc v).presence = s.presence := rfl
@[simp] theorem setPmc_watchdog : (s.setPmc v).watchdog = s.watchdog := rfl
@[simp] theorem setPmc_pins : (s.setPmc v).pins = s.pins := rfl
@[simp] theorem setPmc_free : (s.setPmc v).free = s.free := rfl
@[simp] theorem setPmc_pending : (s.setPmc v).pending = s.pending := rfl
@[simp] theorem setPmc_twice : (s.setPmc v).setPmc w = s.setPmc w := rfl
@[simp] theorem setPmc_same : s.setPmc s.pmc = s := rfl
end

section
variable (v w : Spl)
@[simp] theorem setSpl_tbu : (s.setSpl v).tbu = s.tbu := rfl
@[simp] theorem setSpl_ptc : (s.setSpl v).ptc = s.ptc := rfl
@[simp] theorem setSpl_tme : (s.setSpl v).tme = s.tme := rfl
@[simp] theorem setSpl_squ : (s.setSpl v).squ = s.squ := rfl
@[simp] theorem setSpl_pmc : (s.setSpl v).pmc = s.pmc := rfl
@[simp] theorem setSpl_spl : (s.setSpl v).spl = v := rfl
@[simp] theorem setSpl_dru : (s.setSpl v).dru = s.dru := rfl
@[simp] theorem setSpl_snu : (s.setSpl v).snu = s.snu := rfl
@[simp] theorem setSpl_alc : (s.setSpl v).alc = s.alc := rfl
@[simp] theorem setSpl_stc : (s.setSpl v).stc = s.stc := rfl
@[simp] theorem setSpl_ports : (s.setSpl v).ports = s.ports := rfl
@[simp] theorem setSpl_presence : (s.setSpl v).presence = s.presence := rfl
@[simp] theorem setSpl_watchdog : (s.setSpl v).watchdog = s.watchdog := rfl
@[simp] theorem setSpl_pins : (s.setSpl v).pins = s.pins := rfl
@[simp] theorem setSpl_free : (s.setSpl v).free = s.free := rfl
@[simp] theorem setSpl_pending : (s.setSpl v).pending = s.pending := rfl
@[simp] theorem setSpl_twice : (s.setSpl v).setSpl w = s.setSpl w := rfl
@[simp] theorem setSpl_same : s.setSpl s.spl = s := rfl
end

section
variable (v w : Dru)
@[simp] theorem setDru_tbu : (s.setDru v).tbu = s.tbu := rfl
@[simp] theorem setDru_ptc : (s.setDru v).ptc = s.ptc := rfl
@[simp] theorem setDru_tme : (s.setDru v).tme = s.tme := rfl
@[simp] theorem setDru_squ : (s.setDru v).squ = s.squ := rfl
@[simp] theorem setDru_pmc : (s.setDru v).pmc = s.pmc := rfl
@[simp] theorem setDru_spl : (s.setDru v).spl = s.spl := rfl
@[simp] theorem setDru_dru : (s.setDru v).dru = v := rfl
@[simp] theorem setDru_snu : (s.setDru v).snu = s.snu := rfl
@[simp] theorem setDru_alc : (s.setDru v).alc = s.alc := rfl
@[simp] theorem setDru_stc : (s.setDru v).stc = s.stc := rfl
@[simp] theorem setDru_ports : (s.setDru v).ports = s.ports := rfl
@[simp] theorem setDru_presence : (s.setDru v).presence = s.presence := rfl
@[simp] theorem setDru_watchdog : (s.setDru v).watchdog = s.watchdog := rfl
@[simp] theorem setDru_pins : (s.setDru v).pins = s.pins := rfl
@[simp] theorem setDru_free : (s.setDru v).free = s.free := rfl
@[simp] theorem setDru_pending : (s.setDru v).pending = s.pending := rfl
@[simp] theorem setDru_twice : (s.setDru v).setDru w = s.setDru w := rfl
@[simp] theorem setDru_same : s.setDru s.dru = s := rfl
end

section
variable (v w : Snu)
@[simp] theorem setSnu_tbu : (s.setSnu v).tbu = s.tbu := rfl
@[simp] theorem setSnu_ptc : (s.setSnu v).ptc = s.ptc := rfl
@[simp] theorem setSnu_tme : (s.setSnu v).tme = s.tme := rfl
@[simp] theorem setSnu_squ : (s.setSnu v).squ = s.squ := rfl
@[simp] theorem setSnu_pmc : (s.setSnu v).pmc = s.pmc := rfl
@[simp] theorem setSnu_spl : (s.setSnu v).spl = s.spl := rfl
@[simp] theorem setSnu_dru : (s.setSnu v).dru = s.dru := rfl
@[simp] theorem setSnu_snu : (s.setSnu v).snu = v := rfl
@[simp] theorem setSnu_alc : (s.setSnu v).alc = s.alc := rfl
@[simp] theorem setSnu_stc : (s.setSnu v).stc = s.stc := rfl
@[simp] theorem setSnu_ports : (s.setSnu v).ports = s.ports := rfl
@[simp] theorem setSnu_presence : (s.setSnu v).presence = s.presence := rfl
@[simp] theorem setSnu_watchdog : (s.setSnu v).watchdog = s.watchdog := rfl
@[simp] theorem setSnu_pins : (s.setSnu v).pins = s.pins := rfl
@[simp] theorem setSnu_free : (s.setSnu v).free = s.free := rfl
@[simp] theorem setSnu_pending : (s.setSnu v).pending = s.pending := rfl
@[simp] theorem setSnu_twice : (s.setSnu v).setSnu w = s.setSnu w := rfl
@[simp] theorem setSnu_same : s.setSnu s.snu = s := rfl
end

section
variable (v w : Alc)
@[simp] theorem setAlc_tbu : (s.setAlc v).tbu = s.tbu := rfl
@[simp] theorem setAlc_ptc : (s.setAlc v).ptc = s.ptc := rfl
@[simp] theorem setAlc_tme : (s.setAlc v).tme = s.tme := rfl
@[simp] theorem setAlc_squ : (s.setAlc v).squ = s.squ := rfl
@[simp] theorem setAlc_pmc : (s.setAlc v).pmc = s.pmc := rfl
@[simp] theorem setAlc_spl : (s.setAlc v).spl = s.spl := rfl
@[simp] theorem setAlc_dru : (s.setAlc v).dru = s.dru := rfl
@[simp] theorem setAlc_snu : (s.setAlc v).snu = s.snu := rfl
@[simp] theorem setAlc_alc : (s.setAlc v).alc = v := rfl
@[simp] theorem setAlc_stc : (s.setAlc v).stc = s.stc := rfl
@[simp] theorem setAlc_ports : (s.setAlc v).ports = s.ports := rfl
@[simp] theorem setAlc_presence : (s.setAlc v).presence = s.presence := rfl
@[simp] theorem setAlc_watchdog : (s.setAlc v).watchdog = s.watchdog := rfl
@[simp] theorem setAlc_pins : (s.setAlc v).pins = s.pins := rfl
@[simp] theorem setAlc_free : (s.setAlc v).free = s.free := rfl
@[simp] theorem setAlc_pending : (s.setAlc v).pending = s.pending := rfl
@[simp] theorem setAlc_twice : (s.setAlc v).setAlc w = s.setAlc w := rfl
@[simp] theorem setAlc_same : s.setAlc s.alc = s := rfl
end

section
variable (v w : Stc)
@[simp] theorem setStc_tbu : (s.setStc v).tbu = s.tbu := rfl
@[simp] theorem setStc_ptc : (s.setStc v).ptc = s.ptc := rfl
@[simp] theorem setStc_tme : (s.setStc v).tme = s.tme := rfl
@[simp] theorem setStc_squ : (s.setStc v).squ = s.squ := rfl
@[simp] theorem setStc_pmc : (s.setStc v).pmc = s.pmc := rfl
@[simp] theorem setStc_spl : (s.setStc v).spl = s.spl := rfl
@[simp] theorem setStc_dru : (s.setStc v).dru = s.dru := rfl
@[simp] theorem setStc_snu : (s.setStc v).snu = s.snu := rfl
@[simp] theorem setStc_alc : (s.setStc v).alc = s.alc := rfl
@[simp] theorem setStc_stc : (s.setStc v).stc = v := rfl
@[simp] theorem setStc_ports : (s.setStc v).ports = s.ports := rfl
@[simp] theorem setStc_presence : (s.setStc v).presence = s.presence := rfl
@[simp] theorem setStc_watchdog : (s.setStc v).watchdog = s.watchdog := rfl
@[simp] theorem setStc_pins : (s.setStc v).pins = s.pins := rfl
@[simp] theorem setStc_free : (s.setStc v).free = s.free := rfl
@[simp] theorem setStc_pending : (s.setStc v).pending = s.pending := rfl
@[simp] theorem setStc_twice : (s.setStc v).setStc w = s.setStc w := rfl
@[simp] theorem setStc_same : s.setStc s.stc = s := rfl
end

section
variable (v w : PerPort PortUnit)
@[simp] theorem setPorts_tbu : (s.setPorts v).tbu = s.tbu := rfl
@[simp] theorem setPorts_ptc : (s.setPorts v).ptc = s.ptc := rfl
@[simp] theorem setPorts_tme : (s.setPorts v).tme = s.tme := rfl
@[simp] theorem setPorts_squ : (s.setPorts v).squ = s.squ := rfl
@[simp] theorem setPorts_pmc : (s.setPorts v).pmc = s.pmc := rfl
@[simp] theorem setPorts_spl : (s.setPorts v).spl = s.spl := rfl
@[simp] theorem setPorts_dru : (s.setPorts v).dru = s.dru := rfl
@[simp] theorem setPorts_snu : (s.setPorts v).snu = s.snu := rfl
@[simp] theorem setPorts_alc : (s.setPorts v).alc = s.alc := rfl
@[simp] theorem setPorts_stc : (s.setPorts v).stc = s.stc := rfl
@[simp] theorem setPorts_ports : (s.setPorts v).ports = v := rfl
@[simp] theorem setPorts_presence : (s.setPorts v).presence = s.presence := rfl
@[simp] theorem setPorts_watchdog : (s.setPorts v).watchdog = s.watchdog := rfl
@[simp] theorem setPorts_pins : (s.setPorts v).pins = s.pins := rfl
@[simp] theorem setPorts_free : (s.setPorts v).free = s.free := rfl
@[simp] theorem setPorts_pending : (s.setPorts v).pending = s.pending := rfl
@[simp] theorem setPorts_twice : (s.setPorts v).setPorts w = s.setPorts w := rfl
@[simp] theorem setPorts_same : s.setPorts s.ports = s := rfl
end

section
variable (v w : PerPanel Presence)
@[simp] theorem setPresence_tbu : (s.setPresence v).tbu = s.tbu := rfl
@[simp] theorem setPresence_ptc : (s.setPresence v).ptc = s.ptc := rfl
@[simp] theorem setPresence_tme : (s.setPresence v).tme = s.tme := rfl
@[simp] theorem setPresence_squ : (s.setPresence v).squ = s.squ := rfl
@[simp] theorem setPresence_pmc : (s.setPresence v).pmc = s.pmc := rfl
@[simp] theorem setPresence_spl : (s.setPresence v).spl = s.spl := rfl
@[simp] theorem setPresence_dru : (s.setPresence v).dru = s.dru := rfl
@[simp] theorem setPresence_snu : (s.setPresence v).snu = s.snu := rfl
@[simp] theorem setPresence_alc : (s.setPresence v).alc = s.alc := rfl
@[simp] theorem setPresence_stc : (s.setPresence v).stc = s.stc := rfl
@[simp] theorem setPresence_ports : (s.setPresence v).ports = s.ports := rfl
@[simp] theorem setPresence_presence : (s.setPresence v).presence = v := rfl
@[simp] theorem setPresence_watchdog : (s.setPresence v).watchdog = s.watchdog := rfl
@[simp] theorem setPresence_pins : (s.setPresence v).pins = s.pins := rfl
@[simp] theorem setPresence_free : (s.setPresence v).free = s.free := rfl
@[simp] theorem setPresence_pending : (s.setPresence v).pending = s.pending := rfl
@[simp] theorem setPresence_twice : (s.setPresence v).setPresence w = s.setPresence w := rfl
@[simp] theorem setPresence_same : s.setPresence s.presence = s := rfl
end

section
variable (v w : Watchdog)
@[simp] theorem setWatchdog_tbu : (s.setWatchdog v).tbu = s.tbu := rfl
@[simp] theorem setWatchdog_ptc : (s.setWatchdog v).ptc = s.ptc := rfl
@[simp] theorem setWatchdog_tme : (s.setWatchdog v).tme = s.tme := rfl
@[simp] theorem setWatchdog_squ : (s.setWatchdog v).squ = s.squ := rfl
@[simp] theorem setWatchdog_pmc : (s.setWatchdog v).pmc = s.pmc := rfl
@[simp] theorem setWatchdog_spl : (s.setWatchdog v).spl = s.spl := rfl
@[simp] theorem setWatchdog_dru : (s.setWatchdog v).dru = s.dru := rfl
@[simp] theorem setWatchdog_snu : (s.setWatchdog v).snu = s.snu := rfl
@[simp] theorem setWatchdog_alc : (s.setWatchdog v).alc = s.alc := rfl
@[simp] theorem setWatchdog_stc : (s.setWatchdog v).stc = s.stc := rfl
@[simp] theorem setWatchdog_ports : (s.setWatchdog v).ports = s.ports := rfl
@[simp] theorem setWatchdog_presence : (s.setWatchdog v).presence = s.presence := rfl
@[simp] theorem setWatchdog_watchdog : (s.setWatchdog v).watchdog = v := rfl
@[simp] theorem setWatchdog_pins : (s.setWatchdog v).pins = s.pins := rfl
@[simp] theorem setWatchdog_free : (s.setWatchdog v).free = s.free := rfl
@[simp] theorem setWatchdog_pending : (s.setWatchdog v).pending = s.pending := rfl
@[simp] theorem setWatchdog_twice : (s.setWatchdog v).setWatchdog w = s.setWatchdog w := rfl
@[simp] theorem setWatchdog_same : s.setWatchdog s.watchdog = s := rfl
end

section
variable (v w : Pins)
@[simp] theorem setPins_tbu : (s.setPins v).tbu = s.tbu := rfl
@[simp] theorem setPins_ptc : (s.setPins v).ptc = s.ptc := rfl
@[simp] theorem setPins_tme : (s.setPins v).tme = s.tme := rfl
@[simp] theorem setPins_squ : (s.setPins v).squ = s.squ := rfl
@[simp] theorem setPins_pmc : (s.setPins v).pmc = s.pmc := rfl
@[simp] theorem setPins_spl : (s.setPins v).spl = s.spl := rfl
@[simp] theorem setPins_dru : (s.setPins v).dru = s.dru := rfl
@[simp] theorem setPins_snu : (s.setPins v).snu = s.snu := rfl
@[simp] theorem setPins_alc : (s.setPins v).alc = s.alc := rfl
@[simp] theorem setPins_stc : (s.setPins v).stc = s.stc := rfl
@[simp] theorem setPins_ports : (s.setPins v).ports = s.ports := rfl
@[simp] theorem setPins_presence : (s.setPins v).presence = s.presence := rfl
@[simp] theorem setPins_watchdog : (s.setPins v).watchdog = s.watchdog := rfl
@[simp] theorem setPins_pins : (s.setPins v).pins = v := rfl
@[simp] theorem setPins_free : (s.setPins v).free = s.free := rfl
@[simp] theorem setPins_pending : (s.setPins v).pending = s.pending := rfl
@[simp] theorem setPins_twice : (s.setPins v).setPins w = s.setPins w := rfl
@[simp] theorem setPins_same : s.setPins s.pins = s := rfl
end

section
variable (v w : Nat)
@[simp] theorem setFree_tbu : (s.setFree v).tbu = s.tbu := rfl
@[simp] theorem setFree_ptc : (s.setFree v).ptc = s.ptc := rfl
@[simp] theorem setFree_tme : (s.setFree v).tme = s.tme := rfl
@[simp] theorem setFree_squ : (s.setFree v).squ = s.squ := rfl
@[simp] theorem setFree_pmc : (s.setFree v).pmc = s.pmc := rfl
@[simp] theorem setFree_spl : (s.setFree v).spl = s.spl := rfl
@[simp] theorem setFree_dru : (s.setFree v).dru = s.dru := rfl
@[simp] theorem setFree_snu : (s.setFree v).snu = s.snu := rfl
@[simp] theorem setFree_alc : (s.setFree v).alc = s.alc := rfl
@[simp] theorem setFree_stc : (s.setFree v).stc = s.stc := rfl
@[simp] theorem setFree_ports : (s.setFree v).ports = s.ports := rfl
@[simp] theorem setFree_presence : (s.setFree v).presence = s.presence := rfl
@[simp] theorem setFree_watchdog : (s.setFree v).watchdog = s.watchdog := rfl
@[simp] theorem setFree_pins : (s.setFree v).pins = s.pins := rfl
@[simp] theorem setFree_free : (s.setFree v).free = v := rfl
@[simp] theorem setFree_pending : (s.setFree v).pending = s.pending := rfl
@[simp] theorem setFree_twice : (s.setFree v).setFree w = s.setFree w := rfl
@[simp] theorem setFree_same : s.setFree s.free = s := rfl
end

section
variable (v w : List Instr)
@[simp] theorem setPending_tbu : (s.setPending v).tbu = s.tbu := rfl
@[simp] theorem setPending_ptc : (s.setPending v).ptc = s.ptc := rfl
@[simp] theorem setPending_tme : (s.setPending v).tme = s.tme := rfl
@[simp] theorem setPending_squ : (s.setPending v).squ = s.squ := rfl
@[simp] theorem setPending_pmc : (s.setPending v).pmc = s.pmc := rfl
@[simp] theorem setPending_spl : (s.setPending v).spl = s.spl := rfl
@[simp] theorem setPending_dru : (s.setPending v).dru = s.dru := rfl
@[simp] theorem setPending_snu : (s.setPending v).snu = s.snu := rfl
@[simp] theorem setPending_alc : (s.setPending v).alc = s.alc := rfl
@[simp] theorem setPending_stc : (s.setPending v).stc = s.stc := rfl
@[simp] theorem setPending_ports : (s.setPending v).ports = s.ports := rfl
@[simp] theorem setPending_presence : (s.setPending v).presence = s.presence := rfl
@[simp] theorem setPending_watchdog : (s.setPending v).watchdog = s.watchdog := rfl
@[simp] theorem setPending_pins : (s.setPending v).pins = s.pins := rfl
@[simp] theorem setPending_free : (s.setPending v).free = s.free := rfl
@[simp] theorem setPending_pending : (s.setPending v).pending = v := rfl
@[simp] theorem setPending_twice : (s.setPending v).setPending w = s.setPending w := rfl
@[simp] theorem setPending_same : s.setPending s.pending = s := rfl
end

end Sys2Proof.Machine.State
end

