-- ==== Sys2Proof/Laws/Tables.lean ====
section
/-! SUPPORT. The laws of the per-name tables: reading back what a table was made of or what was set, and equality of
tables whose values agree. -/

namespace Sys2Proof

@[simp] theorem PerPort.get_of {α : Type} (f : Port → α) (i : Port) : (PerPort.of f).get i = f i := by cases i <;> rfl

@[simp] theorem PerPort.get_set_self {α : Type} (t : PerPort α) (i : Port) (v : α) : (t.set i v).get i = v := by cases i <;> rfl

theorem PerPort.get_set_ne {α : Type} (t : PerPort α) {i j : Port} (v : α) (h : j ≠ i) : (t.set i v).get j = t.get j := by
  cases i <;> cases j <;> first | rfl | exact absurd rfl h

theorem PerPort.get_set {α : Type} (t : PerPort α) (i j : Port) (v : α) : (t.set i v).get j = if j = i then v else t.get j := by
  cases i <;> cases j <;> rfl

theorem PerPort.eq_of_get {α : Type} {t u : PerPort α} (h : ∀ i, t.get i = u.get i) : t = u := by
  cases t; cases u
  simpa only [PerPort.mk.injEq] using ⟨h .panelA, h .panelB, h .supervisor⟩

theorem Port.all_index (i : Port) : Port.all[i.index]? = some i := by cases i <;> rfl

theorem Port.mem_all (i : Port) : i ∈ Port.all := by cases i <;> decide

@[simp] theorem PerPanel.get_of {α : Type} (f : Panel → α) (i : Panel) : (PerPanel.of f).get i = f i := by cases i <;> rfl

@[simp] theorem PerPanel.get_set_self {α : Type} (t : PerPanel α) (i : Panel) (v : α) : (t.set i v).get i = v := by cases i <;> rfl

theorem PerPanel.get_set_ne {α : Type} (t : PerPanel α) {i j : Panel} (v : α) (h : j ≠ i) : (t.set i v).get j = t.get j := by
  cases i <;> cases j <;> first | rfl | exact absurd rfl h

theorem PerPanel.get_set {α : Type} (t : PerPanel α) (i j : Panel) (v : α) : (t.set i v).get j = if j = i then v else t.get j := by
  cases i <;> cases j <;> rfl

theorem PerPanel.eq_of_get {α : Type} {t u : PerPanel α} (h : ∀ i, t.get i = u.get i) : t = u := by
  cases t; cases u
  simpa only [PerPanel.mk.injEq] using ⟨h .a, h .b⟩

theorem Panel.all_index (i : Panel) : Panel.all[i.index]? = some i := by cases i <;> rfl

theorem Panel.mem_all (i : Panel) : i ∈ Panel.all := by cases i <;> decide

@[simp] theorem PerLoad.get_of {α : Type} (f : Load → α) (i : Load) : (PerLoad.of f).get i = f i := by cases i <;> rfl

@[simp] theorem PerLoad.get_set_self {α : Type} (t : PerLoad α) (i : Load) (v : α) : (t.set i v).get i = v := by cases i <;> rfl

theorem PerLoad.get_set_ne {α : Type} (t : PerLoad α) {i j : Load} (v : α) (h : j ≠ i) : (t.set i v).get j = t.get j := by
  cases i <;> cases j <;> first | rfl | exact absurd rfl h

theorem PerLoad.get_set {α : Type} (t : PerLoad α) (i j : Load) (v : α) : (t.set i v).get j = if j = i then v else t.get j := by
  cases i <;> cases j <;> rfl

theorem PerLoad.eq_of_get {α : Type} {t u : PerLoad α} (h : ∀ i, t.get i = u.get i) : t = u := by
  cases t; cases u
  simpa only [PerLoad.mk.injEq] using ⟨h .l0, h .l1, h .l2, h .l3, h .l4, h .l5, h .l6⟩

theorem Load.all_index (i : Load) : Load.all[i.index]? = some i := by cases i <;> rfl

theorem Load.mem_all (i : Load) : i ∈ Load.all := by cases i <;> decide

@[simp] theorem PerGas.get_of {α : Type} (f : Gas → α) (i : Gas) : (PerGas.of f).get i = f i := by cases i <;> rfl

@[simp] theorem PerGas.get_set_self {α : Type} (t : PerGas α) (i : Gas) (v : α) : (t.set i v).get i = v := by cases i <;> rfl

theorem PerGas.get_set_ne {α : Type} (t : PerGas α) {i j : Gas} (v : α) (h : j ≠ i) : (t.set i v).get j = t.get j := by
  cases i <;> cases j <;> first | rfl | exact absurd rfl h

theorem PerGas.get_set {α : Type} (t : PerGas α) (i j : Gas) (v : α) : (t.set i v).get j = if j = i then v else t.get j := by
  cases i <;> cases j <;> rfl

theorem PerGas.eq_of_get {α : Type} {t u : PerGas α} (h : ∀ i, t.get i = u.get i) : t = u := by
  cases t; cases u
  simpa only [PerGas.mk.injEq] using ⟨h .z1, h .z2, h .z3, h .z4, h .z5⟩

theorem Gas.all_index (i : Gas) : Gas.all[i.index]? = some i := by cases i <;> rfl

theorem Gas.mem_all (i : Gas) : i ∈ Gas.all := by cases i <;> decide

@[simp] theorem PerPoint.get_of {α : Type} (f : Point → α) (i : Point) : (PerPoint.of f).get i = f i := by cases i <;> rfl

@[simp] theorem PerPoint.get_set_self {α : Type} (t : PerPoint α) (i : Point) (v : α) : (t.set i v).get i = v := by cases i <;> rfl

theorem PerPoint.get_set_ne {α : Type} (t : PerPoint α) {i j : Point} (v : α) (h : j ≠ i) : (t.set i v).get j = t.get j := by
  cases i <;> cases j <;> first | rfl | exact absurd rfl h

theorem PerPoint.get_set {α : Type} (t : PerPoint α) (i j : Point) (v : α) : (t.set i v).get j = if j = i then v else t.get j := by
  cases i <;> cases j <;> rfl

theorem PerPoint.eq_of_get {α : Type} {t u : PerPoint α} (h : ∀ i, t.get i = u.get i) : t = u := by
  cases t; cases u
  simpa only [PerPoint.mk.injEq] using ⟨h .z1, h .z2, h .z3, h .z4, h .z5, h .z6, h .z7, h .ov, h .gr⟩

theorem Point.all_index (i : Point) : Point.all[i.index]? = some i := by cases i <;> rfl

theorem Point.mem_all (i : Point) : i ∈ Point.all := by cases i <;> decide

@[simp] theorem PerReason.get_of {α : Type} (f : Reason → α) (i : Reason) : (PerReason.of f).get i = f i := by cases i <;> rfl

@[simp] theorem PerReason.get_set_self {α : Type} (t : PerReason α) (i : Reason) (v : α) : (t.set i v).get i = v := by cases i <;> rfl

theorem PerReason.get_set_ne {α : Type} (t : PerReason α) {i j : Reason} (v : α) (h : j ≠ i) : (t.set i v).get j = t.get j := by
  cases i <;> cases j <;> first | rfl | exact absurd rfl h

theorem PerReason.get_set {α : Type} (t : PerReason α) (i j : Reason) (v : α) : (t.set i v).get j = if j = i then v else t.get j := by
  cases i <;> cases j <;> rfl

theorem PerReason.eq_of_get {α : Type} {t u : PerReason α} (h : ∀ i, t.get i = u.get i) : t = u := by
  cases t; cases u
  simpa only [PerReason.mk.injEq] using ⟨h .delay, h .timerOff, h .halted, h .fault, h .overtemp⟩

theorem Reason.all_index (i : Reason) : Reason.all[i.index]? = some i := by cases i <;> rfl

theorem Reason.mem_all (i : Reason) : i ∈ Reason.all := by cases i <;> decide

@[simp] theorem PerPause.get_of {α : Type} (f : PauseCause → α) (i : PauseCause) : (PerPause.of f).get i = f i := by cases i <;> rfl

@[simp] theorem PerPause.get_set_self {α : Type} (t : PerPause α) (i : PauseCause) (v : α) : (t.set i v).get i = v := by cases i <;> rfl

theorem PerPause.get_set_ne {α : Type} (t : PerPause α) {i j : PauseCause} (v : α) (h : j ≠ i) : (t.set i v).get j = t.get j := by
  cases i <;> cases j <;> first | rfl | exact absurd rfl h

theorem PerPause.get_set {α : Type} (t : PerPause α) (i j : PauseCause) (v : α) : (t.set i v).get j = if j = i then v else t.get j := by
  cases i <;> cases j <;> rfl

theorem PerPause.eq_of_get {α : Type} {t u : PerPause α} (h : ∀ i, t.get i = u.get i) : t = u := by
  cases t; cases u
  simpa only [PerPause.mk.injEq] using ⟨h .user, h .halt⟩

theorem PauseCause.all_index (i : PauseCause) : PauseCause.all[i.index]? = some i := by cases i <;> rfl

theorem PauseCause.mem_all (i : PauseCause) : i ∈ PauseCause.all := by cases i <;> decide

@[simp] theorem PerSeq.get_of {α : Type} (f : SeqChan → α) (i : SeqChan) : (PerSeq.of f).get i = f i := by cases i <;> rfl

@[simp] theorem PerSeq.get_set_self {α : Type} (t : PerSeq α) (i : SeqChan) (v : α) : (t.set i v).get i = v := by cases i <;> rfl

theorem PerSeq.get_set_ne {α : Type} (t : PerSeq α) {i j : SeqChan} (v : α) (h : j ≠ i) : (t.set i v).get j = t.get j := by
  cases i <;> cases j <;> first | rfl | exact absurd rfl h

theorem PerSeq.get_set {α : Type} (t : PerSeq α) (i j : SeqChan) (v : α) : (t.set i v).get j = if j = i then v else t.get j := by
  cases i <;> cases j <;> rfl

theorem PerSeq.eq_of_get {α : Type} {t u : PerSeq α} (h : ∀ i, t.get i = u.get i) : t = u := by
  cases t; cases u
  simpa only [PerSeq.mk.injEq] using ⟨h .ov, h .gr⟩

theorem SeqChan.all_index (i : SeqChan) : SeqChan.all[i.index]? = some i := by cases i <;> rfl

theorem SeqChan.mem_all (i : SeqChan) : i ∈ SeqChan.all := by cases i <;> decide

@[simp] theorem PerSensor.get_of {α : Type} (f : Sensor → α) (i : Sensor) : (PerSensor.of f).get i = f i := by cases i <;> rfl

@[simp] theorem PerSensor.get_set_self {α : Type} (t : PerSensor α) (i : Sensor) (v : α) : (t.set i v).get i = v := by cases i <;> rfl

theorem PerSensor.get_set_ne {α : Type} (t : PerSensor α) {i j : Sensor} (v : α) (h : j ≠ i) : (t.set i v).get j = t.get j := by
  cases i <;> cases j <;> first | rfl | exact absurd rfl h

theorem PerSensor.get_set {α : Type} (t : PerSensor α) (i j : Sensor) (v : α) : (t.set i v).get j = if j = i then v else t.get j := by
  cases i <;> cases j <;> rfl

theorem PerSensor.eq_of_get {α : Type} {t u : PerSensor α} (h : ∀ i, t.get i = u.get i) : t = u := by
  cases t; cases u
  simpa only [PerSensor.mk.injEq] using ⟨h .cav, h .grl, h .prb, h .brd⟩

theorem Sensor.all_index (i : Sensor) : Sensor.all[i.index]? = some i := by cases i <;> rfl

theorem Sensor.mem_all (i : Sensor) : i ∈ Sensor.all := by cases i <;> decide

@[simp] theorem PerHold.get_of {α : Type} (f : Hold → α) (i : Hold) : (PerHold.of f).get i = f i := by cases i <;> rfl

@[simp] theorem PerHold.get_set_self {α : Type} (t : PerHold α) (i : Hold) (v : α) : (t.set i v).get i = v := by cases i <;> rfl

theorem PerHold.get_set_ne {α : Type} (t : PerHold α) {i j : Hold} (v : α) (h : j ≠ i) : (t.set i v).get j = t.get j := by
  cases i <;> cases j <;> first | rfl | exact absurd rfl h

theorem PerHold.get_set {α : Type} (t : PerHold α) (i j : Hold) (v : α) : (t.set i v).get j = if j = i then v else t.get j := by
  cases i <;> cases j <;> rfl

theorem PerHold.eq_of_get {α : Type} {t u : PerHold α} (h : ∀ i, t.get i = u.get i) : t = u := by
  cases t; cases u
  simpa only [PerHold.mk.injEq] using ⟨h .supervisorSilent, h .timebase, h .boardOvertemp, h .supervisorRequest⟩

theorem Hold.all_index (i : Hold) : Hold.all[i.index]? = some i := by cases i <;> rfl

theorem Hold.mem_all (i : Hold) : i ∈ Hold.all := by cases i <;> decide

@[simp] theorem PerFlag.get_of {α : Type} (f : FaultFlag → α) (i : FaultFlag) : (PerFlag.of f).get i = f i := by cases i <;> rfl

@[simp] theorem PerFlag.get_set_self {α : Type} (t : PerFlag α) (i : FaultFlag) (v : α) : (t.set i v).get i = v := by cases i <;> rfl

theorem PerFlag.get_set_ne {α : Type} (t : PerFlag α) {i j : FaultFlag} (v : α) (h : j ≠ i) : (t.set i v).get j = t.get j := by
  cases i <;> cases j <;> first | rfl | exact absurd rfl h

theorem PerFlag.get_set {α : Type} (t : PerFlag α) (i j : FaultFlag) (v : α) : (t.set i v).get j = if j = i then v else t.get j := by
  cases i <;> cases j <;> rfl

theorem PerFlag.eq_of_get {α : Type} {t u : PerFlag α} (h : ∀ i, t.get i = u.get i) : t = u := by
  cases t; cases u
  simpa only [PerFlag.mk.injEq] using ⟨h .selftest, h .xtal, h .timebaseLost, h .timebaseSuspect, h .supervisorSilent, h .boardOvertemp, h .cavOvertemp, h .grlOvertemp, h .sensor, h .probe, h .memory, h .drive, h .stuckOn, h .valve, h .valveUnexpected⟩

theorem FaultFlag.all_index (i : FaultFlag) : FaultFlag.all[i.index]? = some i := by cases i <;> rfl

theorem FaultFlag.mem_all (i : FaultFlag) : i ∈ FaultFlag.all := by cases i <;> decide

@[simp] theorem PerPlain.get_of {α : Type} (f : PlainFlag → α) (i : PlainFlag) : (PerPlain.of f).get i = f i := by cases i <;> rfl

@[simp] theorem PerPlain.get_set_self {α : Type} (t : PerPlain α) (i : PlainFlag) (v : α) : (t.set i v).get i = v := by cases i <;> rfl

theorem PerPlain.get_set_ne {α : Type} (t : PerPlain α) {i j : PlainFlag} (v : α) (h : j ≠ i) : (t.set i v).get j = t.get j := by
  cases i <;> cases j <;> first | rfl | exact absurd rfl h

theorem PerPlain.get_set {α : Type} (t : PerPlain α) (i j : PlainFlag) (v : α) : (t.set i v).get j = if j = i then v else t.get j := by
  cases i <;> cases j <;> rfl

theorem PerPlain.eq_of_get {α : Type} {t u : PerPlain α} (h : ∀ i, t.get i = u.get i) : t = u := by
  cases t; cases u
  simpa only [PerPlain.mk.injEq] using ⟨h .selftest, h .xtal, h .timebaseLost, h .timebaseSuspect, h .supervisorSilent, h .boardOvertemp, h .cavOvertemp, h .grlOvertemp, h .sensor, h .probe, h .memory⟩

theorem PlainFlag.all_index (i : PlainFlag) : PlainFlag.all[i.index]? = some i := by cases i <;> rfl

theorem PlainFlag.mem_all (i : PlainFlag) : i ∈ PlainFlag.all := by cases i <;> decide

@[simp] theorem PerEvent.get_of {α : Type} (f : EventClass → α) (i : EventClass) : (PerEvent.of f).get i = f i := by cases i <;> rfl

@[simp] theorem PerEvent.get_set_self {α : Type} (t : PerEvent α) (i : EventClass) (v : α) : (t.set i v).get i = v := by cases i <;> rfl

theorem PerEvent.get_set_ne {α : Type} (t : PerEvent α) {i j : EventClass} (v : α) (h : j ≠ i) : (t.set i v).get j = t.get j := by
  cases i <;> cases j <;> first | rfl | exact absurd rfl h

theorem PerEvent.get_set {α : Type} (t : PerEvent α) (i j : EventClass) (v : α) : (t.set i v).get j = if j = i then v else t.get j := by
  cases i <;> cases j <;> rfl

theorem PerEvent.eq_of_get {α : Type} {t u : PerEvent α} (h : ∀ i, t.get i = u.get i) : t = u := by
  cases t; cases u
  simpa only [PerEvent.mk.injEq] using ⟨h .timerExpired, h .timerStarted, h .timerOrphaned, h .alertChanged, h .shortfall, h .pointChanged, h .seqChanged, h .memoryDone, h .faultChanged, h .stateChanged, h .feedback, h .timebaseChanged⟩

theorem EventClass.all_index (i : EventClass) : EventClass.all[i.index]? = some i := by cases i <;> rfl

theorem EventClass.mem_all (i : EventClass) : i ∈ EventClass.all := by cases i <;> decide

end Sys2Proof
end

