-- ==== Sys2Proof/Laws/Posting.lean ====
section
/-! SUPPORT. What posting, latching, storing alerts and starting a pass do, and that they do nothing else. -/

namespace Sys2Proof.Machine

namespace State

variable (s : State)

/-! ## Posting (R198) -/

section
variable (c : EventClass) (who : Port → Bool)

@[simp] theorem postTo_tbu : (s.postTo c who).tbu = s.tbu := rfl
@[simp] theorem postTo_ptc : (s.postTo c who).ptc = s.ptc := rfl
@[simp] theorem postTo_tme : (s.postTo c who).tme = s.tme := rfl
@[simp] theorem postTo_squ : (s.postTo c who).squ = s.squ := rfl
@[simp] theorem postTo_pmc : (s.postTo c who).pmc = s.pmc := rfl
@[simp] theorem postTo_spl : (s.postTo c who).spl = s.spl := rfl
@[simp] theorem postTo_dru : (s.postTo c who).dru = s.dru := rfl
@[simp] theorem postTo_snu : (s.postTo c who).snu = s.snu := rfl
@[simp] theorem postTo_alc : (s.postTo c who).alc = s.alc := rfl
@[simp] theorem postTo_stc : (s.postTo c who).stc = s.stc := rfl
@[simp] theorem postTo_presence : (s.postTo c who).presence = s.presence := rfl
@[simp] theorem postTo_watchdog : (s.postTo c who).watchdog = s.watchdog := rfl
@[simp] theorem postTo_pins : (s.postTo c who).pins = s.pins := rfl
@[simp] theorem postTo_free : (s.postTo c who).free = s.free := rfl
@[simp] theorem postTo_pending : (s.postTo c who).pending = s.pending := rfl

/-- Posting changes the pending sets of the ports named, and the port units otherwise not at all. -/
theorem postTo_ports_get (p : Port) :
    (s.postTo c who).ports.get p = if who p then (s.ports.get p).post c else s.ports.get p := by
  simp [postTo]

@[simp] theorem postTo_rx (p : Port) : ((s.postTo c who).ports.get p).rx = (s.ports.get p).rx := by
  rw [postTo_ports_get]; split <;> rfl
@[simp] theorem postTo_buffer (p : Port) : ((s.postTo c who).ports.get p).buffer = (s.ports.get p).buffer := by
  rw [postTo_ports_get]; split <;> rfl
@[simp] theorem postTo_service (p : Port) : ((s.postTo c who).ports.get p).service = (s.ports.get p).service := by
  rw [postTo_ports_get]; split <;> rfl
@[simp] theorem postTo_lastReply (p : Port) :
    ((s.postTo c who).ports.get p).lastReply = (s.ports.get p).lastReply := by
  rw [postTo_ports_get]; split <;> rfl
@[simp] theorem postTo_cutOff (p : Port) : ((s.postTo c who).ports.get p).cutOff = (s.ports.get p).cutOff := by
  rw [postTo_ports_get]; split <;> rfl
@[simp] theorem postTo_counters (p : Port) : ((s.postTo c who).ports.get p).counters = (s.ports.get p).counters := by
  rw [postTo_ports_get]; split <;> rfl
@[simp] theorem postTo_eventMask (p : Port) :
    ((s.postTo c who).ports.get p).eventMask = (s.ports.get p).eventMask := by
  rw [postTo_ports_get]; split <;> rfl

/-- The pending sets after a posting. -/
theorem postTo_posted (p : Port) (d : EventClass) :
    ((s.postTo c who).ports.get p).posted.get d = ((s.ports.get p).posted.get d || (d = c && who p)) := by
  rw [postTo_ports_get]
  by_cases h : who p <;> by_cases e : d = c <;> simp [h, e, PortUnit.post, PerEvent.get_set]

@[simp] theorem postAll_eq : s.postAll c = s.postTo c fun _ => true := rfl
end

/-! ## Latching (R181) -/

section
variable (i : FaultId)

/-- Latching changes the fault record, first-fault and the pending sets, and nothing else. -/
theorem latch_frame :
    s.latch i = { s with stc := { s.stc with faults := (s.latch i).stc.faults, firstFault := (s.latch i).stc.firstFault }
                         ports := (s.latch i).ports } := by
  unfold latch; split <;> rfl

end

end State

/-- The fault record with a flag set reads that flag back, and every other as before. -/
theorem Faults.get_set (t : Faults) (i j : FaultId) (v : Bool) : (t.set i v).get j = if j = i then v else t.get j := by
  cases i <;> cases j <;>
    simp [Faults.set, Faults.get, PerPlain.get_set, PerLoad.get_set, PerGas.get_set]

namespace State

variable (s : State)

/-- The record after a latching: the flag or member latched, the others as before. -/
theorem latch_get (i j : FaultId) : (s.latch i).stc.faults.get j = (s.stc.faults.get j || j = i) := by
  unfold latch
  split
  · by_cases e : j = i
    · subst e; simp_all
    · simp [e]
  · simp only [postAll_eq, postTo_stc, setStc_stc, Stc.latched, Faults.get_set]
    by_cases e : j = i <;> simp [e]

section
variable (i : FaultId)
@[simp] theorem latch_tbu : (s.latch i).tbu = s.tbu := by rw [latch_frame]
@[simp] theorem latch_ptc : (s.latch i).ptc = s.ptc := by rw [latch_frame]
@[simp] theorem latch_tme : (s.latch i).tme = s.tme := by rw [latch_frame]
@[simp] theorem latch_squ : (s.latch i).squ = s.squ := by rw [latch_frame]
@[simp] theorem latch_pmc : (s.latch i).pmc = s.pmc := by rw [latch_frame]
@[simp] theorem latch_spl : (s.latch i).spl = s.spl := by rw [latch_frame]
@[simp] theorem latch_dru : (s.latch i).dru = s.dru := by rw [latch_frame]
@[simp] theorem latch_snu : (s.latch i).snu = s.snu := by rw [latch_frame]
@[simp] theorem latch_alc : (s.latch i).alc = s.alc := by rw [latch_frame]
@[simp] theorem latch_op : (s.latch i).stc.op = s.stc.op := by rw [latch_frame]
@[simp] theorem latch_enteredAt : (s.latch i).stc.enteredAt = s.stc.enteredAt := by rw [latch_frame]
@[simp] theorem latch_holds : (s.latch i).stc.holds = s.stc.holds := by rw [latch_frame]
@[simp] theorem latch_faultMask : (s.latch i).stc.faultMask = s.stc.faultMask := by rw [latch_frame]
@[simp] theorem latch_selfTest : (s.latch i).stc.selfTest = s.stc.selfTest := by rw [latch_frame]
@[simp] theorem latch_lastCommit : (s.latch i).stc.lastCommit = s.stc.lastCommit := by rw [latch_frame]
@[simp] theorem latch_presence : (s.latch i).presence = s.presence := by rw [latch_frame]
@[simp] theorem latch_watchdog : (s.latch i).watchdog = s.watchdog := by rw [latch_frame]
@[simp] theorem latch_pins : (s.latch i).pins = s.pins := by rw [latch_frame]
@[simp] theorem latch_free : (s.latch i).free = s.free := by rw [latch_frame]
@[simp] theorem latch_pending : (s.latch i).pending = s.pending := by rw [latch_frame]
end

/-! ## Alerts and notices (R157, R164) -/

section
variable (es : List Alert) (who : Port → Bool)

/-- Storing the Alert List changes its entries and posts ALERT_CHANGED, and nothing else. -/
theorem storeAlerts_eq : s.storeAlerts es who =
    { s with alc := { s.alc with entries := es }, ports := (s.storeAlerts es who).ports } := rfl

@[simp] theorem storeAlerts_entries : (s.storeAlerts es who).alc.entries = es := rfl

theorem storeAlerts_posted (p : Port) (d : EventClass) :
    ((s.storeAlerts es who).ports.get p).posted.get d = ((s.ports.get p).posted.get d || (d = .alertChanged && who p)) :=
  (s.setAlc _).postTo_posted .alertChanged who p d
end

/-! ## A pass (R108) -/

/-- Starting a pass changes the serial and the pending status of the planner, and nothing else. -/
theorem startPass_eq : s.startPass =
    { s with spl := { s.spl with
      serial := s.spl.serial + 1
      pending := .building (s.snapshot (s.spl.serial + 1)) } } := rfl

end State

end Sys2Proof.Machine
end

