-- ==== Sys2Proof/Laws/Gates.lean ====
section
/-! SUPPORT. What gates, withdrawals, fault attribution and operating states do, said once for each operation: the field it
decides, and the frame it keeps. -/

namespace Sys2Proof.Machine

/-- What an operation on gates can touch: the reasons, the withdrawals and the pass they bring, and the pending sets. -/
structure GateFrame (s t : State) : Prop where
  ptc : t.ptc = { s.ptc with reasons := t.ptc.reasons }
  spl : PlannerKept s t
  dru : t.dru = { s.dru with withdrawLoads := t.dru.withdrawLoads, withdrawGas := t.dru.withdrawGas }
  rest : t = { s with ptc := t.ptc, spl := t.spl, dru := t.dru, ports := t.ports }

theorem GateFrame.refl (s : State) : GateFrame s s := ⟨rfl, rfl, rfl, rfl⟩

theorem GateFrame.trans {s t u : State} (h : GateFrame s t) (k : GateFrame t u) : GateFrame s u := by
  obtain ⟨h1, h2, h3, h4⟩ := h
  obtain ⟨k1, k2, k3, k4⟩ := k
  refine ⟨?_, ?_, ?_, ?_⟩
  · rw [k1, h1]
  · unfold PlannerKept at *; rw [k2, h2]
  · rw [k3, h3]
  · rw [k4, h4]

/-- A relation that every element's operation keeps is kept by all of them in order. -/
theorem foldl_keeps {α : Type} (R : State → State → Prop) (refl : ∀ s, R s s) (trans : ∀ {s t u}, R s t → R t u → R s u)
    {f : State → α → State} (step : ∀ s x, R s (f s x)) : ∀ (xs : List α) (s : State), R s (xs.foldl f s)
  | [], s => refl s
  | x :: xs, s => trans (step s x) (foldl_keeps R refl trans step xs (f s x))

namespace State

variable (s : State)

theorem postTo_gateFrame (c : EventClass) (who : Port → Bool) : GateFrame s (s.postTo c who) := ⟨rfl, rfl, rfl, rfl⟩

theorem startPass_gateFrame : GateFrame s s.startPass := ⟨rfl, rfl, rfl, rfl⟩

theorem withdrawLoad_gateFrame (l : Load) : GateFrame s (s.withdrawLoad l) := ⟨rfl, rfl, rfl, rfl⟩

theorem withdrawGas_gateFrame (z : Gas) : GateFrame s (s.withdrawGas z) := ⟨rfl, rfl, rfl, rfl⟩

theorem withdrawLoads_gateFrame (ls : List Load) : GateFrame s (s.withdrawLoads ls) :=
  foldl_keeps GateFrame GateFrame.refl GateFrame.trans withdrawLoad_gateFrame ls s

/-- Withdrawing loads changes no reason. -/
@[simp] theorem withdrawLoads_ptc (ls : List Load) : (s.withdrawLoads ls).ptc = s.ptc := by
  induction ls generalizing s with
  | nil => rfl
  | cons l ls ih => exact ih (s.withdrawLoad l)

/-- The planner's withdrawal set after loads were withdrawn (R115). -/
theorem withdrawLoads_spl (ls : List Load) (l : Load) :
    (s.withdrawLoads ls).spl.withdrawals.get l = (s.spl.withdrawals.get l || decide (l ∈ ls)) := by
  induction ls generalizing s with
  | nil => simp [withdrawLoads]
  | cons k ls ih =>
    have := ih (s.withdrawLoad k)
    simp only [withdrawLoads, List.foldl_cons] at this ⊢
    rw [this]
    by_cases e : l = k <;>
      simp [withdrawLoad, startPass, setSpl, setDru, PerLoad.get_set, e]

/-- The Drive Unit's withdrawal set after loads were withdrawn (R122). -/
theorem withdrawLoads_dru (ls : List Load) (l : Load) :
    (s.withdrawLoads ls).dru.withdrawLoads.get l = (s.dru.withdrawLoads.get l || decide (l ∈ ls)) := by
  induction ls generalizing s with
  | nil => simp [withdrawLoads]
  | cons k ls ih =>
    have := ih (s.withdrawLoad k)
    simp only [withdrawLoads, List.foldl_cons] at this ⊢
    rw [this]
    by_cases e : l = k <;>
      simp [withdrawLoad, startPass, setSpl, setDru, PerLoad.get_set, e]

theorem announceGate_gateFrame (p : Point) (was : Bool) : GateFrame s (s.announceGate p was) := by
  unfold announceGate
  split
  · split
    · exact s.withdrawGas_gateFrame _
    · exact (s.withdrawLoads_gateFrame _).trans (startPass_gateFrame _)
  · split
    · exact s.startPass_gateFrame
    · exact GateFrame.refl s
  · exact GateFrame.refl s

/-- Announcing a gate changes no reason. -/
@[simp] theorem announceGate_ptc (p : Point) (was : Bool) : (s.announceGate p was).ptc = s.ptc := by
  unfold announceGate
  split
  · split
    · rfl
    · exact s.withdrawLoads_ptc _
  · split <;> rfl
  · rfl

theorem storeReasons_gateFrame (p : Point) (r : PerReason Bool) : GateFrame s (s.storeReasons p r) := ⟨rfl, rfl, rfl, rfl⟩

theorem changeReasons_gateFrame (p : Point) (r : PerReason Bool) : GateFrame s (s.changeReasons p r) := by
  unfold changeReasons
  split
  · exact GateFrame.refl s
  · exact ((s.storeReasons_gateFrame p r).trans (postTo_gateFrame _ _ _)).trans (announceGate_gateFrame _ _ _)

/-- The reason sets after one point's set was changed (R27). -/
theorem changeReasons_reasons (p : Point) (r : PerReason Bool) :
    (s.changeReasons p r).ptc.reasons = s.ptc.reasons.set p r := by
  unfold changeReasons
  split
  · next h =>
    refine PerPoint.eq_of_get fun q => ?_
    rw [PerPoint.get_set]
    by_cases e : q = p
    · subst e; simp [h]
    · simp [e]
  · simp [storeReasons]

/-- Everything but the Point Controller, the planner, the Drive Unit and the port units, after reasons changed. -/
theorem changeReasons_rest (p : Point) (r : PerReason Bool) :
    (s.changeReasons p r).tbu = s.tbu ∧ (s.changeReasons p r).tme = s.tme ∧ (s.changeReasons p r).squ = s.squ ∧
    (s.changeReasons p r).pmc = s.pmc ∧ (s.changeReasons p r).snu = s.snu ∧ (s.changeReasons p r).alc = s.alc ∧
    (s.changeReasons p r).stc = s.stc ∧ (s.changeReasons p r).presence = s.presence ∧
    (s.changeReasons p r).watchdog = s.watchdog ∧ (s.changeReasons p r).pins = s.pins ∧
    (s.changeReasons p r).free = s.free ∧ (s.changeReasons p r).pending = s.pending := by
  have h := (s.changeReasons_gateFrame p r).rest
  refine ⟨?_, ?_, ?_, ?_, ?_, ?_, ?_, ?_, ?_, ?_, ?_, ?_⟩ <;> rw [h]

theorem addReason_gateFrame (p : Point) (r : Sys2Proof.Reason) : GateFrame s (s.addReason p r) := s.changeReasons_gateFrame p _

theorem removeReason_gateFrame (p : Point) (r : Sys2Proof.Reason) : GateFrame s (s.removeReason p r) :=
  s.changeReasons_gateFrame p _

theorem haltGates_gateFrame : GateFrame s s.haltGates :=
  foldl_keeps GateFrame GateFrame.refl GateFrame.trans (fun t p => t.addReason_gateFrame p .halted) Point.all s

theorem unhaltGates_gateFrame : GateFrame s s.unhaltGates := by
  have h : GateFrame s ((s.setPtc { s.ptc with reasons := .of fun p => (s.ptc.reasons.get p).set .halted false }).postTo
      .pointChanged fun q => Point.all.any fun p => (s.ptc.reasons.get p).halted && s.pointAudience p q) :=
    ⟨rfl, rfl, rfl, rfl⟩
  unfold unhaltGates
  dsimp only
  split
  · exact h.trans (startPass_gateFrame _)
  · exact h

/-- HALTED of every point after the gates were halted (R30). -/
theorem haltGates_reasons (p : Point) : s.haltGates.ptc.reasons.get p = (s.ptc.reasons.get p).set .halted true := by
  have h : ∀ (xs : List Point) (t : State), (xs.foldl (fun t p => t.addReason p .halted) t).ptc.reasons.get p =
      if p ∈ xs then (t.ptc.reasons.get p).set .halted true else t.ptc.reasons.get p := by
    intro xs
    induction xs with
    | nil => intro t; simp
    | cons x xs ih =>
      intro t
      rw [List.foldl_cons, ih]
      simp only [addReason, changeReasons_reasons, PerPoint.get_set, List.mem_cons]
      by_cases e : p = x
      · subst e; by_cases m : p ∈ xs <;> simp [m, PerReason.set]
      · simp [e]
  have := h Point.all s
  rw [if_pos (Point.mem_all p)] at this
  exact this

/-- HALTED of every point after the gates were released (R30). -/
theorem unhaltGates_reasons (p : Point) : s.unhaltGates.ptc.reasons.get p = (s.ptc.reasons.get p).set .halted false := by
  unfold unhaltGates
  dsimp only
  split <;> simp [startPass]

theorem followAttribution_gateFrame (p : Point) (was : Attribution) : GateFrame s (s.followAttribution p was) := by
  unfold followAttribution
  split
  · exact GateFrame.refl s
  · exact (s.postTo_gateFrame _ _).trans (changeReasons_gateFrame _ _ _)

/-- Replacing the attribution sets changes them and what gates bring, and nothing else (R31). -/
theorem setAttribution_gateFrame (a : Attribution) :
    GateFrame (s.setPtc { s.ptc with attribution := a }) (s.setAttribution a) :=
  foldl_keeps GateFrame GateFrame.refl GateFrame.trans (fun t p => t.followAttribution_gateFrame p _) Point.all _

@[simp] theorem setAttribution_attribution (a : Attribution) : (s.setAttribution a).ptc.attribution = a := by
  rw [(s.setAttribution_gateFrame a).ptc]; rfl

/-! ## Hold causes and operating states (R171 to R173) -/

@[simp] theorem storeHolds_stc (h : PerHold Bool) : (s.storeHolds h).stc = { s.stc with holds := h } := rfl

/-- The State Controller after an operating state was entered (R171). -/
theorem enterState_stc (op : OpState) : (s.enterState op).stc = { s.stc with op := op, enteredAt := s.tbu.seconds } := by
  have test : ∀ t : State, t.abortTest.stc = t.stc := by intro t; unfold abortTest; split <;> rfl
  have gate : ∀ {t u : State}, GateFrame t u → u.stc = t.stc := fun h => by rw [h.rest]
  cases op
  all_goals
    simp only [enterState]
    first
    | rw [gate (haltGates_gateFrame _)]
    | rw [gate (unhaltGates_gateFrame _)]
    simp [setMasters, test]

/-- The Timer Engine after an operating state was entered (R69, R71, R172). -/
theorem enterState_tme (op : OpState) :
    (s.enterState op).tme = if op = .hold ∨ op = .lockout then s.tme.halted else s.tme.unhalted := by
  have test : ∀ t : State, t.abortTest.tme = t.tme := by intro t; unfold abortTest; split <;> rfl
  have gate : ∀ {t u : State}, GateFrame t u → u.tme = t.tme := fun h => by rw [h.rest]
  cases op
  all_goals
    simp only [enterState]
    first
    | rw [gate (haltGates_gateFrame _)]
    | rw [gate (unhaltGates_gateFrame _)]
    simp [setMasters, test]

/-- The reasons after an operating state was entered (R30, R172). -/
theorem enterState_reasons (op : OpState) (p : Point) :
    (s.enterState op).ptc.reasons.get p = (s.ptc.reasons.get p).set .halted (op ≠ .run) := by
  have test : ∀ t : State, t.abortTest.ptc = t.ptc := by intro t; unfold abortTest; split <;> rfl
  cases op
  all_goals
    simp only [enterState]
    first
    | rw [haltGates_reasons]
    | rw [unhaltGates_reasons]
    simp [setMasters, test]

/-- What entering an operating state leaves alone (R172). -/
theorem enterState_rest (op : OpState) :
    (s.enterState op).tbu = s.tbu ∧ (s.enterState op).squ = s.squ ∧ (s.enterState op).pmc = s.pmc ∧
    (s.enterState op).snu = s.snu ∧ (s.enterState op).alc = s.alc ∧ (s.enterState op).presence = s.presence ∧
    (s.enterState op).watchdog = s.watchdog ∧ (s.enterState op).pins = s.pins ∧ (s.enterState op).free = s.free ∧
    (s.enterState op).pending = s.pending ∧ (s.enterState op).ptc.attribution = s.ptc.attribution ∧
    (s.enterState op).ptc.gas = s.ptc.gas ∧ (s.enterState op).ptc.duty = s.ptc.duty ∧
    (s.enterState op).ptc.panel = s.ptc.panel ∧ (s.enterState op).ptc.rank = s.ptc.rank := by
  have test : ∀ t : State, t.abortTest = { t with dru := t.abortTest.dru, ports := t.abortTest.ports } := by
    intro t; unfold abortTest; split <;> rfl
  have gate : ∀ {t u : State}, GateFrame t u →
      u = { t with ptc := { t.ptc with reasons := u.ptc.reasons }, spl := u.spl, dru := u.dru, ports := u.ports } :=
    fun h => by rw [← h.ptc]; exact h.rest
  cases op
  all_goals
    simp only [enterState]
    first
    | rw [gate (haltGates_gateFrame _)]
    | rw [gate (unhaltGates_gateFrame _)]
    simp only [setMasters, setTme, setDru, reduceCtorEq, if_false, if_true]
    first
    | exact ⟨rfl, rfl, rfl, rfl, rfl, rfl, rfl, rfl, rfl, rfl, rfl, rfl, rfl, rfl, rfl⟩
    | rw [test]
      exact ⟨rfl, rfl, rfl, rfl, rfl, rfl, rfl, rfl, rfl, rfl, rfl, rfl, rfl, rfl, rfl⟩

/-- The hold cause set after a cause was added (R173). -/
theorem addHold_holds (h : Hold) : (s.addHold h).stc.holds = s.stc.holds.set h true := by
  unfold addHold
  split
  · next e =>
    refine (PerHold.eq_of_get fun k => ?_)
    rw [PerHold.get_set]
    by_cases q : k = h
    · subst q; simp [e]
    · simp [q]
  · dsimp only
    split
    · rw [enterState_stc]; rfl
    · rfl

/-- The operating state after a cause was added (R173). -/
theorem addHold_op (h : Hold) :
    (s.addHold h).stc.op =
      if s.stc.op = .run ∧ s.stc.noHold = true ∧ s.stc.holds.get h = false then .hold else s.stc.op := by
  unfold addHold
  by_cases e : s.stc.holds.get h = true
  · simp [e]
  · by_cases r : s.stc.op = .run ∧ s.stc.noHold = true
    · simp [e, r, enterState_stc]
    · have r' : ¬ (s.stc.op = .run ∧ s.stc.noHold = true) := r
      simp only [e, r', if_false, Bool.false_eq_true, storeHolds_stc]
      rw [if_neg fun k => r ⟨k.1, k.2.1⟩]

/-- Removing a cause changes the hold cause set and posts, and nothing else: no state is entered (R173). -/
theorem removeHold_eq (h : Hold) :
    s.removeHold h =
      { s with stc := { s.stc with holds := s.stc.holds.set h false }, ports := (s.removeHold h).ports } := by
  unfold removeHold
  split
  · rfl
  · next e =>
    have : s.stc.holds.set h false = s.stc.holds := by
      refine PerHold.eq_of_get fun k => ?_
      rw [PerHold.get_set]
      by_cases q : k = h
      · subst q; simpa using e
      · simp [q]
    rw [this]

end State

end Sys2Proof.Machine
end

