-- ==== Sys2Proof/Laws/Settle.lean ====
section
/-! SUPPORT. What closes every command, said once: what it can change, when it changes nothing but the lines, and what a
request that is refused leaves. -/

namespace Sys2Proof.Machine

/-- What following the system causes can touch: the entries of the Alert List and the pending sets. -/
structure EntryFrame (s t : State) : Prop where
  rest : t = { s with alc := { s.alc with entries := t.alc.entries }, ports := t.ports }
  units : ∀ p, t.ports.get p = { s.ports.get p with posted := (t.ports.get p).posted }
  posted : ∀ p c, c ≠ .alertChanged → (t.ports.get p).posted.get c = (s.ports.get p).posted.get c

theorem EntryFrame.refl (s : State) : EntryFrame s s := ⟨rfl, fun _ => rfl, fun _ _ _ => rfl⟩

theorem EntryFrame.trans {s t u : State} (h : EntryFrame s t) (k : EntryFrame t u) : EntryFrame s u := by
  refine ⟨?_, fun p => ?_, fun p c n => (k.posted p c n).trans (h.posted p c n)⟩
  · rw [k.rest, h.rest]
  · rw [k.units p, h.units p]

namespace State

variable (s : State)

theorem storeAlerts_entryFrame (es : List Alert) (who : Port → Bool) : EntryFrame s (s.storeAlerts es who) := by
  refine ⟨rfl, fun p => ?_, fun p c n => ?_⟩
  · rw [storeAlerts, postTo_ports_get]; split <;> rfl
  · rw [storeAlerts_posted]; simp [n]

theorem followCause_entryFrame (c : SystemCause) (present : Bool) : EntryFrame s (s.followCause c present) := by
  have h : ∀ es, EntryFrame s (if es = s.alc.entries then s else s.storeAlerts es fun _ => true) := by
    intro es
    split
    · exact EntryFrame.refl s
    · exact s.storeAlerts_entryFrame es _
  exact h _

/-- What the Alert Controller makes of the causes a command changed (R161). -/
theorem followCauses_entryFrame (old new : State) : EntryFrame new (old.followCauses new) := by
  unfold followCauses
  split
  · exact EntryFrame.refl new
  · refine foldl_keeps EntryFrame EntryFrame.refl EntryFrame.trans (fun t c => ?_) _ new
    split
    · exact EntryFrame.refl t
    · exact t.followCause_entryFrame c _

/-- A command that changes no system cause brings no entry and removes none (R161). -/
theorem followCauses_same {old new : State} (h : ∀ c, new.causePresent c = old.causePresent c) :
    old.followCauses new = new := by
  have : ∀ (cs : List SystemCause) (t : State), (cs.foldl (fun t c =>
      if new.causePresent c = old.causePresent c then t else t.followCause c (new.causePresent c)) t) = t := by
    intro cs
    induction cs with
    | nil => intro t; rfl
    | cons c cs ih => intro t; rw [List.foldl_cons, if_pos (h c)]; exact ih t
  unfold followCauses
  split
  · rfl
  · exact this _ _

/-- The snapshot taken again changes the pending plan and nothing else (R109). -/
theorem retakeSnapshot_frame (old new : State) :
    old.retakeSnapshot new =
      { new with spl := { new.spl with pending := (old.retakeSnapshot new).spl.pending } } := by
  unfold retakeSnapshot
  split
  · split <;> rfl
  · rfl

/-- A command that starts no pass keeps the pending plan as it is (R108). -/
theorem retakeSnapshot_same {old new : State} (h : new.spl.serial = old.spl.serial) : old.retakeSnapshot new = new := by
  unfold retakeSnapshot
  split
  · rw [if_pos h]
  · rfl

end State

/-- The states before and after what closes a command. -/
structure SettleFrame (n t : State) : Prop where
  rest : t = { n with
    alc := { n.alc with entries := t.alc.entries }
    spl := { n.spl with pending := t.spl.pending }
    ports := t.ports
    pins := t.pins }
  units : ∀ p, t.ports.get p = { n.ports.get p with posted := (t.ports.get p).posted }
  posted : ∀ p c, c ≠ .alertChanged → (t.ports.get p).posted.get c = (n.ports.get p).posted.get c

/-- Everything that closing a command can do (R109, R161, R168, R183, R198). -/
theorem settle_frame (old new : State) : SettleFrame new (settle old new) := by
  have h := State.followCauses_entryFrame old new
  have k := State.retakeSnapshot_frame old (old.followCauses new)
  have e : (settle old new).ports = (old.followCauses new).ports := by
    unfold settle State.setLines; rw [k]; rfl
  refine ⟨?_, fun p => ?_, fun p c n => ?_⟩
  · unfold settle State.setLines
    rw [k, h.rest]
    rfl
  · rw [e]; exact h.units p
  · rw [e]; exact h.posted p c n

/-- The lines after every command are as their sets have them (R168, R183, R198). -/
theorem settle_lines (old new : State) : (settle old new).pins = (settle old new).lines := rfl

/-- Where a command changes no system cause and starts no pass, closing it sets the lines and nothing else. -/
theorem settle_quiet {old new : State} (h : ∀ c, new.causePresent c = old.causePresent c)
    (k : new.spl.serial = old.spl.serial) : settle old new = new.setLines := by
  unfold settle
  rw [State.followCauses_same h, State.retakeSnapshot_same k]

/-- The system causes are those of the State Controller's record alone. -/
theorem causePresent_of_stc {s t : State} (h : t.stc = s.stc) (c : SystemCause) : t.causePresent c = s.causePresent c := by
  cases c <;> simp [State.causePresent, h]

section
variable (o n : State)
@[simp] theorem settle_tbu : (settle o n).tbu = n.tbu := by rw [(settle_frame o n).rest]
@[simp] theorem settle_ptc : (settle o n).ptc = n.ptc := by rw [(settle_frame o n).rest]
@[simp] theorem settle_tme : (settle o n).tme = n.tme := by rw [(settle_frame o n).rest]
@[simp] theorem settle_squ : (settle o n).squ = n.squ := by rw [(settle_frame o n).rest]
@[simp] theorem settle_pmc : (settle o n).pmc = n.pmc := by rw [(settle_frame o n).rest]
@[simp] theorem settle_dru : (settle o n).dru = n.dru := by rw [(settle_frame o n).rest]
@[simp] theorem settle_snu : (settle o n).snu = n.snu := by rw [(settle_frame o n).rest]
@[simp] theorem settle_stc : (settle o n).stc = n.stc := by rw [(settle_frame o n).rest]
@[simp] theorem settle_presence : (settle o n).presence = n.presence := by rw [(settle_frame o n).rest]
@[simp] theorem settle_watchdog : (settle o n).watchdog = n.watchdog := by rw [(settle_frame o n).rest]
@[simp] theorem settle_free : (settle o n).free = n.free := by rw [(settle_frame o n).rest]
@[simp] theorem settle_pending : (settle o n).pending = n.pending := by rw [(settle_frame o n).rest]
end

/-! ## Requests -/

/-- The state after a reply was formed (R189, R193): the port's last reply, and its transmission where its frame is the one
in service. -/
theorem answer_ports (s : State) (p q : Port) (i : Instr) (r : Reply) :
    (s.answer p i r).ports.get q = if q = p then (s.ports.get p).answer i r else s.ports.get q := by
  simp [State.answer, PerPort.get_set]

/-- What the port's last two checks of R191 make of a request, said once. -/
theorem dispatch_eq (s : State) (code : Byte) (p : Port) (take : Taken) :
    s.dispatch code p take =
      if roleAllowed code p = false then s.refuse .notPermitted
      else if s.stc.op = .selftest ∧ selftestCodes.contains code = false then s.refuse .busy
      else take := by
  unfold State.dispatch portRefusal
  repeat' split
  all_goals simp_all

/-- A request that R191 lets through to its block (R191). -/
theorem dispatch_taken {s : State} {code : Byte} {p : Port} {take : Taken} (h : roleAllowed code p = true)
    (k : s.stc.op ≠ .selftest ∨ selftestCodes.contains code = true) : s.dispatch code p take = take := by
  rw [dispatch_eq, if_neg (by simp [h]), if_neg]
  rintro ⟨a, b⟩
  rcases k with k | k
  · exact k a
  · rw [k] at b; cases b

/-- A request that no break cut off: its reply goes into transmission where it is the one in service (R189, R190). -/
theorem answer_of_not_cutOff {u : PortUnit} {i : Instr} (h : i ∉ u.cutOff) (r : Reply) :
    u.answer i r =
      { u with lastReply := some r, service := if u.service = .handed i then .replying r.frames else u.service } := by
  unfold PortUnit.answer
  rw [if_neg (by simpa using h)]

/-- A block whose answer leaves the state as it was: the reply is formed, the lines are set, and nothing else happens. -/
theorem request_reply {s : State} {i : Instr} {code : Byte} {p : Port} {take : Taken}
    (h : (s.dispatch code p take).state = s) :
    request i code p s take = .next (s.answer p i ((s.dispatch code p take).reply code)).setLines := by
  unfold request
  dsimp only
  rw [h]
  exact congrArg _ (settle_quiet (fun c => causePresent_of_stc rfl c) rfl)

end Sys2Proof.Machine
end

