-- ==== Sys2Proof/Laws/Causes.lean ====
section
/-! SUPPORT. What following the system causes makes of the Alert List, said once: the entries in place and those that join. -/

namespace Sys2Proof.Machine

/-- The causes as R160 words them are those that the model follows. -/
@[simp] theorem causeStands_eq (s : State) (c : SystemCause) : s.causeStands c = s.causePresent c := by
  cases c <;> first
    | rfl
    | simp [State.causeStands, State.causePresent, Faults.flagged, Load.all, Gas.all, Bool.or_assoc, Bool.or_comm, Bool.or_left_comm]

/-- The entry that joins for a cause is the one that R161 gives. -/
theorem systemEntry_eq (c : SystemCause) (now : BitVec 32) :
    systemEntry c now = { source := .system c true, point := none, raisedAt := now, startLevel := 4, level := 4, sounding := true } :=
  rfl

theorem forCause_iff {e : Alert} {c : SystemCause} : e.forCause c = true ↔ ∃ b, e.source = .system c b := by
  cases h : e.source <;> simp [Alert.forCause, h]

/-- What the causes of a list, once followed, have made of an entry. -/
def followedBy (cs : List SystemCause) (s t : State) (e : Alert) : Option Alert :=
  if cs.any fun c => e.forCause c then followedEntry s t e else some e

/-- An entry of the cause `c` once `c` was followed. -/
theorem followedEntry_of_forCause {s t : State} {e : Alert} {c : SystemCause} (h : e.forCause c = true) :
    followedEntry s t e =
      if t.causePresent c = s.causePresent c then some e
      else if t.causePresent c || e.sounding then some { e with source := .system c (t.causePresent c) } else none := by
  obtain ⟨b, h⟩ := forCause_iff.1 h
  simp [followedEntry, h]

/-- What one cause, once followed, has made of an entry. -/
theorem followedBy_one (s t : State) (c : SystemCause) (e : Alert) :
    followedBy [c] s t e = if e.forCause c then
        if t.causePresent c = s.causePresent c then some e
        else if t.causePresent c || e.sounding then some { e with source := .system c (t.causePresent c) } else none
      else some e := by
  by_cases k : e.forCause c = true
  · simp only [followedBy, List.any_cons, List.any_nil, k, Bool.or_false, if_true, followedEntry_of_forCause k]
  · simp [followedBy, k]

/-- One cause followed: its entries are followed, and one joins where it has appeared without an entry. -/
theorem followCause_entries (s t u : State) (c : SystemCause) :
    (if t.causePresent c = s.causePresent c then u else u.followCause c (t.causePresent c)).alc.entries =
      u.alc.entries.filterMap (followedBy [c] s t) ++
        if t.causePresent c && !s.causePresent c && u.alc.entries.all (fun e => !e.forCause c) then
          [systemEntry c u.tbu.seconds] else [] := by
  have store : ∀ es, (if es = u.alc.entries then u else u.storeAlerts es fun _ => true).alc.entries = es := by
    intro es
    split
    · exact (by assumption : es = u.alc.entries).symm
    · rfl
  simp only [funext (followedBy_one s t c)]
  by_cases h : t.causePresent c = s.causePresent c
  · simp [h]
  · rw [if_neg h]
    unfold State.followCause
    rw [store]
    simp only [h, if_false]
    cases p : t.causePresent c
    · simp only [causeClears, Bool.false_and, Bool.false_eq_true, if_false, List.append_nil, Bool.false_or]
      rw [← List.filterMap_eq_map, List.filterMap_filter]
      refine List.filterMap_congr fun e _ => ?_
      cases k : e.forCause c <;> cases n : e.sounding <;> simp [k, n]
    · have q : s.causePresent c = false := by cases k : s.causePresent c <;> simp_all
      have each : ∀ es : List Alert, (es.filterMap fun e => if e.forCause c then
          if true || e.sounding then some { e with source := .system c true } else none else some e) =
          es.map fun e => if e.forCause c then { e with source := .system c true } else e := by
        intro es
        rw [← List.filterMap_eq_map]
        refine List.filterMap_congr fun e _ => ?_
        cases k : e.forCause c <;> simp [k]
      rw [each]
      simp only [if_true, causeAppears, q, Bool.not_false, Bool.and_true, Bool.true_and]
      by_cases k : u.alc.entries.any (fun e => e.forCause c) = true
      · have n : u.alc.entries.all (fun e => !e.forCause c) = false := by simpa using k
        rw [if_pos k, n]
        simp
      · have n : u.alc.entries.all (fun e => !e.forCause c) = true := by simpa using k
        have m : (u.alc.entries.map fun e => if e.forCause c then { e with source := .system c true } else e) =
            u.alc.entries := by
          refine (List.map_congr_left fun e he => ?_).trans (List.map_id _)
          simp [by simpa using List.all_eq_true.1 n e he]
        rw [if_neg k, n, m]
        rfl

/-- An entry of no cause of the list stays as it is. -/
theorem followedBy_of_none {cs : List SystemCause} {s t : State} {e : Alert} (h : ∀ d ∈ cs, e.forCause d = false) :
    followedBy cs s t e = some e := by
  rw [followedBy, if_neg (by simpa using h)]

/-- An entry that joins for a cause is an entry of no other. -/
theorem forCause_systemEntry_ne {c : SystemCause} {cs : List SystemCause} {now : BitVec 32} (h : c ∉ cs) :
    ∀ d ∈ cs, (systemEntry c now).forCause d = false := by
  intro d hd
  simpa [systemEntry, Alert.forCause] using fun k : c = d => h (k ▸ hd)

/-- Following one cause leaves the entries of every other where they are. -/
theorem all_forCause_followedBy (s t : State) {c d : SystemCause} (h : c ≠ d) (es : List Alert) :
    (es.filterMap (followedBy [c] s t)).all (fun e => !e.forCause d) = es.all fun e => !e.forCause d := by
  induction es with
  | nil => rfl
  | cons e es ih =>
    rw [List.filterMap_cons, followedBy_one, List.all_cons]
    by_cases k : e.forCause c = true
    · obtain ⟨b, m⟩ := forCause_iff.1 k
      have n : e.forCause d = false := by simp [Alert.forCause, m, h]
      rw [if_pos k, n]
      by_cases p : t.causePresent c = s.causePresent c
      · simp [p, n, ih]
      · rw [if_neg p]
        by_cases q : (t.causePresent c || e.sounding) = true
        · rw [if_pos q]
          simp [ih, show ({ e with source := .system c (t.causePresent c) } : Alert).forCause d = false by simp [Alert.forCause, h]]
        · rw [if_neg q]
          simp [ih]
    · rw [if_neg k]
      simp [ih]

/-- One cause followed, then others that it is not among. -/
theorem followedBy_bind (s t : State) {c : SystemCause} {cs : List SystemCause} (h : c ∉ cs) (e : Alert) :
    (followedBy [c] s t e).bind (followedBy cs s t) = followedBy (c :: cs) s t e := by
  by_cases k : e.forCause c = true
  · obtain ⟨b, m⟩ := forCause_iff.1 k
    have others : ∀ b', ∀ d ∈ cs, ({ e with source := .system c b' } : Alert).forCause d = false := by
      intro b' d hd
      simpa [Alert.forCause] using fun n : c = d => h (n ▸ hd)
    have same : ∀ d ∈ cs, e.forCause d = false := by
      intro d hd
      simpa [Alert.forCause, m] using fun n : c = d => h (n ▸ hd)
    rw [followedBy_one, if_pos k, followedBy, List.any_cons, k, Bool.true_or, if_pos rfl, followedEntry_of_forCause k]
    split
    · exact followedBy_of_none same
    · split
      · exact followedBy_of_none (others _)
      · rfl
  · rw [followedBy_one, if_neg k]
    simp [followedBy, k]

/-- Several causes followed one after another, each at most once. -/
theorem followCauses_fold (s t : State) : ∀ (cs : List SystemCause) (u : State), cs.Nodup →
    (cs.foldl (fun v c => if t.causePresent c = s.causePresent c then v else v.followCause c (t.causePresent c)) u).alc.entries =
      u.alc.entries.filterMap (followedBy cs s t) ++
        (cs.filter fun c => t.causePresent c && !s.causePresent c && u.alc.entries.all fun e => !e.forCause c).map fun c =>
          systemEntry c u.tbu.seconds := by
  intro cs
  induction cs with
  | nil => intro u _; rw [show followedBy [] s t = some from rfl]; simp
  | cons c cs ih =>
    intro u hn
    obtain ⟨hc, hn⟩ := List.nodup_cons.1 hn
    have time : (if t.causePresent c = s.causePresent c then u else u.followCause c (t.causePresent c)).tbu = u.tbu := by
      split
      · rfl
      · rw [(u.followCause_entryFrame c _).rest]
    rw [List.foldl_cons, ih _ hn, time, followCause_entries]
    have joins : ∀ now, (if t.causePresent c && !s.causePresent c && u.alc.entries.all (fun e => !e.forCause c) then
        [systemEntry c now] else []).filterMap (followedBy cs s t) =
        if t.causePresent c && !s.causePresent c && u.alc.entries.all (fun e => !e.forCause c) then [systemEntry c now] else [] := by
      intro now
      split
      · simp [followedBy_of_none (forCause_systemEntry_ne hc)]
      · rfl
    have none_of : ∀ d ∈ cs, ((u.alc.entries.filterMap (followedBy [c] s t)) ++
        if t.causePresent c && !s.causePresent c && u.alc.entries.all (fun e => !e.forCause c) then
          [systemEntry c u.tbu.seconds] else []).all (fun e => !e.forCause d) = u.alc.entries.all fun e => !e.forCause d := by
      intro d hd
      have n : c ≠ d := fun k => hc (k ▸ hd)
      rw [List.all_append, all_forCause_followedBy s t n]
      split <;> simp [systemEntry, Alert.forCause, n]
    rw [List.filterMap_append, List.filterMap_filterMap, joins]
    simp only [followedBy_bind s t hc]
    rw [List.append_assoc]
    congr 1
    rw [List.filter_congr fun d hd => by rw [none_of d hd], List.filter_cons]
    split <;> simp

/-- What following the causes makes of the Alert List (R160, R161): the entries in place followed, then those that join. -/
theorem State.followCauses_entries (s t : State) (h : t.stc.op ≠ .selftest) :
    (s.followCauses t).alc.entries = t.alc.entries.filterMap (followedEntry s t) ++
      (SystemCause.all.filter fun c => t.causePresent c && !s.causePresent c && t.alc.entries.all fun e => !e.forCause c).map
        fun c => systemEntry c t.tbu.seconds := by
  unfold State.followCauses
  rw [if_neg h, followCauses_fold s t _ t (by decide)]
  congr 2
  funext e
  cases k : e.source with
  | timer n => simp [followedBy, followedEntry, Alert.forCause, k]
  | system c b =>
    have m : (SystemCause.all.any fun d => e.forCause d) = true :=
      List.any_eq_true.2 ⟨c, by cases c <;> decide, forCause_iff.2 ⟨b, k⟩⟩
    rw [followedBy, if_pos m]

/-- In SELFTEST the Alert List stays (R161). -/
theorem State.followCauses_selftest (s t : State) (h : t.stc.op = .selftest) : s.followCauses t = t := by
  unfold State.followCauses
  rw [if_pos h]

end Sys2Proof.Machine
end

