-- ==== Sys2Proof/Laws/Creation.lean ====
section
/-! SUPPORT. What a list of checks answers: `refusedBy` entry by entry, as a whole, and beside the lists of decided checks that
the requests of the model carry. -/

namespace Sys2Proof.Machine

@[simp] theorem refusedBy_nil (r : Option Status) : refusedBy [] r ↔ r = none := Iff.rfl

/-- A first check that fails gives its refusal. -/
theorem refusedBy_cons_of_fails {c : Prop} {e : Status} {rest : List (Prop × Status)} {r : Option Status} (h : c) :
    refusedBy ((c, e) :: rest) r ↔ r = some e := by simp [refusedBy, h]

/-- A first check that passes leaves the answer to the rest. -/
theorem refusedBy_cons_of_passes {c : Prop} {e : Status} {rest : List (Prop × Status)} {r : Option Status} (h : ¬ c) :
    refusedBy ((c, e) :: rest) r ↔ refusedBy rest r := by simp [refusedBy, h]

/-- Nothing is refused exactly where every check passes. -/
theorem refusedBy_none {checks : List (Prop × Status)} : refusedBy checks none ↔ ∀ y ∈ checks, ¬ y.1 := by
  induction checks with
  | nil => simp
  | cons y rest ih => simp [refusedBy, ih]

/-- A list of decided checks, as the model's requests carry them, answers what the list of their conditions does. -/
theorem refusedBy_decided (checks : List (Bool × Status)) (r : Option Status) :
    refusedBy (checks.map fun y => (y.1 = true, y.2)) r ↔ r = (checks.find? fun y => y.1).map Prod.snd := by
  induction checks with
  | nil => simp
  | cons y rest ih => cases h : y.1 <;> simp [refusedBy, h, ih]

end Sys2Proof.Machine
end

