-- ==== Sys2Proof/Laws/Planner.lean ====
section
/-! SUPPORT. What the planner makes of the self-test's reference problem. -/

namespace Sys2Proof.Machine

/-- The planner's plan of the reference problem meets the answer that R180 asks for. -/
theorem reference_met : referenceMet referenceProblem.plan = true := by decide +kernel

end Sys2Proof.Machine
end

