-- ==== Sys2Proof/Laws/Records.lean ====
section
/-! SUPPORT. The small lemmas of operations on one record: a pause cause of a slot, the windows of the Timebase Unit, and the
answer of a port unit. -/

namespace Sys2Proof.Machine

section
variable (r : Timer) (c : PauseCause) (v : Bool)
@[simp] theorem Timer.setPause_phase : (r.setPause c v).phase = r.phase := rfl
@[simp] theorem Timer.setPause_remaining : (r.setPause c v).remaining = r.remaining := rfl
@[simp] theorem Timer.setPause_point : (r.setPause c v).point = r.point := rfl
@[simp] theorem Timer.setPause_owner : (r.setPause c v).owner = r.owner := rfl
@[simp] theorem Timer.setPause_kind : (r.setPause c v).kind = r.kind := rfl
@[simp] theorem Timer.setPause_start : (r.setPause c v).start = r.start := rfl
@[simp] theorem Timer.setPause_pause : (r.setPause c v).pause = r.pause.set c v := rfl
@[simp] theorem Timer.setPause_probeMark : (r.setPause c v).probeMark = r.probeMark := rfl

/-- A slot that is paused waits for no AT_TEMP start (R49, log 6). -/
theorem Timer.setPause_tempMark : (r.setPause c true).tempMark = false := by simp [Timer.setPause]
end

section
variable (t : Tbu) (f : Window → Window)
@[simp] theorem Tbu.mapWindows_window : (t.mapWindows f).window = t.window.map f := rfl
@[simp] theorem Tbu.mapWindows_ended : (t.mapWindows f).ended = t.ended.map fun e => (e.1, f e.2) := rfl
@[simp] theorem Tbu.mapWindows_source : (t.mapWindows f).source = t.source := rfl
@[simp] theorem Tbu.mapWindows_nominal : (t.mapWindows f).nominal = t.nominal := rfl
@[simp] theorem Tbu.mapWindows_detected : (t.mapWindows f).detected = t.detected := rfl
@[simp] theorem Tbu.mapWindows_slice : (t.mapWindows f).slice = t.slice := rfl
@[simp] theorem Tbu.mapWindows_seconds : (t.mapWindows f).seconds = t.seconds := rfl

@[simp] theorem Tbu.leaveSource_ended : t.leaveSource.ended = t.ended.filter fun e => e.1 = .rc := rfl
@[simp] theorem Tbu.leaveSource_window : t.leaveSource.window = t.window := rfl
@[simp] theorem Tbu.leaveSource_source : t.leaveSource.source = t.source := rfl
@[simp] theorem Tbu.leaveSource_nominal : t.leaveSource.nominal = t.nominal := rfl
@[simp] theorem Tbu.leaveSource_slice : t.leaveSource.slice = t.slice := rfl
end

section
variable (u : PortUnit) (i : Instr) (r : Reply)
@[simp] theorem PortUnit.answer_rx : (u.answer i r).rx = u.rx := by unfold PortUnit.answer; split <;> rfl
@[simp] theorem PortUnit.answer_buffer : (u.answer i r).buffer = u.buffer := by unfold PortUnit.answer; split <;> rfl
@[simp] theorem PortUnit.answer_lastReply : (u.answer i r).lastReply = some r := by unfold PortUnit.answer; split <;> rfl
@[simp] theorem PortUnit.answer_posted : (u.answer i r).posted = u.posted := by unfold PortUnit.answer; split <;> rfl
@[simp] theorem PortUnit.answer_counters : (u.answer i r).counters = u.counters := by unfold PortUnit.answer; split <;> rfl
@[simp] theorem PortUnit.answer_eventMask : (u.answer i r).eventMask = u.eventMask := by
  unfold PortUnit.answer; split <;> rfl
end

end Sys2Proof.Machine
end

