-- ==== Sys2Proof/Tests/Slice0.lean ====
section
/-! SUPPORT. Tests: the smoke tests of WellFormed, values of the spec's own examples, and, for every statement with
hypotheses, a state and operands that meet them together, clause by clause. -/

namespace Sys2Proof.Tests

open Sys2Proof Sys2Proof.Machine

/- One theorem after the other: each is a kernel evaluation, and side by side they would wait on one another in threads of
their own. -/
set_option Elab.async false

/-! ## WellFormed refuses an ill-formed command -/

theorem test_wf_byte : (Instr.pointRead .panelA (.point 256)).wellFormed = false := by decide
theorem test_wf_two_bytes : (Instr.cfgBudget .supervisor 65536).wellFormed = false := by decide
theorem test_wf_three_bytes : (Instr.clockSet .panelA 16777216).wellFormed = false := by decide
theorem test_wf_temperature : (Instr.cfgLimits .supervisor (some 32768) none).wellFormed = false := by decide
theorem test_wf_offset :
    (Instr.senseConfig .supervisor none none (some [⟨0, none, some 128⟩]) false).wellFormed = false := by decide
theorem test_wf_delta : (Instr.timerAdjust .panelA ⟨0, 0⟩ 8388608).wellFormed = false := by decide
theorem test_wf_list : (Instr.seqStore .panelB 0 (List.replicate 10 ⟨1, 4, 100, 0⟩)).wellFormed = false := by decide
theorem test_wf_samples : (Instr.conversionEnd [0, 0, 0]).wellFormed = false := by decide
theorem test_wf_burst : (Instr.readBurstEnd (.read [0])).wellFormed = false := by decide
theorem test_wf_no_rc_count : (Instr.sliceBoundary 16384 25 0).wellFormed = false := by decide
theorem test_wf_accepts : (Instr.sliceBoundary 16384 25 1).wellFormed = true ∧
    (Instr.clockSet .panelA 16777215).wellFormed = true ∧ (Instr.conversionEnd [0, 0]).wellFormed = true := by decide

/-! ## Values of the spec's examples -/

/-- The frame of a CLOCK_READ (10_ports_requests_and_message_formats.md, R188). -/
theorem test_crc8_clock_read : crc8 [0x01, 0x02] = 0xB7 := by decide +kernel

/-- The nine bytes of the characters "1" to "9" (R79). -/
theorem test_crc16_nine_digits : crc16 [0x31, 0x32, 0x33, 0x34, 0x35, 0x36, 0x37, 0x38, 0x39] = 0x29B1 := by
  decide +kernel

theorem test_decode_clock_read : decodeRequest .panelA 0x02 [] = .ok (.clockRead .panelA) := by decide +kernel
theorem test_decode_unknown : decodeRequest .panelA 0x7F [] = .unknownRequest := by decide +kernel
theorem test_decode_length : decodeRequest .panelA 0x01 [0x01] = .badLength := by decide +kernel

/-- A window at 50 Hz with X = 327 010 gives 501 and agrees with a tolerance of 1 (R12). -/
theorem test_window_501 : (Window.mk 500 327010 40000000 true true true true).referenced = some 501 ∧
    (Window.mk 500 327010 40000000 true true true true).near .hz50 1 = true := by decide +kernel

/-! ## States for the witnesses -/

/-- The part on XTAL in an operating state, its masters, gates and halt as that state has them, nothing else begun. -/
def calm (op : OpState) : State :=
  { State.reset with
    tbu := { Tbu.reset with source := .xtal, crystalRunning := true, crystal := .qualified, sliceCrystal := true }
    ptc := { Ptc.reset with reasons := .of fun _ => ⟨false, false, decide (op ≠ .run), false, false⟩ }
    tme := { Tme.reset with halt := decide (op = .hold ∨ op = .lockout) }
    dru := { Dru.reset with gms := gmsOf op, ems := emsOf op .none }
    stc := { Stc.reset with op := op, holds := .of fun _ => false } }

/-- The part on RC in CONFIG. -/
def onRc : State :=
  let s := calm .config
  { s with tbu := { Tbu.reset with source := .rc, sliceCrystal := true, qualRun := 3 }
           stc := { s.stc with holds := s.stc.holds.set .timebase true } }

/-- A timer of one second left. -/
def lastSecond (k : Kind) (p : Option Point) (o : Owner) : Timer :=
  { kind := k, point := p, owner := o, phase := .started, duration := 60, remaining := 1, start := .immediate,
    probe := none, follower := none, pause := ⟨false, false⟩, level := 2, endCause := none, tickDue := true,
    tempMark := false, probeMark := false }

/-- A state with a timer in slot 0. -/
def withTimer (s : State) (r : Timer) : State := s.setTimer 0 (some r)

/-- The handle of slot 0. -/
def h0 : Handle := ⟨0, 0⟩

/-- A state with channel SQ-OV replaced. -/
def withChannel (s : State) (st : ChanState) (steps : List Machine.Step) (k : Option Nat) (h : Option Handle) : State :=
  s.setSqu (s.squ.set .ov { Channel.reset with state := st, steps := steps, current := k, slot := h })

/-- A step of a minute on L2. -/
def minute (a : EndAction) : Machine.Step := ⟨60, 4, 100, a⟩

/-- A state with a memory job in flight. -/
def withJob (s : State) (j : Job) (bus : BusState) (g : Progress) : State :=
  s.setPmc { s.pmc with jobs := [j], bus := bus, progress := g }

/-- A READ of SQ-OV for panel A and a WRITE of the supervisor. -/
def readJob : Job := ⟨.read .panelA, 0, .channel .ov, false⟩
def writeJob : Job := ⟨.write [], 0, .supervisor, false⟩

/-- A state with one port unit replaced. -/
def withPort (s : State) (p : Port) (u : PortUnit) : State := s.setPorts (s.ports.set p u)

/-- A drive test of L0 in CONFIG, its bar not begun or ended. -/
def testing (begun : Bool) : State :=
  let s := calm .config
  { s with
    dru := { s.dru with
      ems := true
      test := { DriveTest.reset with
        status := .running
        mask := .of fun l => l = .l0
        bars := [⟨.l0, 10⟩]
        begun := begun
        left := if begun then [] else [⟨.l0, 10⟩] } } }

/-- A channel next in the scan of a state. -/
def nextInScan (s : State) (c : Sensor) : State := s.setSnu { s.snu with scanLeft := [c], scanN := some 1 }

/-- The part in RUN with the time of day set, every channel at 50 °C, and a DELAY_START of the supervisor on OV in slot 0. -/
def creating : State :=
  let s := withTimer (calm .run) (lastSecond .delayStart (some .ov) (.role .supervisor))
  { s with tbu := { s.tbu with timeOfDay := some 5 }
           snu := { s.snu with channels := .of fun c => { s.snu.channels.get c with reading := .temp 50 } } }

/-- `creating` with its first slots holding that DELAY_START. -/
def crowded (n : Nat) : State :=
  let r := lastSecond .delayStart (some .ov) (.role .supervisor)
  creating.setTme { creating.tme with slots := List.replicate n ⟨0, some r⟩ ++ List.replicate (24 - n) ⟨0, none⟩ }

/-! ## Effects of the spec's examples -/

/-- The state after a command. -/
def after (i : Instr) (s : State) : State :=
  match exec i s with
  | .next t => t
  | _ => s

/-- A scan of two samples on CAV with a gain and an offset. -/
def scanning (gain : Nat) (offset : Int) : State :=
  let s := calm .run
  s.setSnu { s.snu with
    scanLeft := [.cav], scanN := some 2
    channels := s.snu.channels.set .cav ⟨.unavailable, none, gain, offset, none⟩ }

/-- The worked conversions of 07_temperature_sensing.md (R147). -/
theorem test_conversion_316 :
    ((after (.conversionEnd [560, 560]) (scanning 66 (-3))).snu.channels.get .cav).reading = .temp 316 := by
  decide +kernel

theorem test_conversion_below_zero :
    ((after (.conversionEnd [30, 30]) (scanning 70 2)).snu.channels.get .cav).reading = .temp (-23) := by decide +kernel

theorem test_conversion_clamped :
    ((after (.conversionEnd [1010, 1010]) (scanning 80 0)).snu.channels.get .cav).reading = .temp 600 := by
  decide +kernel

/-- 100 slices over three loads are bars of 33, 33 and 34 (R135). -/
theorem test_drive_test_bars :
    (after (.driveTest .supervisor 7 100) ((calm .config).setSpl { (calm .config).spl with
      loads := .of fun _ => ⟨1000, false, none⟩ })).dru.test.bars = [⟨.l0, 33⟩, ⟨.l1, 33⟩, ⟨.l2, 34⟩] := by
  decide +kernel

/-- The last byte of a CLOCK_READ frame hands the request to its block (R188, R189). -/
theorem test_clock_read_frame :
    ((after (.byteReceived .panelA 0xB7) (withPort (calm .run) .panelA
      { PortUnit.reset with rx := .body [1, 2] 1 })).ports.get .panelA).service = .handed (.clockRead .panelA) := by
  decide +kernel

/-! ## The hypotheses of each statement, met together -/

theorem witness_IdleStepIsAnRcMillisecond :
    (State.reset.pending = [] ∧ State.reset.stc.op = .selftest) ∧
    ((calm .config).pending = [] ∧ (calm .config).stc.op ≠ .selftest) := by decide

theorem witness_LinesFollowTheirSets : ∃ t, exec .crystalStart (calm .run) = .next t := ⟨_, rfl⟩

/-- A hold requested in RUN: the entry of HOLD joins at level 4, SOUNDING; its mark is turned by the RESUME. -/
theorem witness_LinesFollowTheirSets_causes :
    let t := after (.holdRequest .supervisor) (calm .run)
    let entry := fun b => [(⟨.system .hold b, none, 0, 4, 4, true⟩ : Alert)]
    joinedEntries (calm .run) t = entry true ∧ t.alc.entries = entry true ∧
    (after (.resume .supervisor) t).alc.entries = entry false ∧ (t.ports.get .panelA).posted.alertChanged = true := by
  decide +kernel

/-- The state of the witnesses meets every relation between blocks. -/
theorem calm_sound : (calm .run).Sound where
  lines := by unfold State.LinesFollow; decide
  masters := by unfold State.MastersFollow; decide
  gates := by intro p; cases p <;> decide
  halt := by unfold State.HaltFollows; decide
  timebase := by unfold State.TimebaseHeld; decide
  run := by unfold State.RunIsClear; decide
  test := by unfold State.TestInConfig; decide
  first := by unfold State.FirstFaultHeld; decide

theorem witness_StepKeepsSound :
    (State.Sound { calm .run with pending := [.mainsPresent] }) ∧
    ∃ t, step { calm .run with pending := [.mainsPresent] } = .next t :=
  ⟨⟨calm_sound.lines, calm_sound.masters, calm_sound.gates, calm_sound.halt, calm_sound.timebase, calm_sound.run,
    calm_sound.test, calm_sound.first⟩, _, rfl⟩

theorem witness_StepKeepsBounded :
    (State.Bounded { calm .run with pending := [.mainsPresent] }) ∧
    ∃ t, step { calm .run with pending := [.mainsPresent] } = .next t :=
  ⟨⟨by decide, fun l => by cases l <;> decide, fun p => by cases p <;> decide, by decide⟩, _, rfl⟩

theorem witness_LockoutStays :
    Instr.stateRead .panelA ≠ .coldReset ∧ (calm .lockout).stc.op = .lockout ∧ (calm .lockout).dru.gms = false ∧
    (calm .lockout).dru.ems = false ∧ ∃ t, exec (.stateRead .panelA) (calm .lockout) = .next t :=
  ⟨by decide, by decide, by decide, by decide, _, rfl⟩

theorem witness_FaultsStayLatched :
    Instr.mainsPresent ≠ .coldReset ∧ (∀ p fs, Instr.mainsPresent ≠ .faultClear p fs) ∧
    (∃ t, exec .mainsPresent ((calm .run).latch (.plain .memory)) = .next t) ∧
    ((calm .run).latch (.plain .memory)).stc.faults.get (.plain .memory) = true :=
  ⟨by decide, fun _ _ => Instr.noConfusion, ⟨_, rfl⟩, by decide⟩

/-- A sensor failure latches into a record in which every flag is clear. -/
theorem witness_FaultsStayLatched_first :
    let s := nextInScan (calm .run) .cav
    let t := after (.conversionEnd [1016]) s
    (∀ f ∈ FaultId.all, s.stc.faults.get f = false) ∧ t.stc.faults.get (.plain .sensor) = true ∧
    t.stc.firstFault = some (.plain .sensor, 0) := by decide +kernel

theorem witness_RefusedBeforeTheBlock :
    asRequest (.holdRequest .panelA) = some (.panelA, 0xCA, true) ∧ Port.panelA ≠ .supervisor ∧
    asRequest (.clockRead .panelA) = some (.panelA, 0x82, false) ∧ asRequest (.cfgCommit .supervisor) =
      some (.supervisor, 0xC8, true) ∧ State.reset.LinesFollow ∧ State.reset.stc.op = .selftest := by
  unfold State.LinesFollow; decide

theorem witness_RepliesGoOutToTheFrameInService :
    asRequest (.clockRead .panelA) = some (.panelA, 0x82, false) ∧
    ((withPort (calm .run) .panelA { PortUnit.reset with service := .handed (.clockRead .panelA) }).ports.get
      .panelA).service = .handed (.clockRead .panelA) ∧
    (∃ t, exec (.clockRead .panelA)
      (withPort (calm .run) .panelA { PortUnit.reset with service := .handed (.clockRead .panelA) }) = .next t) ∧
    Instr.clockRead .panelA ∉ ((calm .run).ports.get .panelA).cutOff ∧
    ((withPort (calm .run) .panelA { PortUnit.reset with cutOff := [.clockRead .panelA] }).ports.get .panelA).cutOff =
      [.clockRead .panelA] :=
  ⟨by decide, by decide, ⟨_, rfl⟩, by decide, by decide⟩

theorem witness_TableReadsChangeNothing :
    let s := withTimer (calm .run) (lastSecond .minder none (.role .panelA))
    s.stc.op ≠ .selftest ∧ s.LinesFollow ∧
    s.tme.lookup h0 = .ok (lastSecond .minder none (.role .panelA)) := by
  unfold State.LinesFollow; decide +kernel

theorem witness_UnitReadsChangeNothing :
    State.reset.LinesFollow ∧ (calm .run).LinesFollow ∧ (calm .run).stc.op ≠ .selftest := by
  unfold State.LinesFollow; decide

theorem witness_LayoutsHaveTheirLengths : (List.replicate 8 (minute .next)).length ≤ 8 := by decide

/-- A time above the limit and at it; a wait whose start time it is, and one that starts a second later. -/
theorem witness_ClockSetIsTaken :
    (State.reset.LinesFollow ∧ State.reset.stc.op = .selftest) ∧
    (calm .run).LinesFollow ∧ (calm .run).stc.op ≠ .selftest ∧ 86399 < 86400 ∧ 86399 ≤ 86399 ∧
    (let r := fun n => { lastSecond .minder none (.role .panelA) with phase := .waiting, start := .atTime n 9 }
     startsAt 86399 (r 86399) = true ∧ startsAt 86399 (r 0) = false ∧
       (withTimer (calm .run) (r 86399)).tme.timers = [r 86399]) := by
  unfold State.LinesFollow; decide +kernel

theorem witness_CfgTimebaseIsTaken :
    ((calm .run).LinesFollow ∧ (calm .run).stc.op ≠ .selftest ∧ (calm .run).stc.op ≠ .lockout ∧
      (2 : Nat) ∈ [0, 1, 2] ∧ (calm .run).stc.op ≠ .config) ∧
    ((calm .config).LinesFollow ∧ (calm .config).stc.op = .config) := by
  unfold State.LinesFollow; decide

theorem witness_CrystalStopEndsXtal :
    (calm .run).tbu.source = .xtal ∧ (calm .run).tbu.crystalRunning = true ∧ (calm .run).stc.op = .run ∧
    (calm .run).stc.noHold = true ∧ (calm .config).tbu.source = .xtal ∧ (calm .config).tbu.crystalRunning = true ∧
    (calm .config).stc.op ≠ .run ∧
    (let w := Window.fresh true true false
     let s := (calm .run).setTbu { (calm .run).tbu with ended := some (.rc, w) }
     s.tbu.source = .xtal ∧ s.tbu.crystalRunning = true ∧ s.tbu.ended = some (.rc, w)) := by decide

theorem witness_MainsAndCrystalMarks :
    let s := (calm .run).setTbu { (calm .run).tbu with mainsPresent := true }
    let t := s.setTbu { s.tbu with source := .mains }
    (s.LinesFollow ∧ s.tbu.mainsPresent = true ∧ s.tbu.source ≠ .mains) ∧
    (t.LinesFollow ∧ t.tbu.mainsPresent = true ∧ t.tbu.source = .mains ∧ t.stc.op = .run ∧ t.stc.noHold = true ∧
      t.tbu.source ≠ .xtal ∧ t.tbu.crystalRunning = true) := by
  unfold State.LinesFollow; decide

/-- A boundary into slice 1, an odd one, and a boundary into slice 0; a list with its highest sounding entry, a notice that
plays its first and its last slice, none that plays, and a scan set that only grew. -/
theorem witness_SliceBoundaryCounts :
    ((calm .run).tbu.slice.val + 1) % 40 % 2 = 1 ∧
    (((calm .run).setTbu { (calm .run).tbu with slice := 39 }).tbu.slice.val + 1) % 40 % 2 = 0 ∧
    State.reset.stc.op = .selftest ∧ (calm .run).stc.op ≠ .selftest ∧
    (∀ c ∈ Sensor.all, (calm .run).snu.lastScan.get c = true → (calm .run).snu.scans c = true) ∧
    (let e : Alert := ⟨.timer h0, none, 0, 2, 2, true⟩
     let s := (calm .run).setAlc { (calm .run).alc with entries := [{ e with level := 1 }, e] }
     e ∈ s.alc.entries ∧ e.sounding = true ∧ ∀ y ∈ s.alc.entries, y.sounding = true → y.level ≤ e.level) ∧
    (∀ e ∈ (calm .run).alc.entries, e.sounding = false) ∧ (calm .run).alc.playing = none ∧
    (∀ i ∈ [1, 3, 4], ((calm .run).setAlc { (calm .run).alc with playing := some (.step, i) }).alc.playing =
      some (.step, i)) := by decide +kernel

/-- GRL, PRB and BRD out of the scan at a second tick: OVERTEMP of GR, the hold cause and a PROBE stop end. -/
theorem witness_SliceBoundaryCounts_unscanned :
    let r := { lastSecond .cookEnd (some .ov) (.role .supervisor) with probe := some 65 }
    let u := withTimer (calm .hold) r
    let s := { u with
      tbu := { u.tbu with slice := 39 }
      snu := { u.snu with mask := .of fun c => c = .cav, lastScan := .of fun _ => true }
      ptc := { u.ptc with reasons := .of fun _ => ⟨false, false, true, false, true⟩ }
      stc := { u.stc with holds := .of fun c => c = .boardOvertemp } }
    let t := after (.sliceBoundary 16384 25 1) s
    s.snu.scans .grl = false ∧ s.snu.scans .prb = false ∧ s.snu.scans .brd = false ∧ t.tbu.slice.val % 2 = 0 ∧
    t.stc.op = s.stc.op ∧ (s.ptc.reasons.get .gr).overtemp = true ∧ (t.ptc.reasons.get .gr).overtemp = false ∧
    (t.ptc.reasons.get .ov).overtemp = true ∧ s.stc.holds.boardOvertemp = true ∧ t.stc.holds.boardOvertemp = false ∧
    (t.tme.timer 0).map Timer.probe = some none ∧ (t.ports.get .supervisor).posted.feedback = true := by decide +kernel

theorem witness_FourRcSlicesQualifyTheCrystal :
    onRc.tbu.source = .rc ∧ onRc.tbu.qualRun = 3 ∧ onRc.tbu.qualRun < 4 ∧ onRc.tbu.sliceCrystal = true ∧
    (15074 ≤ 15074 ∧ 15074 ≤ 17694) ∧ (15074 ≤ 17694 ∧ 17694 ≤ 17694) ∧ 15073 < 15074 ∧ 17694 < 17695 ∧
    (onRc.setTbu { onRc.tbu with qualRun := 2 }).tbu.qualRun < 3 := by decide

/-- A state with a window that the last boundary ended, on its source. -/
def withWindow (src : Source) (w : Window) (d : Option Nominal) (run : Nat) : State :=
  (calm .run).setTbu { (calm .run).tbu with
    source := src, ended := some (src, w), detected := d, agreeRun := run, mainsPresent := true }

/-- Windows at the edges: G of 301 466 passes and of 301 465 fails, G of 353 894 passes and of 353 895 fails; R of 510 agrees
at a tolerance of 10, R of 511 does not; mains counts at the bounds of detection; each source with a window of its own, a
window of a source that is left, the nominal known and not. -/
theorem witness_WindowEndOnXtal :
    (let w : Window := ⟨510, 327680, 43478203, true, true, true, true⟩
     let n := Nominal.hz50
     (∀ src ∈ [Source.xtal, .rc, .mains], ∀ d ∈ [some n, none], ∀ run ∈ [4, 5],
       let s := withWindow src w d run
       s.tbu.ended = some (src, w) ∧ s.tbu.source = src ∧ s.tbu.detected = d ∧ s.tbu.nominal = d ∧ s.tbu.agreeRun = run ∧
         s.tbu.mainsPresent = true) ∧
     w.known = true ∧ w.mains = true ∧ w.detect = true ∧ w.crystal = true ∧ w.x ≠ 0 ∧
     (2 * w.m * 327680 + w.x) / (2 * w.x) = 510 ∧ w.x * 40000000 / w.c = 301466 ∧
     (withWindow .xtal w (some n) 0).tbu.tolerance = 10 ∧ (withWindow .xtal w (some n) 0).tbu.source ≠ .mains) ∧
    327680 * 40000000 / 43478204 = 301465 ∧ 327680 * 40000000 / 37037078 = 353894 ∧
    327680 * 40000000 / 37036974 = 353895 ∧ 510 ≤ 500 + 10 ∧ 500 + 10 < 511 ∧
    [474, 475, 525, 526, 569, 570, 630, 631].map detectNominal =
      [none, some .hz50, some .hz50, none, none, some .hz60, some .hz60, none] := by
  decide +kernel

/-- The window begun at the boundary whose WINDOW_END detects the nominal is known from its start (R7, R8; the worked sequence
of 01_timebase_and_the_slice_clock.md). -/
theorem test_window_after_detection :
    (after .windowEnd ((withWindow .xtal ⟨501, 327680, 40000000, true, true, false, true⟩ none 0).setTbu
      { (withWindow .xtal ⟨501, 327680, 40000000, true, true, false, true⟩ none 0).tbu with
        window := some (Window.fresh true true false) })).tbu.window = some (Window.fresh true true true) := by decide +kernel

theorem witness_PointDemandOnGas :
    (calm .run).LinesFollow ∧ (calm .run).stc.op ≠ .selftest ∧
    Port.supervisor ≠ ((calm .run).ptc.panel.get Gas.z1.point).port ∧
    Port.panelA = ((calm .run).ptc.panel.get Gas.z1.point).port ∧ 1 < 2 ∧ 1 ≤ 1 := by
  unfold State.LinesFollow; decide

theorem witness_PointDemandOnElectric :
    (calm .run).stc.op ≠ .selftest ∧ Point.ov.electric = true ∧ [100, 0, 255].length = Point.ov.loads.length ∧
    Point.gr.electric = true ∧ Port.panelB = ((calm .run).ptc.panel.get .gr).port ∧ [0, 101].length = Point.gr.loads.length := by
  decide

theorem witness_ConfigAloneSetsThese :
    ((calm .run).LinesFollow ∧ (calm .run).stc.op ≠ .selftest ∧ (calm .run).stc.op ≠ .config) ∧
    ((calm .config).LinesFollow ∧ (calm .config).stc.op = .config) ∧
    127 ≤ 127 ∧ 63488 % 64 = 0 ∧ 63488 ≤ 63488 ∧ 32767 < 32768 := by
  unfold State.LinesFollow; decide

theorem witness_CfgAssignMovesAPoint :
    (calm .config).LinesFollow ∧ (calm .config).stc.op = .config ∧ (calm .config).ptc.panel.get .z6 = .a ∧
    (calm .config).ptc.panel.get .ov ≠ .a := by
  unfold State.LinesFollow; decide

theorem witness_TimerCreateStartsASlot :
    creating.LinesFollow ∧ creating.stc.op ≠ .selftest ∧ creating.tme.slots.length = 24 ∧
      creating.tme.slots[1]? = some { gen := 0, timer := none } ∧ ∀ m < 1, creating.tme.timer m ≠ none := by
  unfold State.LinesFollow; decide +kernel

theorem witness_HandlesAreChecked :
    let s := calm .run
    s.LinesFollow ∧ s.stc.op ≠ .selftest ∧ s.tme.slots.length = 24 ∧
    24 ≤ (24 : Byte).toNat ∧
    (∃ x, (23 : Byte).toNat < 24 ∧ s.tme.slots[(23 : Byte).toNat]? = some x ∧ x.gen ≠ 1) ∧
    (∃ x, (23 : Byte).toNat < 24 ∧ s.tme.slots[(23 : Byte).toNat]? = some x ∧ x.gen = 0 ∧ x.timer = none) ∧
    Kind.ofCode 1 = some .cookEnd ∧ 60 ≠ 0 ∧ 1 ≤ 3 ∧ Point.ov.electric = true ∧ s.stc.op = .run ∧
    (s.ptc.panel.get .ov).port = .panelB :=
  ⟨by unfold State.LinesFollow; decide, by decide, by decide, by decide, ⟨⟨0, none⟩, by decide⟩, ⟨⟨0, none⟩, by decide⟩,
    by decide⟩

/-- The three phases of a timer that its owner adjusts, an expired MINDER, and an expired COOK_END whose gate opens. -/
theorem witness_TimerAdjustMovesTime :
    (let r := { lastSecond .cookEnd (some .ov) (.role .supervisor) with phase := .expired, endCause := some .probe }
     let s := withTimer (calm .run) r
     let u := s.setPtc { s.ptc with reasons := s.ptc.reasons.set .ov ⟨false, true, false, false, false⟩ }
     u.LinesFollow ∧ u.stc.op ≠ .selftest ∧ u.tme.lookup h0 = .ok r ∧ r.modifiableBy .supervisor = true ∧
       r.point = some .ov ∧ u.gateOpen .ov = false ∧
       (u.setPtc { u.ptc with reasons := s.ptc.reasons }).gateOpen .ov = true) ∧
    let r := lastSecond .minder none (.role .panelA)
    ∀ ph ∈ [Phase.started, .waiting, .expired],
      (withTimer (calm .run) { r with phase := ph }).pins = (withTimer (calm .run) { r with phase := ph }).lines ∧
      (calm .run).stc.op ≠ .selftest ∧
      (withTimer (calm .run) { r with phase := ph }).tme.lookup h0 = .ok { r with phase := ph } ∧
      r.modifiableBy .panelA = true ∧ r.kind = .minder ∧ r.point = none := by
  unfold State.LinesFollow; decide +kernel

theorem witness_PausesSetUser :
    (let r := lastSecond .minder none (.role .panelA)
     let s := withTimer (calm .run) r
     s.LinesFollow ∧ s.stc.op ≠ .selftest ∧ s.tme.lookup h0 = .ok r ∧ r.modifiableBy .panelB = false ∧
       r.modifiableBy .panelA = true ∧ r.phase ≠ .expired ∧
       (withTimer s { r with phase := .expired }).tme.lookup h0 = .ok { r with phase := .expired }) ∧
    (let r := lastSecond .step (some .ov) (.channel .ov)
     let s := withChannel (withTimer (calm .run) r) .active [minute .next] (some 1) (some h0)
     s.LinesFollow ∧ (s.squ.get .ov).state = .active ∧ (s.squ.get .ov).slot = some h0 ∧ s.tme.lookup h0 = .ok r) ∧
    ((calm .run).squ.get .ov).state ≠ .active := by
  unfold State.LinesFollow; decide +kernel

/-- An expired slot, a DELAY_START and a COOK_END, each cancelled by its owner. -/
theorem witness_TimerCancelFreesTheSlot :
    ∀ r ∈ [{ lastSecond .minder none (.role .panelA) with phase := .expired },
           lastSecond .delayStart (some .ov) (.role .panelA), lastSecond .cookEnd (some .ov) (.role .panelA)],
      (withTimer (calm .run) r).stc.op ≠ .selftest ∧ (withTimer (calm .run) r).tme.lookup h0 = .ok r ∧
      r.modifiableBy .panelA = true ∧ r.start = .immediate := by decide +kernel

/-- A slot without an owner and a slot with one; a supervisor with 3 slots and with 4. -/
theorem witness_TimerAdoptTakesAnOrphan :
    let orphan := lastSecond .minder none .nobody
    let own := lastSecond .minder none (.role .supervisor)
    let s := withTimer (calm .run) orphan
    let full := fun n => s.setTme { s.tme with
      slots := ⟨0, some orphan⟩ :: (List.replicate n ⟨0, some own⟩ ++ List.replicate (23 - n) Slot.reset) }
    s.stc.op ≠ .selftest ∧ s.pins = s.lines ∧ (full 4).pins = (full 4).lines ∧
    (full 3).tme.lookup h0 = .ok orphan ∧ (full 4).tme.lookup h0 = .ok orphan ∧
    (full 3).tme.held (.role .supervisor) < 4 ∧ 4 ≤ (full 4).tme.held (.role .supervisor) ∧
    (withTimer s own).tme.lookup h0 = .ok own ∧ own.owner ≠ .nobody := by decide +kernel

theorem witness_TimerExpiryRaisesAnEntry :
    ∀ r ∈ [lastSecond .minder none (.role .panelA), lastSecond .cookEnd (some .ov) (.role .supervisor),
           lastSecond .cookEnd (some .z1) (.role .panelA)],
      let s := withTimer (calm .run) r
      s.tme.tickSlot = some 0 ∧ s.tme.timer 0 = some r ∧ r.running = true ∧ r.remaining = 1 ∧ s.stc.op ≠ .selftest ∧
      s.gateOpen .ov = true := by decide +kernel

/-- A DELAY_START in slot 0 whose follower waits in slot 1, without a threshold and with one. -/
theorem witness_DelayStartExpiryOpensTheGate :
    ∀ c ∈ [none, some 60],
    let r := { lastSecond .delayStart (some .ov) (.role .supervisor) with follower := some ⟨1, 0⟩ }
    let u := { lastSecond .cookEnd (some .ov) (.role .supervisor) with
      phase := .waiting, start := .afterLeader (some h0) c, tickDue := false }
    let s := (withTimer (calm .run) r).setTimer 1 (some u)
    s.tme.tickSlot = some 0 ∧ s.tme.timer 0 = some r ∧ r.running = true ∧ r.remaining = 1 ∧ r.kind = .delayStart ∧
    r.point = some .ov ∧ s.stc.op ≠ .selftest ∧ s.tme.lookup ⟨1, 0⟩ = .ok u ∧ (⟨1, 0⟩ : Handle).slot.toNat ≠ 0 ∧
    u.start = .afterLeader (some h0) c ∧ u.phase = .waiting := by decide +kernel

/-- A gate that DELAY alone holds closed is open after the expiry, one that another reason holds is not. -/
theorem witness_DelayStartExpiryOpensTheGate_gates :
    ∀ y ∈ [(false, true), (true, false)],
    let r := lastSecond .delayStart (some .ov) (.role .supervisor)
    let s := (withTimer (calm .run) r).setPtc { (calm .run).ptc with reasons := .of fun _ => ⟨true, y.1, false, false, false⟩ }
    s.gateOpen .ov = false ∧ (after .timerExpiry s).gateOpen .ov = y.2 := by decide +kernel

theorem witness_WaitsAndProbesAct :
    (let r := { lastSecond .minder none (.role .panelA) with phase := .waiting, start := .atTime 0 1 }
     let s := withTimer (calm .run) r
     s.tme.timer 0 = some r ∧ s.stc.op ≠ .selftest ∧ s.tme.tickSlot = some 0 ∧ r.waitsTime = true) ∧
    (let r := { lastSecond .cookEnd (some .ov) (.role .supervisor) with
       phase := .waiting, start := .atTemp 180, tempMark := true }
     let s := withTimer (calm .run) r
     s.tme.timer 0 = some r ∧ s.tme.lowest Timer.tempDue = some 0) ∧
    (let r := { lastSecond .cookEnd (some .ov) (.role .supervisor) with probe := some 65, probeMark := true }
     let s := withTimer (calm .run) r
     s.tme.timer 0 = some r ∧ s.tme.lowest Timer.probeDue = some 0 ∧ r.point = some .ov) := by decide +kernel

/-- Every state of the channel, and a step whose mask is within the channel's elements. -/
theorem witness_SeqStoreFillsAChannel :
    (∀ st ∈ [ChanState.loading, .active, .waitingAck, .empty, .ready, .failed, .done],
      let s := withChannel (calm .run) st [] none none
      s.pins = s.lines ∧ s.stc.op ≠ .selftest ∧ (s.squ.get .ov).state = st) ∧
    1 ≠ 0 ∧ 28 &&& SeqChan.ov.maskBits = 28 ∧ EndAction.ofCode 1 = some .pauseForAck := by decide +kernel

theorem witness_JobsJoinTheQueue :
    (let s := calm .run
     s.LinesFollow ∧ s.stc.op ≠ .selftest ∧ 31 ≤ 31 ∧ s.pmc.busy (.channel .ov) = false ∧ s.pmc.busy .supervisor = false ∧
       s.pmc.jobs = [] ∧ (s.squ.get .ov).state = .empty ∧ (s.squ.get .ov).slot = none ∧
       stepsOfFields .ov [⟨60, 4, 100, 0⟩] = some [minute .next]) ∧
    (let s := withJob (calm .run) writeJob .pollWait (Progress.fresh (.page 0) 0x50 0)
     s.LinesFollow ∧ s.pmc.busy .supervisor = true ∧ s.pmc.busy (.channel .ov) = false ∧ s.pmc.jobs ≠ []) := by
  unfold State.LinesFollow; decide +kernel

theorem witness_SeqStartRunsAProgram :
    let s := withChannel (calm .run) .ready [minute .next, minute .next] none none
    s.stc.op = .run ∧ (s.squ.get .ov).state = .ready ∧ (s.squ.get .ov).steps = [minute .next, minute .next] ∧
    s.tme.hasKind SeqChan.ov.point .cookEnd = false ∧ s.tme.firstFree = some 0 ∧
    s.tme.slots[0]? = some ⟨0, none⟩ ∧ (calm .hold).stc.op = .hold := by decide +kernel

/-- A first step with each end action, and a last step. -/
theorem witness_StepsFollowOneAnother :
    let r := lastSecond .step (some .ov) (.channel .ov)
    let s := fun a k => withChannel (withTimer (calm .run) r) .active [minute a, minute .next] (some (k + 1)) (some h0)
    (s .next 0).tme.tickSlot = some 0 ∧ (s .next 0).tme.timer 0 = some r ∧ r.running = true ∧ r.remaining = 1 ∧
    ((s .next 0).squ.get .ov).steps[0]? = some (minute .next) ∧ ((s .next 0).squ.get .ov).steps[1]? = some (minute .next) ∧
    ((s .pauseForAck 0).squ.get .ov).steps[0]? = some (minute .pauseForAck) ∧
    ((s .next 1).squ.get .ov).current = some 2 ∧ ((s .next 1).squ.get .ov).steps[2]? = none ∧
    (s .next 0).stc.op ≠ .selftest ∧ ((s .next 0).squ.get .ov).state = .active := by decide +kernel

theorem witness_SeqAbortEndsAProgram :
    (∀ st ∈ [ChanState.empty, .ready, .loading, .active, .waitingAck, .done, .failed],
      let s := withChannel (withTimer (calm .run) (lastSecond .step (some .ov) (.channel .ov))) st [] none (some h0)
      s.pins = s.lines ∧ s.stc.op ≠ .selftest ∧ (s.squ.get .ov).state = st ∧ (s.squ.get .ov).slot = some h0) ∧
    (withTimer (calm .run) (lastSecond .step (some .ov) (.channel .ov))).tme.lookup h0 =
      .ok (lastSecond .step (some .ov) (.channel .ov)) := by decide +kernel

/-- A LOADING channel whose job is in flight, and one whose job is queued behind a write. -/
theorem witness_SeqAbortEndsAProgram_jobs :
    let s := fun js => let u := withChannel (calm .run) .loading [] none none
      { u with pmc := { u.pmc with jobs := js } }
    let other : Job := ⟨.read .panelB, 3, .channel .gr, false⟩
    let left := fun js => (after (.seqAbort .supervisor SeqChan.ov.index) (s js)).pmc.jobs
    left [readJob, other] = [{ readJob with discard := true }, other] ∧ left [writeJob, readJob, other] = [writeJob, other] := by
  decide +kernel

/-- The last attempt but one, the last burst but one, the last page and the last poll but one. -/
theorem witness_BusEventsMoveTheJob :
    let s := fun b tr a n => withJob (calm .run) writeJob b
      { Progress.fresh tr 0x50 0 with attempts := a, polls := n }
    (s .waitFree (.page 0) 0 0).LinesFollow ∧ (s .waitFree (.page 0) 0 0).pmc.bus = .waitFree ∧
    (s .retryWait (.page 0) 0 0).pmc.bus = .retryWait ∧
    (s .transfer (.burst 2) 1 0).pmc.bus = .transfer ∧ (s .transfer (.burst 2) 1 0).pmc.progress.transfer = .burst 2 ∧
    (s .transfer (.burst 2) 1 0).pmc.progress.attempts < 2 ∧
    (s .transfer (.page 3) 1 0).pmc.progress.transfer = .page 3 ∧
    (s .pollWait (.page 3) 0 18).pmc.bus = .pollWait ∧ (s .pollWait (.page 3) 0 18).pmc.progress.polls < 19 := by
  unfold State.LinesFollow; decide +kernel

theorem witness_JobsFailWithAnOutcome :
    let s := fun j b tr a n => withJob (withChannel (calm .run) .loading [] none none) j b
      { Progress.fresh tr 0x50 0 with attempts := a, polls := n }
    (∀ b ∈ [BusState.waitFree, .transfer, .pollWait], (s writeJob b (.page 0) 0 0).pmc.jobs = [writeJob] ∧
      (s writeJob b (.page 0) 0 0).pmc.bus = b) ∧
    (s readJob .transfer (.burst 0) 2 0).pmc.jobs = [readJob] ∧ (s readJob .transfer (.burst 0) 2 0).pmc.progress.attempts = 2 ∧
    ((s readJob .transfer (.burst 0) 2 0).squ.get .ov).state = .loading ∧
    (s writeJob .transfer (.page 0) 2 0).pmc.progress.attempts = 2 ∧
    (s writeJob .pollWait (.page 0) 0 19).pmc.progress.polls = 19 := by decide +kernel

/-- The fourth burst of a write that reads back as written and of one that does not, and of reads with a wrong check word and
of another point's record. -/
theorem witness_JobsFailWithAnOutcome_last_burst :
    let r := programRecord .ov [minute .next]
    let s := fun j => withJob (withChannel (calm .run) .loading [] none none) j .transfer
      { Progress.fresh (.burst 3) 0x50 0 with bytes := r.take 48 }
    let w : Job := ⟨.write r, 0, .supervisor, false⟩
    (s w).pmc.jobs = [w] ∧ (s w).pmc.progress.transfer = .burst 3 ∧ (s w).pmc.progress.bytes ++ r.drop 48 = r ∧
    (s w).pmc.progress.bytes ++ (r.drop 48).reverse ≠ r ∧ ((s readJob).squ.get .ov).state = .loading ∧
    validateRecord .ov ((s readJob).pmc.progress.bytes ++ (r.drop 48).reverse) = .error .badRecord ∧
    validateRecord .gr ((s readJob).pmc.progress.bytes ++ r.drop 48) = .error .wrongPoint := by
  unfold Progress.fresh; decide +kernel

/-- The fourth burst of a READ whose channel was discarded. -/
theorem witness_JobsFailWithAnOutcome_discarded :
    let j := { readJob with discard := true }
    let s := withJob (calm .run) j .transfer { Progress.fresh (.burst 3) 0 0 with attempts := 0 }
    let t := after (.readBurstEnd (.read [1])) s
    j.requester = .channel .ov ∧ j.discard = true ∧ s.pmc.jobs = [j] ∧ s.pmc.bus = .transfer ∧
    s.pmc.progress.transfer = .burst 3 ∧ t.pmc.jobs = [] ∧ t.pmc.results = s.pmc.results.set (.channel .ov) (some (.ok, 0)) ∧ t.squ = s.squ := by
  decide +kernel

/-- A program of the fullest step, and its record at the end of the fourth burst. -/
theorem witness_ProgramsReadBack :
    let ts : List Machine.Step := [⟨86399, 28, 100, .pauseForAck⟩, ⟨1, 4, 0, .next⟩]
    let r := programRecord .ov ts
    let s := withJob (withChannel (calm .run) .loading [] none none) readJob .transfer
      { Progress.fresh (.burst 3) 0x50 0 with bytes := r.take 48 }
    1 ≤ ts.length ∧ ts.length ≤ 8 ∧
    (∀ t ∈ ts, 1 ≤ t.duration ∧ t.duration ≤ 86399 ∧ t.mask.toNat &&& SeqChan.ov.maskBits = t.mask.toNat ∧ t.cap ≤ 100) ∧
    s.pmc.jobs = [readJob] ∧ s.pmc.bus = .transfer ∧ s.pmc.progress.transfer = .burst 3 ∧
    s.pmc.progress.bytes ++ r.drop 48 = r ∧ (r.drop 48).length = 16 ∧ (s.squ.get .ov).state = .loading := by
  decide +kernel

theorem witness_PlansKeepToTheBudget :
    let s := (calm .run).setSpl { (calm .run).spl with pending := .building referenceProblem }
    s.LinesFollow ∧ s.spl.pending = .building referenceProblem ∧ referenceProblem.rank.toList.Nodup := by
  unfold State.LinesFollow; decide

/-- The reference problem holds a load granted what it requests, one that is short, and starts other than the preferred. -/
theorem witness_PlansKeepToTheBudget_grants :
    let e := referenceProblem.plan.entries
    (e.get .l4).g = (e.get .l4).r ∧ (e.get .l5).g = 16 ∧ (e.get .l5).r = 40 ∧ (e.get .l1).s = some 20 ∧ (e.get .l1).p = 0 := by
  decide +kernel

theorem witness_LoadsAndBudgetAreStored :
    (∀ s ∈ [calm .lockout, calm .config, calm .run, calm .hold, testing false],
      s.pins = s.lines ∧ s.stc.op ≠ .selftest) ∧
    (testing false).stc.op = .config ∧ (testing false).dru.test.status = .running ∧
    (calm .config).dru.test.status ≠ .running ∧ 3000 % 10 = 0 ∧ 10 ≤ 3000 ∧ 3000 ≤ 3000 ∧ 39 < 40 := by decide +kernel

/-- Boundaries into slice 0 and into slice 1; a load judged at the tolerance and above it, a load found stuck at 20 and one
not at 19, a grace at its last boundary and one before, each plan that may be pending. -/
theorem witness_BoundariesTurnPlansAndSetLines :
    (calm .run).dru.test.status ≠ .running ∧ (39 : Fin 40) + 1 = 0 ∧ (0 : Fin 40) + 1 ≠ 0 ∧
    (let s := { calm .run with
       spl := { (calm .run).spl with loads := .of fun _ => ⟨1000, false, none⟩ }
       dru := { (calm .run).dru with
         sampled := true, allSampled := true, graceBegun := true
         grace := .of fun z => .counting (if z = Gas.z1 then 5 else 4)
         counts := { (calm .run).dru.counts with
           verify := 3, closedLow := .of fun l => if l = Load.l2 then 20 else 19 }
         verifier := { (calm .run).dru.verifier with verified := some .l1, usable := true, tolerance := 2 } } }
     s.dru.verifier.verified = some .l1 ∧ s.dru.verifier.usable = true ∧ s.dru.sampled = true ∧
       s.dru.verifier.tolerance < s.dru.counts.verify ∧ (s.spl.loads.get .l2).power ≠ 0 ∧
       s.dru.counts.driven.get .l2 = 0 ∧ 20 ≤ s.dru.counts.closedLow.get .l2 ∧ s.dru.allSampled = true ∧
       ¬ 20 ≤ s.dru.counts.closedLow.get .l3 ∧ s.stc.faults.stuckOn.get .l2 = false ∧ s.stc.op ≠ .selftest ∧
       s.dru.grace.get .z1 = .counting 5 ∧ s.dru.gp.get .z1 = false) := by decide +kernel

/-- A COMPLETE plan with L0 short of its request after one that is not: SHORTFALL goes to the demand source of L0. -/
theorem witness_BoundariesTurnPlansAndSetLines_shortfall :
    let e := (calm .run).spl.active.entries.get .l0
    let plan := { (calm .run).spl.active with entries := (calm .run).spl.active.entries.set .l0 { e with r := 20, shortfall := true } }
    let s := { (calm .run).setSpl { (calm .run).spl with pending := .complete plan } with
      tbu := { (calm .run).tbu with slice := 39 }
      ptc := { (calm .run).ptc with duty := .of fun _ => 50 } }
    let t := after (.sliceBoundary 327010 25 1) s
    t.tbu.slice = 0 ∧ (s.spl.active.entries.get .l0).shortfall = false ∧ (t.spl.active.entries.get .l0).shortfall = true ∧
    (s.ports.get .panelA).posted.shortfall = false ∧ (t.ports.get .panelA).posted.shortfall = true := by decide +kernel

/-- Withdrawals that wait at a boundary into slice 0 and at another one. -/
theorem witness_BoundariesTurnPlansAndSetLines_withdrawn :
    ∀ n ∈ [(39 : Fin 40), 4],
    let u := calm .run
    let s := { u with
      tbu := { u.tbu with slice := n }
      spl := { u.spl with withdrawals := .of fun _ => true, arrears := .of fun _ => 7 }
      dru := { u.dru with withdrawLoads := .of fun _ => true, withdrawGas := .of fun _ => true } }
    let t := after (.sliceBoundary 16384 25 1) s
    t.spl.withdrawals.get .l3 = false ∧ t.dru.withdrawLoads.get .l3 = false ∧ t.dru.withdrawGas.get .z2 = false ∧
    t.spl.arrears.get .l3 = 0 := by decide +kernel

/-- A bar of a drive test not begun and one past its end: the enable line of its load after the boundary. -/
theorem witness_BoundariesTurnPlansAndSetLines_test :
    ∀ y ∈ [(testing false, true), (testing true, false)],
      y.1.dru.test.status = .running ∧ ((after (.sliceBoundary 327010 25 1) y.1).dru.en.get .l0 = y.2) := by decide +kernel

/-- The load found stuck takes the part to LOCKOUT with EMS low (R134, R178). -/
theorem test_stuck_on :
    let t := after (.sliceBoundary 16384 25 2000000) { calm .run with
      tbu := { (calm .run).tbu with slice := 39 }
      spl := { (calm .run).spl with loads := .of fun _ => ⟨1000, false, none⟩ }
      dru := { (calm .run).dru with
        sampled := true
        counts := { (calm .run).dru.counts with closedLow := .of fun l => if l = Load.l2 then 20 else 19 } } }
    t.stc.op = .lockout ∧ t.dru.ems = false ∧ t.stc.faults.stuckOn = .of fun l => l = Load.l2 := by decide +kernel

/-- An open valve whose grace is over, the sixth and an earlier unexpected-open sample, and a relay that differs. -/
theorem witness_SamplesAreJudged :
    let s := calm .run
    let u := fun n => { s with
      dru := { s.dru with
        gp := .of fun _ => true
        grace := .of fun _ => .over
        atSlice := { s.dru.atSlice with openRun := .of fun _ => n } } }
    s.LinesFollow ∧ (u 5).stc.op ≠ .selftest ∧ (u 5).dru.grace.get .z1 = .over ∧
    (u 5).stc.faults.valveUnexpected.get .z1 = false ∧ (u 5).dru.gp.get .z1 = true ∧ (u 5).ptc.gas.get .z1 = false ∧
    (u 4).dru.atSlice.openRun.get .z1 < 5 ∧ ¬ (u 5).dru.atSlice.openRun.get .z1 < 5 ∧
    (u 5).dru.relay.mismatch = false ∧ (u 5).dru.relay.mask.get .l0 = true ∧ true ≠ (u 5).dru.en.get .l0 ∧
    (u 5).dru.runSpent.get .z1 = false ∧ (u 5).dru.valve.mismatch = false ∧ (u 5).dru.valve.mask.get .z1 = true ∧
    true ≠ (u 5).ptc.gas.get .z1 ∧
    ({ s.dru with runSpent := .of fun _ => true } : Dru).runSpent.get .z1 = true := by
  unfold State.LinesFollow; decide +kernel

/-- The counts of a sample: a contact against its line for the load verified and for a load of a running drive test, and a valve
whose latched flag leaves its run counted, or whose condition is not met. -/
theorem witness_SamplesAreJudged_counts :
    let begun := { (testing false).dru with
      test := { (testing false).dru.test with begun := true }
      verifier := { (testing false).dru.verifier with verified := some .l0 } }
    let u := (after (.sliceMiddleSample (.of fun _ => true) (.of fun _ => false)) ((testing false).setDru begun)).dru.counts
    let v := fun (opened : Bool) (n : Nat) =>
      let s := calm .run
      (after (.sliceMiddleSample (.of fun _ => false) (.of fun _ => opened)) { s with
        dru := { s.dru with
          gp := .of fun _ => true
          atSlice := { s.dru.atSlice with openRun := .of fun _ => n } }
        stc := { s.stc with faults := { s.stc.faults with valveUnexpected := .of fun _ => true } } }).dru.counts.openRun.get .z1
    begun.en.get .l0 = false ∧ u.verify = 1 ∧ u.test.get .l0 = 1 ∧ v true 3 = 4 ∧ v true 6 = 6 ∧ v false 3 = 0 := by
  decide +kernel

/-- After a latch a second sample of the same slice, equal to the first, leaves the run 0 (R125, R129). -/
theorem test_run_spent :
    let s := calm .run
    let u := { s with
      dru := { s.dru with
        gp := .of fun _ => true
        counts := { s.dru.counts with openRun := .of fun _ => 5 }
        atSlice := { s.dru.atSlice with openRun := .of fun _ => 5 } } }
    let sample : Instr := .sliceMiddleSample (.of fun _ => false) (.of fun z => z = Gas.z1)
    (after sample u).stc.faults.valveUnexpected.get .z1 = true ∧
      (after sample (after sample u)).dru.counts.openRun.get .z1 = 0 := by decide +kernel

theorem witness_DriveTestsRun :
    (let s := (calm .config).setSpl { (calm .config).spl with loads := .of fun _ => ⟨3000, false, none⟩ }
     s.LinesFollow ∧ s.stc.op ≠ .selftest ∧ (s.spl.loads.get .l0).power ≠ 0 ∧
       (s.spl.loads.get .l0).power ≤ s.spl.budget ∧ s.dru.test.status ≠ .running) ∧
    ((testing true).stc.op = .config ∧ (testing true).dru.test.status = .running ∧ (testing true).dru.test.begun = true ∧
      (testing true).dru.test.left = []) := by
  unfold State.LinesFollow; decide +kernel

/-- Means at the edges of OPEN and SHORT, and readings at a limit, 20 °C below it and between. -/
theorem witness_ConversionsGiveReadings :
    (let s := (calm .run).setSnu { (calm .run).snu with scanLeft := [.cav], scanN := some 2 }
     s.snu.scanLeft = [.cav] ∧ s.snu.scanN = some [(1016 : BitVec 10), 1016].length ∧ s.snu.cavLimit = 300) ∧
    ([(1016 : BitVec 10), 1017].map BitVec.toNat).sum / 2 = 1016 ∧ ([(7 : BitVec 10), 8].map BitVec.toNat).sum / 2 = 7 ∧
    (let deg := fun m : Nat => max (-40) (min 600 ((((m * 5 / 8 : Nat) : Int) - 40) * 64 / 64 + 0))
     deg 544 = 300 ∧ deg 512 = 280 ∧ deg 528 = 290 ∧ deg 232 = 105 ∧ deg 216 = 95 ∧ deg 1016 = 595) := by decide +kernel

/-- A reading at the threshold marks an AT_TEMP wait and a PROBE stop, one of a code below (a degree less) does not. -/
theorem witness_ConversionsGiveReadings_marks :
    let wait := { lastSecond .cookEnd (some .gr) (.role .supervisor) with phase := .waiting, start := .atTemp 180, tickDue := false }
    let stop := { lastSecond .cookEnd (some .ov) (.role .supervisor) with probe := some 65 }
    let mark := fun (c : Sensor) (r : Timer) (m : BitVec 10) =>
      ((after (.conversionEnd [m]) (nextInScan (withTimer (calm .run) r) c)).tme.timer 0).map fun u =>
        (u.tempMark, u.probe, u.probeMark)
    mark .grl wait 352 = some (true, none, false) ∧ mark .grl wait 350 = some (false, none, false) ∧
    mark .prb stop 168 = some (false, some 65, true) ∧ mark .prb stop 166 = some (false, some 65, false) ∧
    mark .prb stop 1016 = some (false, none, false) := by decide +kernel

/-- BRD OPEN and SHORT hold the part, a reading of 95 to 105 °C exclusive changes nothing, and GRL OPEN closes its point. -/
theorem witness_ConversionsGiveReadings_faults :
    let t := fun (c : Sensor) (m : BitVec 10) => after (.conversionEnd [m]) (nextInScan (calm .run) c)
    (∀ m ∈ [(1016 : BitVec 10), 7, 232], (t .brd m).stc.holds.boardOvertemp = true ∧ (t .brd m).stc.op = .hold) ∧
    (∀ m ∈ [(231 : BitVec 10), 218], ∃ d, ((t .brd m).snu.channels.get .brd).reading = .temp d ∧ 95 < d ∧ d < 105) ∧
    (∀ m ∈ [(1016 : BitVec 10), 7], ((t .grl m).ptc.reasons.get .gr).fault = true) := by
  refine ⟨by decide +kernel, ?_, by decide +kernel⟩
  intro m hm
  rcases List.mem_cons.1 hm with rfl | hm
  · exact ⟨104, by decide +kernel⟩
  · obtain rfl := List.mem_singleton.1 hm
    exact ⟨96, by decide +kernel⟩

theorem witness_SettingsAreStored :
    (∀ s ∈ [calm .lockout, calm .config, calm .run], s.pins = s.lines ∧ s.stc.op ≠ .selftest) ∧
    127 < 128 ∧ 31 < 32 ∧ 15 < 16 := by decide +kernel

/-- A timer's entry, a system entry in each of its three conditions, and an alarm of 600 s. -/
theorem witness_AlertsAreAcknowledged :
    (let r := lastSecond .minder none (.role .panelA)
     let s := withTimer (calm .run) { r with phase := .expired }
     let e : Alert := ⟨.timer h0, none, 0, 2, 2, true⟩
     let t := s.setAlc { s.alc with entries := [e] }
     s.LinesFollow ∧ t.LinesFollow ∧ s.stc.op ≠ .selftest ∧ t.tme.lookup h0 = .ok { r with phase := .expired } ∧ r.kind ≠ .step ∧
       (∀ e ∈ s.alc.entries, e.forTimer h0 = false) ∧ (∃ e ∈ t.alc.entries, e.forTimer h0 = true)) ∧
    (∀ e ∈ [systemEntry .hold 0, { systemEntry .hold 0 with sounding := false },
            { systemEntry .hold 0 with source := .system .hold false }],
      let s := (calm .hold).setAlc { (calm .hold).alc with entries := [e] }
      s.stc.op ≠ .selftest ∧ s.alc.entries = [] ++ e :: []) ∧
    (let e : Alert := ⟨.timer h0, none, 0, 2, 2, true⟩
     let s := { calm .run with
       tbu := { (calm .run).tbu with seconds := 600 }
       alc := { (calm .run).alc with entries := [e] } }
     s.alc.entries = [] ++ e :: [] ∧ e.isTimer = true ∧ e.sounding = true ∧
       600 ≤ (s.tbu.seconds - e.raisedAt).toNat) := by
  unfold State.LinesFollow; decide +kernel

/-- The entry of a STEP slot whose channel waits for acknowledgement at its first of two steps, or is DONE at its second; it is
the oldest that sounds, or none does. -/
theorem witness_AlertsAreAcknowledged_step_and_oldest :
    let r := { lastSecond .step (some .ov) (.channel .ov) with phase := .expired, endCause := some .time }
    let e : Alert := ⟨.timer h0, some .ov, 0, 2, 2, true⟩
    (∀ k ∈ [(ChanState.waitingAck, 1), (.done, 2)],
      let s := withChannel (withTimer (calm .run) r) k.1 [minute .pauseForAck, minute .next] (some k.2) (some h0)
      let t := s.setAlc { s.alc with entries := [{ systemEntry .hold 0 with sounding := false }, e] }
      t.stc.op ≠ .selftest ∧ t.tme.lookup h0 = .ok r ∧ r.owner = .channel .ov ∧ (∃ y ∈ t.alc.entries, y.forTimer h0 = true) ∧
        (t.squ.get .ov).state = k.1 ∧ (t.squ.get .ov).current = some k.2 ∧
        (t.squ.get .ov).steps[1]? = some (minute .next)) ∧
    (systemEntry .hold 0).source = .system .hold true ∧ (systemEntry .hold 0).sounding = true ∧ e.source = .timer h0 ∧
    (∀ y ∈ (calm .run).alc.entries, y.sounding = false) ∧ (calm .run).LinesFollow := by
  unfold State.LinesFollow; decide +kernel

theorem witness_SelftestsEnd :
    State.reset.stc.op = .selftest ∧ State.reset.TestInConfig ∧
    (let found : SelfTestFindings := ⟨none, false, 2⟩
     found.march = none ∧ found.plannerFault = false ∧ found.lines.getLsbD (1 : Fin 28).val = true ∧
       ∀ k < (1 : Fin 28).val, found.lines.getLsbD k = false) := by
  unfold State.TestInConfig; decide

/-- A CFG_COMMIT outside CONFIG, and its five outcomes in CONFIG. -/
theorem witness_CommitsAreChecked :
    ((calm .run).LinesFollow ∧ (calm .run).stc.op ≠ .selftest ∧ (calm .run).stc.op ≠ .config) ∧
    (onRc.LinesFollow ∧ onRc.stc.op = .config ∧ onRc.stc.holds.timebase = true) ∧
    (let s := calm .config
     s.LinesFollow ∧ s.stc.op = .config ∧ s.stc.holds.timebase = false ∧ s.snu.mask.cav = true) ∧
    (EPoint.z6 ∉ (⟨.ov, .ov, .z7, .gr⟩ : Rank).toList) ∧ (∀ e ∈ EPoint.all, e ∈ (calm .config).ptc.rank.toList) ∧
    (∀ l ∈ Load.all, ((calm .config).spl.loads.get l).power ≤ (calm .config).spl.budget) ∧
    (let s := (calm .config).setSpl { (calm .config).spl with
       budget := 1000, loads := (calm .config).spl.loads.set .l1 ⟨1010, true, none⟩ }
     s.spl.budget < (s.spl.loads.get .l1).power ∧
       ∀ k ∈ Load.all, k.index < Load.l1.index → (s.spl.loads.get k).power ≤ s.spl.budget) ∧
    ((calm .config).setSnu { (calm .config).snu with mask := .of fun _ => false }).snu.mask.cav = false := by
  unfold State.LinesFollow; decide +kernel

theorem witness_HoldRequestsHold :
    (∀ op ∈ [OpState.selftest, .config, .run, .hold, .lockout],
      (calm op).pins = (calm op).lines ∧ (calm op).stc.op = op ∧ (calm op).stc.noHold = true) ∧
    (let s := (calm .hold).setStc { (calm .hold).stc with holds := (calm .hold).stc.holds.set .supervisorRequest true }
     s.LinesFollow ∧ s.stc.op = .hold ∧ s.stc.holds.supervisorRequest = true) := by
  unfold State.LinesFollow; decide +kernel

theorem witness_ResumesRun :
    (∀ op ∈ [OpState.selftest, .config, .run, .hold, .lockout], (calm op).pins = (calm op).lines ∧ (calm op).stc.op = op) ∧
    (∀ h ∈ Hold.all, h ≠ .supervisorRequest → (calm .hold).stc.holds.get h = false) ∧
    ((calm .hold).stc.holds.set .boardOvertemp true).get .boardOvertemp = true ∧ Hold.boardOvertemp ≠ .supervisorRequest := by
  decide +kernel

theorem witness_RestartsAreWarm : (calm .config).stc.op = .config ∧ (calm .run).stc.op = .run ∧
    (calm .hold).stc.op = .hold ∧
    (∀ st ∈ [ChanState.active, .waitingAck, .ready, .done, .failed],
      ((withChannel (calm .hold) st [minute .next] none none).squ.get .ov).state = st) := by
  decide +kernel

theorem witness_FaultsAreCleared : (calm .config).stc.op ≠ .selftest ∧ (calm .lockout).stc.op ≠ .selftest := by decide

/-- SENSOR cleared with CAV still OPEN and GRL repaired: GR opens again, OV stays closed (R32). -/
theorem witness_FaultsAreCleared_sensor :
    let u := after (.conversionEnd [1016]) (nextInScan (after (.conversionEnd [1016]) (nextInScan (calm .run) .grl)) .cav)
    let s := after (.conversionEnd [200]) (nextInScan u .grl)
    let t := after (.faultClear .supervisor .all) s
    s.stc.faults.plain.sensor = true ∧ s.gateOpen .ov = false ∧ s.gateOpen .gr = false ∧
    (∀ p ∈ Point.all, ((s.ptc.reasons.get p).halted = true ↔ s.stc.op ≠ .run) ∧
      ((s.ptc.reasons.get p).fault = true ↔ s.ptc.attribution.holds p = true)) ∧
    t.gateOpen .ov = false ∧ t.gateOpen .gr = true ∧ t.ptc.attribution.sensorCav = true ∧
    t.ptc.attribution.sensorGrl = false := by decide +kernel

/-- Each state of a receiver, length bytes at their bounds, and a reply in transmission with one and two frames. -/
theorem witness_ReceiversFollowTheLine :
    (calm .run).LinesFollow ∧
    (∀ rx ∈ [Receiver.hunt, .length, .body [1] 2, .body [1, 2] 1, .rest],
      let s := withPort (calm .run) .panelA { PortUnit.reset with rx := rx }
      s.pins = s.lines ∧ (s.ports.get .panelA).rx = rx) ∧
    1 ≤ (1 : Byte).toNat ∧ (60 : Byte).toNat ≤ 60 ∧ (0 : Byte).toNat = 0 ∧ 60 < (61 : Byte).toNat ∧ crc8 [1, 2] ≠ 0 ∧
    (let f : Frame := ⟨2, []⟩
     let u : PortUnit := { PortUnit.reset with service := .replying [[]], buffer := [f, f] }
     u.service = .replying [[]] ∧ u.buffer = [f, f] ∧ decodeRequest .panelA f.code f.payload = .ok (.clockRead .panelA) ∧
       asRequest (.clockRead .panelA) = some (.panelA, 0x82, false)) ∧
    decodeRequest .panelB 0x4A [] = .ok (.holdRequest .panelB) ∧
    asRequest (.holdRequest .panelB) = some (.panelB, 0xCA, true) ∧ (calm .selftest).stc.op = .selftest ∧
    decodeRequest .panelB 0x49 [] = .ok (.stateRead .panelB) := by
  unfold State.LinesFollow; decide +kernel

/-- A break cuts off the request in service: the same request, sent again, gets its own reply and one reply alone (R190). -/
theorem test_break_cuts_off :
    let i : Instr := .clockRead .panelA
    let s := withPort (calm .run) .panelA { PortUnit.reset with buffer := [⟨2, []⟩], service := .handed i }
    let t := after (.byteReceived .panelA 0xB7) ((after (.lineHighAfterBreak .panelA) (after (.lineBreak .panelA) s)).setPorts
      ((after (.lineHighAfterBreak .panelA) (after (.lineBreak .panelA) s)).ports.set .panelA
        { (after (.lineBreak .panelA) s).ports.panelA with rx := .body [1, 2] 1 }))
    (t.ports.get .panelA).service = .handed i ∧ ((after i t).ports.get .panelA).service = .handed i ∧
      ((after i (after i t)).ports.get .panelA).service ≠ .handed i := by decide +kernel

/-- A frame at each fill of the buffer, and the three ways a request can be spelled. -/
theorem witness_FramesAreServed :
    (∀ fs ∈ [[], [⟨2, []⟩], [⟨2, []⟩, ⟨2, []⟩]],
      let s := withPort (calm .run) .panelA { PortUnit.reset with rx := .body [1, 2] 1, buffer := fs }
      (s.ports.get .panelA).rx = .body [1, 2] 1 ∧ (s.ports.get .panelA).buffer = fs) ∧
    decodeRequest .panelA 2 [] = .ok (.clockRead .panelA) ∧ decodeRequest .panelA 0x7F [] = .unknownRequest ∧
    decodeRequest .panelA 1 [] = .badLength ∧ Port.panelA.panel = some .a ∧
    decodeRequest .panelA 0x4A [] = .ok (.holdRequest .panelA) ∧ decodeRequest .supervisor 0x4A [] = .ok (.holdRequest .supervisor) ∧
    decodeRequest .panelA 0x49 [] = .ok (.stateRead .panelA) := by decide +kernel

/-- A frame's role and SELFTEST are checked at its dispatch (R191). -/
theorem test_refused_at_dispatch :
    let s := fun op b => withPort (calm op) .panelA { PortUnit.reset with rx := .body [1, b] 1 }
    (((after (.frameReceived .panelA (crc8 [1, 0x4A])) (s .run 0x4A)).ports.get .panelA).lastReply.map Reply.status =
      some .notPermitted) ∧
    (((after (.frameReceived .panelA (crc8 [1, 0x02])) (s .selftest 0x02)).ports.get .panelA).lastReply.map Reply.status =
      some .busy) := by decide +kernel

theorem witness_SilenceIsNoticed :
    (let s := { calm .run with
       presence := .of fun _ => ⟨true, 30, some 30000⟩
       watchdog := ⟨.running, 4⟩ }
     let t := withTimer s (lastSecond .minder none (.role .panelA))
     (t.presence.get .a).present = true ∧ t.tme.held (.role .panelA) ≠ 0 ∧ s.watchdog.state = .running ∧ s.stc.op = .run ∧
       s.stc.noHold = true) ∧ (calm .config).stc.op ≠ .run := by decide +kernel

theorem witness_PortRequestsAreTaken :
    (∀ s ∈ [calm .lockout, calm .run], s.pins = s.lines ∧ s.stc.op ≠ .selftest) ∧
    (∀ x ∈ Panel.all, ((calm .run).presence.get x).present = false) ∧ 0 < 1 ∧ 4095 < 4096 ∧
    (let s := { calm .run with presence := .of fun _ => ⟨true, 30, some 10000⟩ }
     s.LinesFollow ∧ s.presence.a.present = true ∧ max 10 (min 120 0) * 1000 ≤ 10000 ∧
       ¬ max 10 (min 120 11) * 1000 ≤ 10000) := by
  unfold State.LinesFollow; decide +kernel

/-! ## The checks of a creation, clause by clause -/

/-- Every start condition, a probe stop and each kind, no check failing; thresholds and durations beyond their ranges among them. -/
theorem witness_TimerCreateStartsASlot_taken :
    ∀ f ∈ [(⟨0, 0, 1, .immediate, none, 3⟩ : TimerFields), ⟨0, 0, 86400, .atTime 86399, none, 1⟩,
      ⟨1, 8, 60, .atTime 5, some 99, 1⟩, ⟨1, 8, 60, .atTemp 400, none, 2⟩, ⟨1, 8, 60, .afterLeader h0 (some 180), none, 2⟩,
      ⟨1, 8, 60, .afterLeader h0 none, some 65, 2⟩, ⟨2, 6, 60, .immediate, none, 0⟩],
    refusedBy (checksOfCreate .supervisor f creating) none ∧ (Kind.ofCode f.kind).isSome = true := by
  have hl : creating.tme.lookup h0 = .ok (lastSecond .delayStart (some .ov) (.role .supervisor)) := by decide +kernel
  have hc : ∀ c, creating.measures c := fun c => ⟨50, by cases c <;> rfl⟩
  have hf : ∃ u ∈ creating.tme.slots, u.timer = none := by decide +kernel
  have hq : creating.tme.held (.role .supervisor) < 4 := by decide +kernel
  have h1 : creating.tbu.timeOfDay = some 5 := rfl
  have h2 : creating.stc.op = .run := rfl
  have h3 : creating.tme.hasKind .ov .cookEnd = false ∧ creating.tme.hasKind .ov .step = false ∧
      creating.tme.hasKind .z6 .delayStart = false := by decide +kernel
  simp [refusedBy_none, checksOfCreate, createFormed, carriesThreshold, hl, hc, hf, hq, h1, h2, h3, Kind.ofCode,
    Point.ofCode, lastSecond, Timer.modifiableBy, Point.all]

/-- Each check of a creation failing where those before it pass. -/
theorem witness_TimerCreateStartsASlot_refused :
    (∀ y ∈ [((⟨3, 8, 60, .immediate, none, 2⟩ : TimerFields), creating, Status.badValue),
        (⟨0, 0, 0, .immediate, none, 2⟩, creating, .badValue), (⟨1, 4, 60, .atTemp 50, none, 2⟩, creating, .badValue),
        (⟨1, 8, 60, .immediate, none, 2⟩, calm .config, .refusedState), (⟨1, 8, 60, .atTime 5, none, 2⟩, calm .run, .clockUnset),
        (⟨1, 8, 60, .afterLeader ⟨24, 0⟩ none, none, 2⟩, creating, .badValue),
        (⟨1, 8, 60, .afterLeader ⟨0, 1⟩ none, none, 2⟩, creating, .staleHandle),
        (⟨1, 8, 60, .afterLeader ⟨1, 0⟩ none, none, 2⟩, creating, .refusedState),
        (⟨1, 9, 60, .afterLeader h0 none, none, 2⟩, creating, .badValue),
        (⟨1, 8, 60, .atTemp 50, none, 2⟩, calm .run, .noSensor), (⟨1, 8, 60, .immediate, some 65, 2⟩, calm .run, .noSensor),
        (⟨2, 8, 60, .immediate, none, 0⟩, creating, .pointTimed),
        (⟨0, 0, 60, .immediate, none, 2⟩, crowded 24, .tableFull), (⟨0, 0, 60, .immediate, none, 2⟩, crowded 4, .quota)],
      refusedBy (checksOfCreate .supervisor y.1 y.2.1) (some y.2.2)) ∧
    refusedBy (checksOfCreate .panelB ⟨1, 1, 60, .immediate, none, 2⟩ creating) (some .notAssigned) ∧
    refusedBy (checksOfCreate .panelB ⟨1, 8, 60, .afterLeader h0 none, none, 2⟩ creating) (some .notOwner) := by
  have hl : creating.tme.lookup h0 = .ok (lastSecond .delayStart (some .ov) (.role .supervisor)) := by decide +kernel
  have hl1 : creating.tme.lookup ⟨24#8, 0#8⟩ = .error .badValue := by decide +kernel
  have hl2 : creating.tme.lookup ⟨0#8, 1#8⟩ = .error .staleHandle := by decide +kernel
  have hl3 : creating.tme.lookup ⟨1#8, 0#8⟩ = .error .refusedState := by decide +kernel
  have hc : ∀ c, creating.measures c := fun c => ⟨50, by cases c <;> rfl⟩
  have hn : ∀ c, ¬ (calm .run).measures c := by intro c ⟨d, h⟩; cases c <;> cases h
  have hf : ∃ u ∈ creating.tme.slots, u.timer = none := by decide +kernel
  have hf1 : ∀ u ∈ (crowded 24).tme.slots, ¬ u.timer = none := by decide +kernel
  have hf2 : ∃ u ∈ (crowded 4).tme.slots, u.timer = none := by decide +kernel
  have hq : (crowded 4).tme.held (.role .supervisor) = 4 := by decide +kernel
  have h1 : creating.tbu.timeOfDay = some 5 ∧ (calm .run).tbu.timeOfDay = none := ⟨rfl, rfl⟩
  have h2 : creating.stc.op = .run ∧ (calm .run).stc.op = .run ∧ (calm .config).stc.op = .config ∧
      (crowded 4).stc.op = .run ∧ (crowded 24).stc.op = .run := by decide
  have h3 : creating.tme.hasKind .ov .delayStart = true := by decide +kernel
  have h4 : (creating.ptc.panel.get .z1).port = .panelA ∧ (creating.ptc.panel.get .ov).port = .panelB := by decide +kernel
  simpa [refusedBy, checksOfCreate, createFormed, carriesThreshold, hl, hl1, hl2, hl3, hc, hn, hf, hf2,
    hq, h1, h2, h3, h4, Kind.ofCode, Point.ofCode, lastSecond, Timer.modifiableBy, Point.all] using hf1

end Sys2Proof.Tests
end

/-! # CLOCK_SET: the proofs

The port units after postings and a reply, the notices that several starts queue, one slot retimed, all slots retimed, and the
request as a whole (R17, R49, R166). -/

namespace Sys2Proof.Machine

/-! ## The port units after a posting and after a reply -/

/-- Postings done one after another: the classes of both are pending. -/
theorem PortsAfter.trans {who : Option Port} {a b : Port → EventClass → Bool} {s t u : State}
    (h : PortsAfter who a s t) (k : PortsAfter who b t u) : PortsAfter who (fun q c => a q c || b q c) s u where
  kept q := by
    obtain ⟨rx, buffer, counters, mask⟩ := k.kept q
    rw [rx, buffer, counters, mask]
    exact h.kept q
  silent q n := by
    obtain ⟨service, reply, cut⟩ := k.silent q n
    rw [service, reply, cut]
    exact h.silent q n
  posted q c := by rw [k.posted, h.posted, Bool.or_assoc]

theorem PortsAfter.refl (who : Option Port) (s : State) : PortsAfter who noPosts s s :=
  ⟨fun _ => ⟨rfl, rfl, rfl, rfl⟩, fun _ _ => ⟨rfl, rfl, rfl⟩, by simp [noPosts]⟩

/-- Only the port units and the classes posted count. -/
theorem PortsAfter.congr {who : Option Port} {a b : Port → EventClass → Bool} {s s' t t' : State} (h : PortsAfter who a s t)
    (before : s'.ports = s.ports) (after : t'.ports = t.ports) (posts : ∀ q c, b q c = a q c) : PortsAfter who b s' t' := by
  obtain ⟨kept, silent, posted⟩ := h
  constructor <;> simpa only [before, after, posts]

/-- What forms no reply at any port forms none at a port other than `p`. -/
theorem PortsAfter.weaken {posts : Port → EventClass → Bool} {s t : State} (h : PortsAfter none posts s t) (p : Port) :
    PortsAfter (some p) posts s t :=
  ⟨h.kept, fun q _ => h.silent q nofun, h.posted⟩

theorem postTo_portsAfter (s : State) (c : EventClass) (who : Port → Bool) :
    PortsAfter none (toPorts c who) s (s.postTo c who) :=
  ⟨fun q => by simp, fun q _ => by simp, fun q d => s.postTo_posted c who q d⟩

/-- A reply posts nothing and reaches its own port alone (R189, R193). -/
theorem answer_portsAfter (s : State) (p : Port) (i : Instr) (r : Reply) :
    PortsAfter (some p) noPosts s (s.answer p i r) where
  kept q := by rw [answer_ports]; split <;> simp_all
  silent q n := by rw [answer_ports, if_neg fun e => n (congrArg some e.symm)]; exact ⟨rfl, rfl, rfl⟩
  posted q c := by rw [answer_ports]; split <;> simp_all [noPosts]

@[simp] theorem answer_lastReply (s : State) (p : Port) (i : Instr) (r : Reply) :
    ((s.answer p i r).ports.get p).lastReply = some r := by
  rw [answer_ports, if_pos rfl, PortUnit.answer_lastReply]

/-- A reply moves no line: FLT, ATN and IND do not follow it. -/
theorem answer_lines (s : State) (p : Port) (i : Instr) (r : Reply) : (s.answer p i r).lines = s.lines := by
  have atn : ∀ q, ((s.answer p i r).ports.get q).atn = (s.ports.get q).atn := by
    intro q
    rw [answer_ports]
    split
    · next h => rw [h]; simp [PortUnit.atn]
    · rfl
  simp only [State.lines, atn]
  rfl

/-- A block whose answer leaves the state as it was: the reply, and nothing else (R193). -/
theorem request_onlyReplied {s : State} {i : Instr} {code : Byte} {p : Port} {take : Taken} {status : Status}
    {data : List Byte} (lines : s.LinesFollow) (h : s.dispatch code p take = ⟨s, status, data⟩) :
    ∃ t, request i code p s take = .next t ∧ OnlyReplied p (replyCode code) status data s t := by
  refine ⟨_, request_reply (by rw [h]), ?_, ?_, ?_⟩
  · rw [State.setLines, answer_lines, ← (show s.pins = s.lines from lines)]
    rfl
  · exact (answer_portsAfter s p i _).congr rfl rfl fun _ _ => rfl
  · rw [h]; exact answer_lastReply s p i _

/-- A block that changes no system cause and starts no pass: what it answers, the reply, and the lines. -/
theorem request_quiet {s : State} {i : Instr} {code : Byte} {p : Port} {take : Taken} (passed : s.dispatch code p take = take)
    (stc : take.state.stc = s.stc) (spl : take.state.spl = s.spl) :
    request i code p s take = .next (take.state.answer p i (take.reply code)).setLines := by
  unfold request
  dsimp only
  rw [passed]
  exact congrArg _ (settle_quiet (fun c => causePresent_of_stc stc c) (congrArg Spl.serial spl))

/-! ## Notices (R166) -/

/-- A notice queue after `k` starts: each joins while fewer than 4 wait (R166). -/
def startNotices (k : Nat) (ns : List Notice) : List Notice := ns ++ List.replicate (min k (4 - ns.length)) .started

@[simp] theorem startNotices_zero (ns : List Notice) : startNotices 0 ns = ns := by simp [startNotices]

/-- Starts one after another fill the queue as the starts together. -/
theorem startNotices_add (j k : Nat) (ns : List Notice) : startNotices k (startNotices j ns) = startNotices (j + k) ns := by
  simp only [startNotices, List.append_assoc, List.replicate_append_replicate, List.length_append, List.length_replicate]
  congr 2
  omega

theorem queueNotice_started (s : State) :
    s.queueNotice .started = s.setAlc { s.alc with notices := startNotices 1 s.alc.notices } := by
  unfold State.queueNotice startNotices
  split
  · next h => rw [show min 1 (4 - s.alc.notices.length) = 1 by omega]; rfl
  · next h => rw [show min 1 (4 - s.alc.notices.length) = 0 by omega, List.replicate_zero, List.append_nil]; rfl

/-! ## One slot -/

/-- The record of a slot replaced by what `f` makes of it. -/
theorem setTimer_slots {t : Tme} {n : Nat} {r : Timer} (h : t.timer n = some r) (f : Timer → Timer) :
    t.setTimer n (some (f r)) = { t with slots := t.slots.modify n (Slot.mapTimer f) } := by
  unfold Tme.setTimer
  congr 1
  refine List.ext_getElem? fun m => ?_
  rw [List.getElem?_modify, List.getElem?_modify]
  split
  · next e =>
    subst e
    cases k : t.slots[n]? with
    | none => rfl
    | some x => simp_all [Tme.timer, Slot.mapTimer]
  · rfl

/-- Nothing is made of the slot of a place that holds no record, or whose record `f` keeps. -/
theorem modify_slots_same {t : Tme} {n : Nat} {f : Timer → Timer} (h : ∀ r, t.timer n = some r → f r = r) :
    t.slots.modify n (Slot.mapTimer f) = t.slots := by
  refine List.ext_getElem? fun m => ?_
  rw [List.getElem?_modify]
  split
  · next e =>
    subst e
    rcases k : t.slots[n]? with _ | ⟨gen, _ | r⟩
    · rfl
    · rfl
    · have : f r = r := h r (by simp [Tme.timer, k])
      simp [Slot.mapTimer, this]
  · exact Option.map_id'

theorem retimed_of_starts {time : Nat} {r : Timer} (h : startsAt time r = true) :
    ∃ start k, r.phase = .waiting ∧ r.start = .atTime start k ∧ secondsTo start time = 0 ∧
      retimed time r = Timer.started { r with start := .atTime start (secondsTo start time), tickDue := false } := by
  unfold startsAt at h
  split at h
  · next start k phase cond =>
    have due : secondsTo start time = 0 := by simpa [secondsTo] using h
    refine ⟨start, k, phase, cond, due, ?_⟩
    simp_all [retimed, secondsTo, Timer.started, Start.met]
  · cases h

/-- A slot whose start time it is starts (R17, R49). -/
theorem retime_of_starts {s : State} {time n : Nat} {r : Timer} (h : s.tme.timer n = some r) (k : startsAt time r = true) :
    s.retime time n =
      ((s.setTimer n (some (retimed time r))).postTo .timerStarted (s.timerAudience r)).queueNotice .started := by
  obtain ⟨start, left, phase, cond, due, eq⟩ := retimed_of_starts k
  rw [eq]
  simp only [State.retime, h, phase, cond, due, if_pos]
  rfl

/-- Any other slot has its seconds-to-start recomputed where it has any (R17, R49). -/
theorem retime_of_not_starts {s : State} {time n : Nat} (h : ∀ r, s.tme.timer n = some r → startsAt time r = false) :
    s.retime time n = s.setTme { s.tme with slots := s.tme.slots.modify n (Slot.mapTimer (retimed time)) } := by
  unfold State.retime
  split
  · next r found =>
    have waits := h r found
    split
    · next start left phase cond =>
      have due : secondsTo start time ≠ 0 := by simpa [startsAt, phase, cond, secondsTo] using waits
      have eq : retimed time r = { r with start := .atTime start (secondsTo start time), tickDue := false } := by
        simp only [secondsTo] at due
        simp [retimed, phase, cond, secondsTo, due]
      rw [if_neg due, ← setTimer_slots found, eq]
      rfl
    · next other =>
      have eq : retimed time r = r := by
        unfold retimed
        split
        · next start left phase cond => exact absurd cond (other start left phase)
        · rfl
      rw [modify_slots_same fun r' found' => by rw [found] at found'; cases found'; exact eq]
      rfl
  · next empty =>
    rw [modify_slots_same fun r found => by rw [empty] at found; cases found]
    rfl

/-- What becomes of a slot at a CLOCK_SET, said once: it starts, or only its record is retimed. -/
theorem retime_cases (s : State) (time n : Nat) :
    (∃ r, s.tme.timer n = some r ∧ startsAt time r = true ∧ s.retime time n =
      ((s.setTimer n (some (retimed time r))).postTo .timerStarted (s.timerAudience r)).queueNotice .started) ∨
    ((∀ r, s.tme.timer n = some r → startsAt time r = false) ∧
      s.retime time n = s.setTme { s.tme with slots := s.tme.slots.modify n (Slot.mapTimer (retimed time)) }) := by
  by_cases h : ∃ r, s.tme.timer n = some r ∧ startsAt time r = true
  · obtain ⟨r, found, starts⟩ := h
    exact .inl ⟨r, found, starts, retime_of_starts found starts⟩
  · have waits : ∀ r, s.tme.timer n = some r → startsAt time r = false := by simpa using h
    exact .inr ⟨waits, retime_of_not_starts waits⟩

/-! ## All slots -/

/-- TIMER_STARTED for each of the records `rs` that starts at a time of day, to the ports that hear of it (R49, R199). -/
def startPosts (time : Nat) (rs : List Timer) (s : State) : Port → EventClass → Bool :=
  fun q c => c = .timerStarted && rs.any fun r => startsAt time r && s.timerAudience r q

/-- What retiming the records `rs` does beside their slots: notices and postings for those that start. -/
structure StartFrame (time : Nat) (rs : List Timer) (s t : State) : Prop where
  rest : t = { s with
    tme := { s.tme with slots := t.tme.slots }
    alc := { s.alc with notices := startNotices (rs.countP (startsAt time)) s.alc.notices }
    ports := t.ports }
  ports : PortsAfter none (startPosts time rs s) s t

theorem StartFrame.refl (time : Nat) (s : State) : StartFrame time [] s s :=
  ⟨by simp, (PortsAfter.refl none s).congr rfl rfl fun _ _ => by simp [startPosts, noPosts]⟩

theorem StartFrame.trans {time : Nat} {rs qs : List Timer} {s t u : State} (h : StartFrame time rs s t)
    (k : StartFrame time qs t u) : StartFrame time (rs ++ qs) s u := by
  obtain ⟨hrest, hports⟩ := h
  obtain ⟨krest, kports⟩ := k
  have audience : t.timerAudience = s.timerAudience := by rw [hrest]; rfl
  refine ⟨?_, (hports.trans kports).congr rfl rfl fun q c => ?_⟩
  · rw [krest, hrest, List.countP_append, ← startNotices_add]
  · simp only [startPosts, audience, List.any_append, Bool.and_or_distrib_left]

theorem retime_slots (s : State) (time n : Nat) :
    (s.retime time n).tme.slots = s.tme.slots.modify n (Slot.mapTimer (retimed time)) := by
  obtain ⟨r, found, -, eq⟩ | ⟨-, eq⟩ := retime_cases s time n
  · rw [eq, queueNotice_started, State.setTimer, setTimer_slots found]
    rfl
  · rw [eq]
    rfl

theorem retime_startFrame (s : State) (time n : Nat) :
    StartFrame time (s.tme.timer n).toList s (s.retime time n) := by
  obtain ⟨r, found, starts, eq⟩ | ⟨waits, eq⟩ := retime_cases s time n
  · have one : [r].countP (startsAt time) = 1 := by simp [starts]
    rw [eq, queueNotice_started, found, Option.toList_some]
    refine ⟨by rw [one]; rfl, (postTo_portsAfter s .timerStarted (s.timerAudience r)).congr rfl rfl fun q c => ?_⟩
    simp [startPosts, toPorts, starts]
  · have zero : (s.tme.timer n).toList.countP (startsAt time) = 0 := List.countP_eq_zero.2 (by simpa using waits)
    rw [eq]
    refine ⟨by rw [zero, startNotices_zero]; rfl, (PortsAfter.refl none s).congr rfl rfl fun q c => ?_⟩
    simp_all [startPosts, noPosts]

/-- The first `n` slots retimed, one after another: each by itself, the others as they were. -/
theorem retimeFirst (s : State) (time : Nat) : ∀ n,
    StartFrame time ((s.tme.slots.take n).filterMap Slot.timer) s ((List.range n).foldl (fun u m => u.retime time m) s) ∧
    ∀ m, ((List.range n).foldl (fun u m => u.retime time m) s).tme.slots[m]? =
      if m < n then (s.tme.slots[m]?).map (Slot.mapTimer (retimed time)) else s.tme.slots[m]?
  | 0 => ⟨StartFrame.refl time s, fun _ => rfl⟩
  | n + 1 => by
    obtain ⟨frame, slots⟩ := retimeFirst s time n
    rw [List.range_succ, List.foldl_append, List.foldl_cons, List.foldl_nil]
    generalize (List.range n).foldl (fun u m => u.retime time m) s = u at frame slots ⊢
    constructor
    · have nth : (u.tme.timer n).toList = (s.tme.slots[n]?).toList.filterMap Slot.timer := by
        rw [Tme.timer, slots n, if_neg (Nat.lt_irrefl n)]
        cases s.tme.slots[n]? with
        | none => rfl
        | some x => cases k : x.timer <;> simp [k]
      rw [List.take_add_one, List.filterMap_append, ← nth]
      exact frame.trans (retime_startFrame u time n)
    · intro m
      rw [retime_slots, List.getElem?_modify, slots m]
      by_cases e : n = m
      · simp [e]
      · have : m < n + 1 ↔ m < n := by omega
        simp [e, this]

/-- Every slot retimed: the whole Timer Table (R17). -/
theorem retimeAll_slots (s : State) (time : Nat) :
    ((List.range s.tme.slots.length).foldl (fun u n => u.retime time n) s).tme.slots =
      s.tme.slots.map (Slot.mapTimer (retimed time)) := by
  refine List.ext_getElem? fun m => ?_
  rw [(retimeFirst s time _).2 m, List.getElem?_map]
  split
  · rfl
  · next h => rw [List.getElem?_eq_none (Nat.le_of_not_lt h)]; rfl

theorem retimeAll_startFrame (s : State) (time : Nat) :
    StartFrame time s.tme.timers s ((List.range s.tme.slots.length).foldl (fun u n => u.retime time n) s) := by
  have h := (retimeFirst s time s.tme.slots.length).1
  rwa [List.take_length] at h

/-! ## The request -/

theorem dispatch_clockSet (s : State) (p : Port) (take : Taken) :
    s.dispatch 0x01 p take = if s.stc.op = .selftest then s.refuse .busy else take := by
  rw [dispatch_eq, if_neg (by cases p <;> decide)]
  simp [selftestCodes]

theorem takeClockSet_refused (s : State) {time : Nat} (h : 86399 < time) : s.takeClockSet time = s.refuse .badValue :=
  if_pos h

/-- A CLOCK_SET taken, before its reply: the time of day, every slot retimed, and what the starts bring (R17). -/
theorem takeClockSet_taken (s : State) {time : Nat} (h : time ≤ 86399) :
    ∃ u, s.takeClockSet time = u.taken [] ∧
      u = { s with
        tbu := { s.tbu with timeOfDay := some time }
        tme := { s.tme with slots := s.tme.slots.map (Slot.mapTimer (retimed time)) }
        alc := { s.alc with notices := startNotices (s.tme.timers.countP (startsAt time)) s.alc.notices }
        ports := u.ports } ∧
      PortsAfter none (fun q c => c = .timebaseChanged || startPosts time s.tme.timers s q c) s u := by
  let v := (s.setTbu { s.tbu with timeOfDay := some time }).postAll .timebaseChanged
  have taken : s.takeClockSet time =
      ((List.range s.tme.slots.length).foldl (fun u n => u.retime time n) v).taken [] := if_neg (Nat.not_lt.2 h)
  have posted : PortsAfter none (toAll .timebaseChanged) s v :=
    (postTo_portsAfter (s.setTbu _) .timebaseChanged fun _ => true).congr rfl rfl fun _ _ => (Bool.and_true _).symm
  obtain ⟨rest, ports⟩ := retimeAll_startFrame v time
  refine ⟨_, taken, ?_, (posted.trans ports).congr rfl rfl fun _ _ => rfl⟩
  have slots := retimeAll_slots v time
  rw [slots] at rest
  exact rest

/-- Settles O15: the refusals leave the state as it was; a time of day that is taken retimes the slots one after another. -/
theorem clockSetIsTaken : Obligations.ClockSetIsTaken := by
  intro p time s lines
  refine ⟨fun op => ?busy, fun op high => ?high, fun op fits => ?taken⟩
  case busy =>
    exact request_onlyReplied lines (by rw [dispatch_clockSet, if_pos op]; rfl)
  case high =>
    exact request_onlyReplied lines (by rw [dispatch_clockSet, if_neg op, takeClockSet_refused s high]; rfl)
  case taken =>
    obtain ⟨u, eq, state, ports⟩ := takeClockSet_taken s fits
    have stc : u.stc = s.stc := by rw [state]
    have spl : u.spl = s.spl := by rw [state]
    refine ⟨_, request_quiet (take := s.takeClockSet time) (by rw [dispatch_clockSet, if_neg op]) ?_ ?_, ?_, ?_, ?_⟩
    · rw [eq]; exact stc
    · rw [eq]; exact spl
    · rw [eq, state]; rfl
    · rw [eq]
      refine ((ports.weaken p).trans (answer_portsAfter u p (.clockSet p time) _)).congr rfl rfl fun _ _ => ?_
      simp [noPosts, startPosts]
    · rw [eq]; exact answer_lastReply u p _ _

end Sys2Proof.Machine

/-! # TIMER_ADOPT: the proofs

A request that changes the Timer Table alone, a request on a slot that its handle names, and what TIMER_ADOPT makes of each owner
(R43, R47, R68, R193). -/

namespace Sys2Proof.Machine

/-! ## A request that changes the Timer Table alone -/

/-- A block that answers OK with a new Timer Table: the table, the reply, and nothing else (R193). -/
theorem request_setTme {s : State} {i : Instr} {code : Byte} {p : Port} {take : Taken} {e : Tme} {data : List Byte}
    (lines : s.LinesFollow) (passed : s.dispatch code p take = take) (h : take = (s.setTme e).taken data) :
    ∃ t, request i code p s take = .next t ∧ t = { s with tme := e, ports := t.ports } ∧
      PortsAfter (some p) noPosts s t ∧ t.Replied p (replyCode code) .ok data := by
  subst h
  refine ⟨_, request_quiet passed rfl rfl, ?_, ?_, ?_⟩
  · rw [State.setLines, answer_lines, show ((s.setTme e).taken data).state.lines = s.pins from lines.symm]
    rfl
  · exact (answer_portsAfter (s.setTme e) p i _).congr rfl rfl fun _ _ => rfl
  · exact answer_lastReply (s.setTme e) p i _

/-! ## A request on a slot that its handle names -/

/-- A handle that passes the checks of R43, on a request open to every role: the block takes the timer. -/
theorem onTimer_open {s : State} {h : Handle} {r : Timer} (found : s.tme.lookup h = .ok r) (p : Port) (take : Timer → Taken) :
    s.onTimer p h false take = take r := by
  simp only [State.onTimer, found, Bool.false_and, Bool.false_eq_true, if_false]

/-- The quotas of the roles: 4 for the supervisor, 10 for a panel (R47). -/
theorem quotaFull_iff (t : Tme) (p : Port) :
    t.quotaFull p = true ↔ (if p = .supervisor then 4 else 10) ≤ t.held (.role p) := by
  cases p <;> exact decide_eq_true_iff

/-! ## The request -/

theorem dispatch_timerAdopt {s : State} (op : s.stc.op ≠ .selftest) (p : Port) (take : Taken) :
    s.dispatch 0x17 p take = take :=
  dispatch_taken (by cases p <;> decide) (.inl op)

section
variable {s : State} {h : Handle} {r : Timer} (p : Port) (found : s.tme.lookup h = .ok r)
include found

theorem takeTimerAdopt_owned (owned : r.owner ≠ .nobody) : s.takeTimerAdopt p h = s.refuse .notOwner := by
  rw [State.takeTimerAdopt, onTimer_open found, if_pos owned]

theorem takeTimerAdopt_full (orphan : r.owner = .nobody) (full : s.tme.quotaFull p = true) :
    s.takeTimerAdopt p h = s.refuse .quota := by
  rw [State.takeTimerAdopt, onTimer_open found, if_neg (not_not_intro orphan), if_pos full]

theorem takeTimerAdopt_taken (orphan : r.owner = .nobody) (room : ¬ s.tme.quotaFull p = true) :
    s.takeTimerAdopt p h =
      (s.setTme (s.tme.setTimer h.slot.toNat (some { r with owner := .role p }))).taken [] := by
  rw [State.takeTimerAdopt, onTimer_open found, if_neg (not_not_intro orphan), if_neg room]
  rfl

end

/-- Settles O31: a slot with an owner, an orphan for a role that holds its quota, and an orphan for a role that does not. -/
theorem timerAdoptTakesAnOrphan : Obligations.TimerAdoptTakesAnOrphan := by
  intro p h r s lines op found
  have passed := dispatch_timerAdopt op p (s.takeTimerAdopt p h)
  rw [← quotaFull_iff, ← Nat.not_le, ← quotaFull_iff]
  by_cases orphan : r.owner = .nobody
  case neg =>
    obtain ⟨t, next, only⟩ := request_onlyReplied (i := .timerAdopt p h) lines
      (passed.trans (takeTimerAdopt_owned p found orphan))
    exact ⟨t, next, fun _ => only, fun e => absurd e orphan, fun e => absurd e orphan⟩
  by_cases full : s.tme.quotaFull p = true
  case pos =>
    obtain ⟨t, next, only⟩ := request_onlyReplied (i := .timerAdopt p h) lines
      (passed.trans (takeTimerAdopt_full p found orphan full))
    exact ⟨t, next, fun e => absurd orphan e, fun _ _ => only, fun _ room => absurd full room⟩
  case neg =>
    obtain ⟨t, next, taken⟩ := request_setTme (i := .timerAdopt p h) lines passed
      (takeTimerAdopt_taken p found orphan full)
    exact ⟨t, next, fun e => absurd orphan e, fun _ e => absurd e full, fun _ _ => taken⟩

end Sys2Proof.Machine

/-! # HOLD_REQUEST and RESUME: the proofs

Event classes that stay pending, what entering an operating state decides and leaves alone, a request that enters one or replaces
the hold cause set, and the two requests case by case (R171 to R175). -/

namespace Sys2Proof.Machine

/-! ## Event classes that stay pending (R198) -/

/-- Every class pending at a port in `s` is pending there in `t`. -/
def PostsStay (s t : State) : Prop :=
  ∀ q c, (s.ports.get q).posted.get c = true → (t.ports.get q).posted.get c = true

theorem PostsStay.refl (s : State) : PostsStay s s := fun _ _ h => h

theorem PostsStay.trans {s t u : State} (h : PostsStay s t) (k : PostsStay t u) : PostsStay s u :=
  fun q c pending => k q c (h q c pending)

theorem PostsStay.of_ports {s t : State} (h : t.ports = s.ports) : PostsStay s t :=
  fun _ _ pending => h ▸ pending

theorem PortsAfter.postsStay {who : Option Port} {posts : Port → EventClass → Bool} {s t : State}
    (h : PortsAfter who posts s t) : PostsStay s t :=
  fun q c pending => by rw [h.posted, pending, Bool.true_or]

section
variable (s : State)

@[simp] theorem withdrawLoads_ports (ls : List Load) : (s.withdrawLoads ls).ports = s.ports :=
  foldl_keeps (f := State.withdrawLoad) (fun s t => t.ports = s.ports) (fun _ => rfl) (fun h k => k.trans h)
    (fun _ _ => rfl) ls s

/-- The announcement of a gate goes to the planner and the Drive Unit, never to a port (R34). -/
@[simp] theorem announceGate_ports (x : Point) (was : Bool) : (s.announceGate x was).ports = s.ports := by
  unfold State.announceGate
  split
  · split
    · rfl
    · exact withdrawLoads_ports s _
  · split <;> rfl
  · rfl

theorem changeReasons_postsStay (x : Point) (r : PerReason Bool) : PostsStay s (s.changeReasons x r) := by
  unfold State.changeReasons
  split
  · exact PostsStay.refl s
  · exact (postTo_portsAfter (s.storeReasons x r) _ _).postsStay.trans (PostsStay.of_ports (announceGate_ports _ _ _))

theorem haltGates_postsStay : PostsStay s s.haltGates :=
  foldl_keeps PostsStay PostsStay.refl PostsStay.trans (fun t x => changeReasons_postsStay t x _) Point.all s

theorem unhaltGates_postsStay : PostsStay s s.unhaltGates := by
  have posted : ∀ r who, PostsStay s ((s.setPtc r).postTo .pointChanged who) :=
    fun r who => (postTo_portsAfter (s.setPtc r) _ who).postsStay
  unfold State.unhaltGates
  dsimp only
  split <;> exact posted _ _

theorem abortTest_postsStay : PostsStay s s.abortTest := by
  unfold State.abortTest
  split
  · exact (postTo_portsAfter (s.setDru _) _ _).postsStay
  · exact PostsStay.refl s

/-- Ending a drive test changes its status and posts, and nothing else (R138). -/
theorem abortTest_eq :
    s.abortTest =
      { s with dru := { s.dru with test := { s.dru.test with status := s.abortTest.dru.test.status } }
               ports := s.abortTest.ports } := by
  unfold State.abortTest
  split <;> rfl

end

/-! ## Entering an operating state (R171, R172) -/

/-- The State Controller and the drive test at the entry to an operating state, before the other blocks are told. -/
def State.stamped (s : State) (op : OpState) : State :=
  let a := (s.setStc { s.stc with op := op, enteredAt := s.tbu.seconds }).postAll .stateChanged
  if op = .config then a else a.abortTest

/-- Everything that an entry to an operating state does before the gates: the stamp, the master lines, the halt. -/
def State.enteredBeforeGates (s : State) (op : OpState) : State :=
  let b := (s.stamped op).setMasters
  b.setTme (if op = .hold ∨ op = .lockout then b.tme.halted else b.tme.unhalted)

section
variable (s : State) (op : OpState)

theorem stamped_eq :
    s.stamped op =
      { s with stc := { s.stc with op := op, enteredAt := s.tbu.seconds }
               dru := { s.dru with test := { s.dru.test with status := (s.stamped op).dru.test.status } }
               ports := (s.stamped op).ports } := by
  unfold State.stamped
  dsimp only
  split
  · rfl
  · exact abortTest_eq _

theorem stamped_stateChanged (q : Port) : ((s.stamped op).ports.get q).posted.get .stateChanged = true := by
  unfold State.stamped
  dsimp only
  split
  · simp [State.postTo_posted]
  · exact abortTest_postsStay _ q .stateChanged (by simp [State.postTo_posted])

/-- The gates are halted or released last: what both keep holds of the whole rest of an entry. -/
theorem enterState_keeps (R : State → State → Prop) (halt : ∀ u : State, R u u.haltGates)
    (release : ∀ u : State, R u u.unhaltGates) : R (s.enteredBeforeGates op) (s.enterState op) := by
  cases op with
  | run => exact release _
  | selftest | config | hold | lockout => exact halt _

theorem enterState_gateFrame : GateFrame (s.enteredBeforeGates op) (s.enterState op) :=
  enterState_keeps s op GateFrame State.haltGates_gateFrame State.unhaltGates_gateFrame

/-- The Drive Unit after an entry: the master lines as R124 has them for the new state (R124, R138). -/
theorem enterState_dru :
    (s.enterState op).dru.gms = gmsOf op ∧ (s.enterState op).dru.ems = emsOf op (s.enterState op).dru.test.status ∧
      DriveKept s (s.enterState op) := by
  have gates := (enterState_gateFrame s op).dru
  have before : (s.enteredBeforeGates op).dru =
      { (s.stamped op).dru with gms := gmsOf op, ems := emsOf op (s.stamped op).dru.test.status } := by
    simp only [State.enteredBeforeGates, State.setMasters, State.setTme, State.setDru]
    rw [stamped_eq]
  unfold DriveKept
  rw [gates, before, stamped_eq]
  exact ⟨rfl, rfl, rfl⟩

/-- An entry to an operating state reaches the blocks that R172 names, and no other. -/
theorem enterState_controlFrame : ControlFrame s (s.enterState op) := by
  obtain ⟨ptc, spl, -, rest⟩ := enterState_gateFrame s op
  obtain ⟨-, -, drive⟩ := enterState_dru s op
  have before : s.enteredBeforeGates op =
      { s with stc := (s.enteredBeforeGates op).stc, dru := (s.enteredBeforeGates op).dru
               tme := (s.enteredBeforeGates op).tme, ports := (s.enteredBeforeGates op).ports } := by
    simp only [State.enteredBeforeGates, State.setMasters, State.setTme, State.setDru]
    rw [stamped_eq]
  have timers := s.enterState_tme op
  unfold PlannerKept at spl
  rw [before] at ptc spl rest
  refine ⟨spl, ⟨?_, ?_⟩, drive, ?_, ?_, ?_⟩
  · unfold DemandKept; rw [ptc]
  · rw [ptc]
  · rw [rest]
  · rw [timers]; split <;> simp
  · rw [rest]

theorem enterState_stateChanged (q : Port) : ((s.enterState op).ports.get q).posted.get .stateChanged = true :=
  enterState_keeps s op PostsStay haltGates_postsStay unhaltGates_postsStay q _ (stamped_stateChanged s op q)

end

/-- From `s` to `t` an operating state is entered, and what follows it in each block is done (R171, R172). -/
structure Entered (op : OpState) (s t : State) : Prop where
  stc : t.stc = { s.stc with op := op, enteredAt := s.tbu.seconds }
  tme : t.tme = if op = .hold ∨ op = .lockout then s.tme.halted else s.tme.unhalted
  gms : t.dru.gms = gmsOf op
  ems : t.dru.ems = emsOf op t.dru.test.status
  reasons : ∀ x, t.ptc.reasons.get x = (s.ptc.reasons.get x).set .halted (op ≠ .run)
  frame : ControlFrame s t
  posted : ∀ q, (t.ports.get q).posted.get .stateChanged = true

theorem enterState_entered (s : State) (op : OpState) : Entered op s (s.enterState op) := by
  obtain ⟨gms, ems, -⟩ := enterState_dru s op
  exact ⟨s.enterState_stc op, s.enterState_tme op, gms, ems, s.enterState_reasons op, enterState_controlFrame s op,
    enterState_stateChanged s op⟩

/-! ## A reply and what closes a command -/

/-- A frame from a state whose State Controller and port units alone were changed is a frame from that state. -/
theorem ControlFrame.of_stc_ports {s t : State} {stc : Stc} {ports : PerPort PortUnit}
    (h : ControlFrame { s with stc := stc, ports := ports } t) : ControlFrame s t :=
  ⟨h.planner, h.points, h.drive, h.alerts, h.timers, h.rest⟩

@[simp] theorem answer_spl (s : State) (p : Port) (i : Instr) (r : Reply) : (s.answer p i r).spl = s.spl := rfl
@[simp] theorem answer_alc (s : State) (p : Port) (i : Instr) (r : Reply) : (s.answer p i r).alc = s.alc := rfl

theorem ControlFrame.settle_answer {s u : State} (h : ControlFrame s u) (old : State) (p : Port) (i : Instr) (r : Reply) :
    ControlFrame s (settle old (u.answer p i r)) := by
  obtain ⟨planner, points, drive, alerts, timers, rest⟩ := h
  have closed := (settle_frame old (u.answer p i r)).rest
  unfold PlannerKept at planner
  refine ⟨?_, ?_, ?_, ?_, ?_, ?_⟩
  · unfold PlannerKept; rw [closed]; dsimp only [answer_spl]; rw [planner]
  · unfold DemandKept; rw [settle_ptc]; exact points
  · unfold DriveKept; rw [settle_dru]; exact drive
  · rw [closed]; dsimp only [answer_alc]; rw [alerts]
  · rw [settle_tme]; exact timers
  · rw [closed, rest]; rfl

theorem Entered.settle_answer {op : OpState} {s u : State} (h : Entered op s u) (old : State) (p : Port) (i : Instr)
    (r : Reply) : Entered op s (settle old (u.answer p i r)) := by
  obtain ⟨stc, tme, gms, ems, reasons, frame, posted⟩ := h
  refine ⟨?_, ?_, ?_, ?_, ?_, frame.settle_answer old p i r, fun q => ?_⟩
  · rw [settle_stc]; exact stc
  · rw [settle_tme]; exact tme
  · rw [settle_dru]; exact gms
  · rw [settle_dru]; exact ems
  · rw [settle_ptc]; exact reasons
  · rw [(settle_frame old _).posted q .stateChanged nofun]
    exact (answer_portsAfter u p i r).postsStay q .stateChanged (posted q)

theorem settle_replied (old u : State) (p : Port) (i : Instr) (r : Reply) :
    (settle old (u.answer p i r)).Replied p r.code r.status r.data := by
  unfold State.Replied
  rw [(settle_frame old _).units p]
  exact answer_lastReply u p i r

/-- A block that answers OK by entering an operating state (R171, R193). -/
theorem request_entered {s v : State} {i : Instr} {code : Byte} {p : Port} {take : Taken} {op : OpState} {data : List Byte}
    (passed : s.dispatch code p take = take) (h : take = (v.enterState op).taken data) :
    ∃ t, request i code p s take = .next t ∧ Entered op v t ∧ t.Replied p (replyCode code) .ok data := by
  refine ⟨_, rfl, ?_, ?_⟩
  · rw [passed, h]
    exact (enterState_entered v op).settle_answer s p i _
  · rw [passed, h]
    exact settle_replied s (v.enterState op) p i _

/-! ## Hold causes (R173) -/

/-- Of the hold causes TIMEBASE alone is a system cause (R160). -/
theorem causePresent_storeHolds (s : State) {h : PerHold Bool} (same : h.timebase = s.stc.holds.timebase) (c : SystemCause) :
    (s.storeHolds h).causePresent c = s.causePresent c := by
  cases c with
  | timebase => exact same
  | _ => rfl

/-- A block that answers OK with a new hold cause set, TIMEBASE as it was: the set, STATE_CHANGED at every port, the reply. -/
theorem request_storeHolds {s : State} {i : Instr} {code : Byte} {p : Port} {take : Taken} {h : PerHold Bool}
    {data : List Byte} (passed : s.dispatch code p take = take) (same : h.timebase = s.stc.holds.timebase)
    (taken : take = (s.storeHolds h).taken data) :
    ∃ t, request i code p s take = .next t ∧
      t = { s with stc := { s.stc with holds := h }, ports := t.ports, pins := t.pins } ∧
      PortsAfter (some p) (toAll .stateChanged) s t ∧ t.Replied p (replyCode code) .ok data := by
  let v := s.storeHolds h
  have posted : PortsAfter none (toAll .stateChanged) s v :=
    (postTo_portsAfter (s.setStc _) .stateChanged fun _ => true).congr rfl rfl fun _ _ => (Bool.and_true _).symm
  have closed : request i code p s take = .next (v.answer p i (take.reply code)).setLines := by
    unfold request
    dsimp only
    rw [passed, taken]
    exact congrArg _ (settle_quiet (fun c => causePresent_storeHolds s same c) rfl)
  refine ⟨_, closed, rfl, ?_, ?_⟩
  · exact ((posted.weaken p).trans (answer_portsAfter v p i _)).congr rfl rfl fun _ _ => (Bool.or_false _).symm
  · rw [taken]
    exact answer_lastReply v p i _

theorem noHold_iff (t : Stc) : t.noHold = true ↔ ∀ h, t.holds.get h = false := by
  simp only [Stc.noHold, List.all_eq_true, Bool.not_eq_true']
  exact ⟨fun all h => all h (Hold.mem_all h), fun all h _ => all h⟩

theorem otherHold_iff (t : Stc) : t.otherHold = true ↔ ∃ h, h ≠ .supervisorRequest ∧ t.holds.get h = true := by
  simp only [Stc.otherHold, Bool.or_eq_true]
  constructor
  · rintro ((silent | timebase) | board)
    · exact ⟨.supervisorSilent, nofun, silent⟩
    · exact ⟨.timebase, nofun, timebase⟩
    · exact ⟨.boardOvertemp, nofun, board⟩
  · rintro ⟨h, other, present⟩
    cases h with
    | supervisorSilent => exact .inl (.inl present)
    | timebase => exact .inl (.inr present)
    | boardOvertemp => exact .inr present
    | supervisorRequest => exact absurd rfl other

section
variable {s : State}

theorem addHold_present {h : Hold} (present : s.stc.holds.get h = true) : s.addHold h = s := if_pos present

theorem addHold_enters {h : Hold} (run : s.stc.op = .run) (clear : s.stc.noHold = true) :
    s.addHold h = (s.storeHolds (s.stc.holds.set h true)).enterState .hold := by
  have absent := (noHold_iff s.stc).1 clear h
  simp only [State.addHold, absent, run, clear, and_self, if_true, Bool.false_eq_true, if_false]

theorem addHold_stays {h : Hold} (absent : s.stc.holds.get h = false) (stays : ¬ (s.stc.op = .run ∧ s.stc.noHold = true)) :
    s.addHold h = s.storeHolds (s.stc.holds.set h true) := by
  simp only [State.addHold, absent, stays, Bool.false_eq_true, if_false]

end

/-! ## A request of the supervisor alone (R191, R192) -/

section
variable {s : State} {code : Byte} (take : Taken)

theorem dispatch_panel (own : supervisorCodes.contains code = true) {p : Port} (panel : p ≠ .supervisor) :
    s.dispatch code p take = s.refuse .notPermitted := by
  rw [dispatch_eq, if_pos (by rw [roleAllowed, own]; simp [panel])]

theorem dispatch_selftest (op : s.stc.op = .selftest) (closed : selftestCodes.contains code = false) :
    s.dispatch code .supervisor take = s.refuse .busy := by
  rw [dispatch_eq, if_neg (by simp [roleAllowed]), if_pos ⟨op, closed⟩]

theorem dispatch_supervisor (op : s.stc.op ≠ .selftest) : s.dispatch code .supervisor take = take :=
  dispatch_taken rfl (.inl op)

end

/-! ## HOLD_REQUEST (R174) -/

section
variable {s : State}

theorem takeHoldRequest_refused (op : s.stc.op = .config ∨ s.stc.op = .lockout) :
    s.takeHoldRequest = s.refuse .refusedState := if_pos op

theorem takeHoldRequest_taken (op : ¬ (s.stc.op = .config ∨ s.stc.op = .lockout)) :
    s.takeHoldRequest =
      (s.addHold .supervisorRequest).taken (encHolds { s.stc.holds with supervisorRequest := true }) := by
  have holds : (s.addHold .supervisorRequest).stc.holds = { s.stc.holds with supervisorRequest := true } :=
    s.addHold_holds _
  unfold State.takeHoldRequest
  rw [if_neg op, ← holds]

/-- SUPERVISOR_REQUEST is present: the set is answered, and nothing changes. -/
theorem holdRequest_present (lines : s.LinesFollow) (busy : s.stc.op ≠ .selftest)
    (op : ¬ (s.stc.op = .config ∨ s.stc.op = .lockout)) (present : s.stc.holds.supervisorRequest = true) :
    ∃ t, exec (.holdRequest .supervisor) s = .next t ∧ OnlyReplied .supervisor 0xCA .ok (encHolds s.stc.holds) s t := by
  have taken := takeHoldRequest_taken op
  rw [addHold_present (h := .supervisorRequest) present, ← present] at taken
  exact request_onlyReplied lines ((dispatch_supervisor _ busy).trans taken)

/-- The set was empty in RUN: the part enters HOLD. -/
theorem holdRequest_enters (run : s.stc.op = .run) (clear : s.stc.noHold = true) :
    ∃ t, exec (.holdRequest .supervisor) s = .next t ∧
      Entered .hold (s.storeHolds { s.stc.holds with supervisorRequest := true }) t ∧
      t.Replied .supervisor 0xCA .ok (encHolds { s.stc.holds with supervisorRequest := true }) := by
  have taken := takeHoldRequest_taken (s := s) (by simp [run])
  rw [addHold_enters run clear] at taken
  exact request_entered (dispatch_supervisor _ (by simp [run])) taken

/-- The cause joins the set, and no operating state is entered. -/
theorem holdRequest_joins (busy : s.stc.op ≠ .selftest) (op : ¬ (s.stc.op = .config ∨ s.stc.op = .lockout))
    (absent : s.stc.holds.supervisorRequest = false) (stays : ¬ (s.stc.op = .run ∧ s.stc.noHold = true)) :
    ∃ t, exec (.holdRequest .supervisor) s = .next t ∧
      t = { s with stc := { s.stc with holds := { s.stc.holds with supervisorRequest := true } }
                   ports := t.ports, pins := t.pins } ∧
      PortsAfter (some .supervisor) (toAll .stateChanged) s t ∧
      t.Replied .supervisor 0xCA .ok (encHolds { s.stc.holds with supervisorRequest := true }) := by
  have taken := takeHoldRequest_taken op
  rw [addHold_stays (h := .supervisorRequest) absent stays] at taken
  exact request_storeHolds (dispatch_supervisor _ busy) rfl taken

end

/-- Settles O53: three refusals; else the cause is present already, takes the part from RUN to HOLD, or only joins the set. -/
theorem holdRequestsHold : Obligations.HoldRequestsHold := by
  intro p s lines
  by_cases panel : p = .supervisor
  case neg =>
    obtain ⟨t, next, only⟩ := request_onlyReplied (i := .holdRequest p) lines
      (dispatch_panel (code := 0x4A) s.takeHoldRequest rfl panel)
    exact ⟨t, next, fun _ => only, by simp [panel], by simp [panel], by simp [panel]⟩
  subst panel
  by_cases busy : s.stc.op = .selftest
  case pos =>
    obtain ⟨t, next, only⟩ := request_onlyReplied (i := .holdRequest .supervisor) lines
      (dispatch_selftest (code := 0x4A) s.takeHoldRequest busy rfl)
    exact ⟨t, next, by simp, fun _ _ => only, by simp [busy], by simp [busy]⟩
  by_cases op : s.stc.op = .config ∨ s.stc.op = .lockout
  case pos =>
    obtain ⟨t, next, only⟩ := request_onlyReplied (i := .holdRequest .supervisor) lines
      ((dispatch_supervisor (code := 0x4A) s.takeHoldRequest busy).trans (takeHoldRequest_refused op))
    exact ⟨t, next, by simp, fun _ e => absurd e busy, fun _ _ => only, by rcases op with op | op <;> simp [op]⟩
  by_cases present : s.stc.holds.supervisorRequest = true
  case pos =>
    obtain ⟨t, next, only⟩ := holdRequest_present lines busy op present
    obtain ⟨state, posts, replied⟩ := only
    have stc : t.stc = s.stc := by rw [state]
    have empty : ¬ s.stc.noHold = true := fun clear =>
      Bool.false_ne_true (((noHold_iff _).1 clear .supervisorRequest).symm.trans present)
    refine ⟨t, next, by simp, fun _ e => absurd e busy, fun _ e => absurd e op, fun _ _ => ⟨?_, ?_, ?_, ?_, ?_⟩⟩
    · rw [stc, ← present]
    · rw [stc]; exact replied
    · exact fun _ clear => absurd clear empty
    · exact fun _ absent => absurd present (by simp [absent])
    · exact fun _ _ => ⟨state, posts, replied⟩
  by_cases enters : s.stc.op = .run ∧ s.stc.noHold = true
  case pos =>
    obtain ⟨run, clear⟩ := enters
    obtain ⟨t, next, entered, replied⟩ := holdRequest_enters run clear
    obtain ⟨stc, tme, gms, ems, reasons, frame, posted⟩ := entered
    have holds : t.stc.holds = { s.stc.holds with supervisorRequest := true } := by rw [stc]; rfl
    rw [← holds] at replied stc
    refine ⟨t, next, by simp, fun _ e => absurd e busy, fun _ e => absurd e op, fun _ _ => ⟨holds, replied, ?_, ?_, ?_⟩⟩
    · exact fun _ _ => ⟨stc, tme, gms, ems, reasons, ControlFrame.of_stc_ports (s := s) frame, posted⟩
    · exact fun hold => absurd hold (by simp [run])
    · exact fun hold => absurd hold (by simp [run])
  case neg =>
    obtain ⟨t, next, state, ports, replied⟩ := holdRequest_joins busy op (by simpa using present) enters
    have holds : t.stc.holds = { s.stc.holds with supervisorRequest := true } := by rw [state]
    rw [← holds] at replied state
    refine ⟨t, next, by simp, fun _ e => absurd e busy, fun _ e => absurd e op, fun _ _ => ⟨holds, replied, ?_, ?_, ?_⟩⟩
    · exact fun run clear => absurd ⟨run, clear⟩ enters
    · exact fun _ _ => ⟨state, ports⟩
    · exact fun _ e => absurd e present

/-! ## RESUME (R175) -/

section
variable {s : State}

theorem takeResume_refused (op : s.stc.op ≠ .hold) : s.takeResume = s.refuse .refusedState := if_pos op

theorem takeResume_held (op : s.stc.op = .hold) (other : s.stc.otherHold = true) :
    s.takeResume = ⟨s, .refusedState, encHolds s.stc.holds⟩ := by
  rw [State.takeResume, if_neg (not_not_intro op), if_pos other]

theorem takeResume_taken (op : s.stc.op = .hold) (clear : ¬ s.stc.otherHold = true) :
    s.takeResume = ((s.removeHold .supervisorRequest).enterState .run).taken [] := by
  rw [State.takeResume, if_neg (not_not_intro op), if_neg clear]

end

/-- Settles O54: refused; else held by another cause, or the part enters RUN. -/
theorem resumesRun : Obligations.ResumesRun := by
  intro p s lines
  by_cases panel : p = .supervisor
  case neg =>
    obtain ⟨t, next, only⟩ := request_onlyReplied (i := .resume p) lines
      (dispatch_panel (code := 0x4B) s.takeResume rfl panel)
    exact ⟨t, next, fun _ => only, by simp [panel], by simp [panel], by simp [panel], by simp [panel]⟩
  subst panel
  by_cases busy : s.stc.op = .selftest
  · obtain ⟨t, next, only⟩ := request_onlyReplied (i := .resume .supervisor) lines
      (dispatch_selftest (code := 0x4B) s.takeResume busy rfl)
    exact ⟨t, next, by simp, fun _ _ => only, by simp [busy], by simp [busy], by simp [busy]⟩
  have passed := dispatch_supervisor (code := 0x4B) s.takeResume busy
  by_cases op : s.stc.op = .hold
  case neg =>
    obtain ⟨t, next, only⟩ := request_onlyReplied (i := .resume .supervisor) lines
      (passed.trans (takeResume_refused op))
    exact ⟨t, next, by simp, fun _ e => absurd e busy, fun _ _ => only, fun _ e => absurd e op, fun _ e => absurd e op⟩
  have notRefused : ¬ (s.stc.op = .config ∨ s.stc.op = .run ∨ s.stc.op = .lockout) := by simp [op]
  by_cases other : s.stc.otherHold = true
  · obtain ⟨h, cause, present⟩ := (otherHold_iff _).1 other
    obtain ⟨t, next, only⟩ := request_onlyReplied (i := .resume .supervisor) lines
      (passed.trans (takeResume_held op other))
    refine ⟨t, next, by simp, fun _ e => absurd e busy, fun _ e => absurd e notRefused, fun _ _ _ _ _ => only, ?_⟩
    intro _ _ clear
    rw [clear h cause] at present; cases present
  · have taken := takeResume_taken op other
    rw [State.removeHold_eq] at taken
    obtain ⟨t, next, entered, replied⟩ := request_entered (i := .resume .supervisor) passed taken
    obtain ⟨stc, tme, gms, ems, reasons, frame, posted⟩ := entered
    refine ⟨t, next, by simp, fun _ e => absurd e busy, fun _ e => absurd e notRefused, ?_, ?_⟩
    · exact fun _ _ h cause present => absurd ((otherHold_iff _).2 ⟨h, cause, present⟩) other
    · exact fun _ _ _ => ⟨stc, replied, tme, gms, ems, frame.of_stc_ports, reasons, posted⟩

end Sys2Proof.Machine

/-! # The machine as a whole: the inversion of `exec`, the reset, and the requests that change nothing

Every request is `request`, every event but COLD_RESET ends in `settle`: said once, with what a block makes of each command.  -/

namespace Sys2Proof.Machine

/-! ## Steps -/

/-- Settles O1: the definition of a step. -/
theorem stepRunsTheFrontCommand : Obligations.StepRunsTheFrontCommand := fun _ _ _ => rfl

/-- In SELFTEST an RC millisecond touches the part in progress and the count of free values, else nothing (R179, log 13). -/
theorem idleSelftest_cases (s : State) :
    (s.stc.op ≠ .selftest ∧ s.idleSelftest = s) ∨
    (s.stc.op = .selftest ∧ ∃ part, s.idleSelftest =
      { s with stc := { s.stc with selfTest := { s.stc.selfTest with part := part } }, free := s.free + 1 }) := by
  unfold State.idleSelftest
  by_cases op : s.stc.op = .selftest
  · rw [if_pos op]
    refine .inr ⟨op, ?_⟩
    split
    · exact ⟨_, rfl⟩
    · exact ⟨s.stc.selfTest.part, rfl⟩
  · rw [if_neg op]
    exact .inl ⟨op, rfl⟩

/-- Settles O2: the silence of the panels is counted, and the self-test alone may go on beside it. -/
theorem idleStepIsAnRcMillisecond : Obligations.IdleStepIsAnRcMillisecond := by
  intro s empty
  have next : step s = .next s.idle := by unfold step; rw [empty]
  have silence : ∀ p, (⟨s.presence.a.idle, s.presence.b.idle⟩ : PerPanel Presence).get p =
      { s.presence.get p with silence := (s.presence.get p).silence.map fun n => min 65534999 (n + 1) } := by
    intro p; cases p <;> rfl
  refine ⟨s.idle, next, ?_⟩
  unfold State.idle
  obtain ⟨op, eq⟩ | ⟨op, part, eq⟩ := idleSelftest_cases (s.setPresence ⟨s.presence.a.idle, s.presence.b.idle⟩)
  · rw [eq]
    exact ⟨rfl, silence, fun _ => ⟨rfl, rfl⟩⟩
  · rw [eq]
    exact ⟨rfl, silence, fun n => absurd op n⟩

/-! ## The cold reset (R179) -/

/-- Settles O4: the reset values, block by block. -/
theorem resetIsSound : Obligations.ResetIsSound := by
  constructor
  · exact {
      lines := by unfold State.LinesFollow; decide
      masters := by unfold State.MastersFollow; decide
      gates := by intro p; cases p <;> decide
      halt := by unfold State.HaltFollows; decide
      timebase := by unfold State.TimebaseHeld; decide
      run := by unfold State.RunIsClear; decide
      test := by unfold State.TestInConfig; decide
      first := by unfold State.FirstFaultHeld; decide }
  · exact {
      slots := by decide
      arrears := by intro l; cases l <;> decide
      buffers := by intro p; cases p <;> decide
      notices := by decide }

/-- Settles O9: COLD_RESET answers the reset state with the queue and the count of free values kept. -/
theorem coldResetTakesEveryBlock : Obligations.ColdResetTakesEveryBlock := by
  intro s
  refine ⟨_, rfl, rfl, rfl, rfl, rfl, rfl, rfl, rfl, rfl, rfl, ?_, ?_, ?_, rfl, rfl, rfl, ?_, rfl, ?_, ?_, rfl⟩
  · intro p; cases p <;> rfl
  · change ∀ n < 24, Tme.reset.timer n = none
    decide
  · intro l; cases l <;> exact ⟨rfl, rfl⟩
  · intro c; cases c <;> rfl
  · intro f; cases f <;> rfl
  · intro p; cases p <;> exact ⟨rfl, rfl⟩

/-! ## What a block makes of each command -/

/-- The state that the block of a command leaves, before the reply and before what closes every command. COLD_RESET alone is not
closed, and stands here as leaving the state as it is. -/
def State.effect (s : State) : Instr → State
  | .coldReset => s
  | .selftestEnd found => s.endSelftest found
  | .selftestTimeLimit => if s.stc.op = .selftest then s.selftestFails .timeLimit else s
  | .sliceBoundary x m c => s.sliceBoundary x m c
  | .valveGraceOver => s.endGraces
  | .driveTestComplete => if s.dru.test.exhausted then s.completeTest else s
  | .windowEnd => s.evalWindow
  | .crystalStop => s.crystalStops
  | .crystalStart => s.setTbu { s.tbu with crystalRunning := true }
  | .mainsLost => s.losesMains
  | .mainsPresent => s.setTbu { s.tbu with mainsPresent := true }
  | .sliceMiddleSample closed opened => if s.stc.op = .selftest then s else s.takeSample (s.sampleOf closed opened)
  | .passComplete => s.completePass
  | .timerExpiry => s.tickExpiry
  | .timerStartAtTime => s.tickStart
  | .timerStartAtTemp => s.tempStart
  | .probeStop => s.probeExpiry
  | .conversionEnd samples => s.endConversion samples
  | .alertSilence => s.silenceOldest
  | .frameReceived p crc => s.takeCrc p crc
  | .gapTimeout p => s.onPort p PortUnit.gapped
  | .frameErr p => s.onPort p PortUnit.misframed
  | .lineBreak p => s.onPort p PortUnit.broken
  | .replySent p => s.onPort p fun u => u.sent p s.stc.op
  | .presenceTimeout p => s.presenceExpires p
  | .watchdogExpiry => s.watchdogExpires
  | .busLinesFree => if s.pmc.bus = .waitFree then s.setBus .transfer s.pmc.progress else s
  | .busFreeTimeout => if s.pmc.bus = .waitFree then s.endJob .memBus else s
  | .clockStretchTimeout => if s.pmc.bus = .transfer ∨ s.pmc.bus = .pollWait then s.endJob .memBus else s
  | .readBurstEnd result => s.burstEnd result
  | .retryWaitExpiry => if s.pmc.bus = .retryWait then s.setBus .transfer s.pmc.progress else s
  | .pageWriteEnd result => s.pageEnd result
  | .writePoll acknowledged => s.poll acknowledged
  | .clockSet _ time => (s.takeClockSet time).state
  | .pointDemand p point demand => (s.takePointDemand p point demand).state
  | .timerCreate p fields => (s.takeTimerCreate p fields).state
  | .timerAdjust p h delta => (s.takeTimerAdjust p h delta).state
  | .timerPause p h => (s.takeUserPause p h true).state
  | .timerResume p h => (s.takeUserPause p h false).state
  | .timerCancel p h => (s.takeTimerCancel p h).state
  | .timerAdopt p h => (s.takeTimerAdopt p h).state
  | .seqLoad p channel index => (s.takeSeqLoad p channel index).state
  | .seqStore p channel steps => (s.takeSeqStore p channel steps).state
  | .seqStart p channel start => (s.takeSeqStart p channel start).state
  | .seqPause p channel => (s.takeSeqPause p channel true).state
  | .seqResume p channel => (s.takeSeqPause p channel false).state
  | .seqAbort p channel => (s.onChannel p channel fun c => (s.abortSequence c).taken []).state
  | .libWrite _ index kind steps => (s.takeLibWrite index kind steps).state
  | .verifySet _ mode tolerance relay valve => (s.takeVerifySet mode tolerance relay valve).state
  | .driveTest _ mask length => (s.takeDriveTest mask length).state
  | .driveTestAbort _ => s.takeDriveTestAbort.state
  | .senseConfig _ mask averaging cal restore => (s.takeSenseConfig mask averaging cal restore).state
  | .alertAck _ what => (s.takeAlertAck what).state
  | .cfgLoads _ entries => (s.takeCfgLoads entries).state
  | .cfgBudget _ watts => (s.takeCfgBudget watts).state
  | .cfgAssign _ entries => (s.takeCfgAssign entries).state
  | .cfgRank _ a b c d => (s.takeCfgRank a b c d).state
  | .cfgLimits _ cav grl => (s.takeCfgLimits cav grl).state
  | .cfgTimebase _ mode tolerance => (s.takeCfgTimebase mode tolerance).state
  | .cfgMemory _ device base => (s.takeCfgMemory device base).state
  | .cfgPorts _ a b watchdog => (s.takeCfgPorts a b watchdog).state
  | .cfgCommit _ => s.takeCfgCommit.state
  | .holdRequest _ => s.takeHoldRequest.state
  | .resume _ => s.takeResume.state
  | .restart _ => s.takeRestart.state
  | .faultClear _ flags => (s.takeFaultClear flags).state
  | .faultMask _ mask => (s.takeFaultMask mask).state
  | .eventsClear p classes => (s.takeEventsClear p classes).state
  | .eventsMask p classes => (s.takeEventsMask p classes).state
  | .countersClear p => s.onPort p fun u => { u with counters := Counters.zero }
  | .byteReceived p b => s.takeByte p b
  | .lineHighAfterBreak p => s.onPort p PortUnit.revived
  | .clockRead _ | .timebaseRead _ | .pointRead _ _ | .timerRead _ _ | .timerList _ _ | .seqRead _ _ | .planRead _ _
  | .feedbackRead _ | .senseRead _ | .alertList _ | .stateRead _ | .faultRead _ | .eventsRead _ | .countersRead _ _ => s

/-! ### The reads leave the state as it is -/

section
variable (s : State)

@[simp] theorem onTimer_read_state (p : Port) (h : Handle) (f : Timer → List Byte) :
    (s.onTimer p h false fun t => { state := s, status := .ok, data := f t }).state = s := by
  unfold State.onTimer; split <;> rfl

@[simp] theorem takePointRead_state (w : PointField) : (s.takePointRead w).state = s := by
  unfold State.takePointRead; repeat' split
  all_goals rfl

@[simp] theorem takeTimerList_state (f : Option FilterField) : (s.takeTimerList f).state = s := by
  unfold State.takeTimerList; repeat' split
  all_goals rfl

@[simp] theorem takeSeqRead_state (w : ChannelField) : (s.takeSeqRead w).state = s := by
  unfold State.takeSeqRead; repeat' split
  all_goals rfl

@[simp] theorem takePlanRead_state (w : Nat) : (s.takePlanRead w).state = s := by
  unfold State.takePlanRead; split <;> rfl

@[simp] theorem takeCountersRead_state (p : Port) (q : Option Nat) : (s.takeCountersRead p q).state = s := by
  unfold State.takeCountersRead; repeat' split
  all_goals rfl

end

/-- Every request is a `request` with its code, and what its block leaves is its effect (R191 to R193). -/
theorem exec_request {i : Instr} {p : Port} {code : Byte} {only : Bool} (h : asRequest i = some (p, code, only)) (s : State) :
    ∃ c take, exec i s = request i c p s take ∧ take.state = s.effect i ∧ replyCode c = code ∧
      supervisorCodes.contains c = only ∧ (selftestCodes.contains c = true ↔ i = .stateRead p ∨ i = .faultRead p) := by
  cases i <;> first
    | (cases h; done)
    | (obtain ⟨rfl, rfl, rfl⟩ := by simpa [asRequest] using h
       exact ⟨_, _, rfl, by simp [State.effect, State.taken], by decide, by decide, by simp [selftestCodes]⟩)

/-- Every event but COLD_RESET closes its effect. -/
theorem exec_event {i : Instr} (h : asRequest i = none) (n : i ≠ .coldReset) (s : State) :
    exec i s = .next (settle s (s.effect i)) := by
  cases i <;> first
    | (cases h; done)
    | exact absurd rfl n
    | rfl

/-- What a command but COLD_RESET leaves, said once: the state as it was or the effect of its block, with the reply where it is a
request, and closed. -/
theorem exec_cases {i : Instr} {s t : State} (n : i ≠ .coldReset) (h : exec i s = .next t) :
    ∃ u, t = settle s u ∧ ((asRequest i = none ∧ u = s.effect i) ∨
      ∃ p r v, u = v.answer p i r ∧ (v = s ∨ v = s.effect i)) := by
  cases k : asRequest i with
  | none =>
    rw [exec_event k n] at h
    cases h
    exact ⟨_, rfl, .inl ⟨rfl, rfl⟩⟩
  | some q =>
    obtain ⟨c, take, eq, state, -⟩ := exec_request k s
    rw [eq] at h
    cases h
    refine ⟨_, rfl, .inr ⟨_, _, _, rfl, ?_⟩⟩
    rw [dispatch_eq, ← state]
    split
    · exact .inl rfl
    · split
      · exact .inl rfl
      · exact .inr rfl

/-- A relation that every effect keeps, that a reply and the closing keep too, is kept by every command but COLD_RESET. -/
theorem exec_keeps (R : State → State → Prop) (refl : ∀ s, R s s) (trans : ∀ {s t u}, R s t → R t u → R s u)
    (answer : ∀ (s : State) p i r, R s (s.answer p i r)) (closing : ∀ o n, R n (settle o n)) {i : Instr}
    {s t : State} (n : i ≠ .coldReset) (effect : R s (s.effect i)) (h : exec i s = .next t) : R s t := by
  obtain ⟨u, rfl, ⟨-, rfl⟩ | ⟨p, r, v, rfl, eq⟩⟩ := exec_cases n h
  · exact trans effect (closing s _)
  · have kept : R s v := by
      rcases eq with rfl | rfl
      · exact refl _
      · exact effect
    exact trans (trans kept (answer v p i r)) (closing _ _)

/-! ## The checks before a block's own, and the reply (R189 to R193) -/

/-- Settles O10: the two checks of R191 that stand before the block. -/
theorem refusedBeforeTheBlock : Obligations.RefusedBeforeTheBlock := by
  intro i p code only s h lines
  obtain ⟨c, take, eq, -, rfl, rfl, self⟩ := exec_request h s
  rw [eq]
  constructor
  · intro own panel
    exact request_onlyReplied lines (dispatch_panel take own panel)
  · intro allowed state fault op
    refine request_onlyReplied lines ?_
    have closed : selftestCodes.contains c = false := by
      rw [Bool.eq_false_iff]
      exact fun k => (self.1 k).elim state fault
    rw [dispatch_eq, if_neg, if_pos ⟨op, closed⟩]
    · rfl
    · cases k : supervisorCodes.contains c
      · simpa [roleAllowed] using fun _ => by simpa using k
      · simp [roleAllowed, allowed k]

/-- The replies of the port units after a command from port `p` was answered are those of `answer`. -/
theorem settle_answer_unit (o u : State) (p : Port) (i : Instr) (r : Reply) :
    ((settle o (u.answer p i r)).ports.get p).lastReply = some r ∧
    ((settle o (u.answer p i r)).ports.get p).service = ((u.ports.get p).answer i r).service ∧
    ((settle o (u.answer p i r)).ports.get p).cutOff = ((u.ports.get p).answer i r).cutOff := by
  rw [(settle_frame o _).units p, answer_ports, if_pos rfl]
  exact ⟨PortUnit.answer_lastReply _ i r, rfl, rfl⟩

end Sys2Proof.Machine

/-! # What a command can do to the whole machine

Almost every operation leaves alone what the relations between blocks rest on: such a one is `Calm`. The others are the few moves of
`Moves`, and the effect of every command but RESTART, FAULT_CLEAR and ALERT_ACK is a chain of them. -/

namespace Sys2Proof.Machine

/-! ## What is left alone -/

/-- What the relations between blocks speak of: the operating state with its hold causes and faults, the master lines and the drive
test's status, HALTED and FAULT of every gate with the attribution sets, the halt in force, and the source. -/
structure Control where
  op : OpState
  holds : PerHold Bool
  faults : Faults
  first : Option (FaultId × BitVec 32)
  gms : Bool
  ems : Bool
  test : TestStatus
  marks : PerPoint (Bool × Bool)
  attribution : Attribution
  halt : Bool
  source : Source

/-- HALTED and FAULT of every gate. -/
def Ptc.marks (t : Ptc) : PerPoint (Bool × Bool) := .of fun p => ((t.reasons.get p).halted, (t.reasons.get p).fault)

/-- The control part of a state. -/
def State.control (s : State) : Control :=
  { op := s.stc.op, holds := s.stc.holds, faults := s.stc.faults, first := s.stc.firstFault, gms := s.dru.gms, ems := s.dru.ems,
    test := s.dru.test.status, marks := s.ptc.marks, attribution := s.ptc.attribution, halt := s.tme.halt,
    source := s.tbu.source }

/-- The system entries of the Alert List. -/
def Alc.system (a : Alc) : List Alert := a.entries.filter fun e => !e.isTimer

/-- What a port unit keeps while no byte comes or goes and no reply is formed. -/
def PortUnit.traffic (u : PortUnit) : Receiver × List Frame × Service × Option Reply × List Instr :=
  (u.rx, u.buffer, u.service, u.lastReply, u.cutOff)

/-- What no block but the port units and the timebase brings out of place: the queue, the seconds counter, the sizes of the tables,
the traffic of the ports, and the system entries. -/
structure Apart (s t : State) : Prop where
  pending : t.pending = s.pending
  seconds : t.tbu.seconds = s.tbu.seconds
  slots : t.tme.slots.length = s.tme.slots.length
  arrears : (∀ l, s.spl.arrears.get l ≤ 40) → ∀ l, t.spl.arrears.get l ≤ 40
  notices : s.alc.notices.length ≤ 4 → t.alc.notices.length ≤ 4
  traffic : ∀ p, (t.ports.get p).traffic = (s.ports.get p).traffic
  system : t.alc.system = s.alc.system

/-- An operation that leaves the control part alone as well. -/
structure Calm (s t : State) : Prop extends Apart s t where
  control : t.control = s.control

theorem Apart.refl (s : State) : Apart s s := ⟨rfl, rfl, rfl, id, id, fun _ => rfl, rfl⟩

theorem Apart.trans {s t u : State} (h : Apart s t) (k : Apart t u) : Apart s u :=
  ⟨k.pending.trans h.pending, k.seconds.trans h.seconds, k.slots.trans h.slots, k.arrears ∘ h.arrears, k.notices ∘ h.notices,
    fun p => (k.traffic p).trans (h.traffic p), k.system.trans h.system⟩

theorem Calm.refl (s : State) : Calm s s := ⟨Apart.refl s, rfl⟩

theorem Calm.trans {s t u : State} (h : Calm s t) (k : Calm t u) : Calm s u :=
  ⟨h.toApart.trans k.toApart, k.control.trans h.control⟩

/-- Two operations, the later one first. -/
theorem Calm.after {s t u : State} (k : Calm t u) (h : Calm s t) : Calm s u := h.trans k

section
variable (s : State)

/-! ## One block's state replaced -/

/-- The blocks of which `Calm` says nothing, and the lines. -/
theorem Calm.of_rest {s t : State}
    (h : t = { s with squ := t.squ, pmc := t.pmc, snu := t.snu, presence := t.presence, watchdog := t.watchdog, pins := t.pins
                      free := t.free }) : Calm s t := by
  rw [h]; exact ⟨⟨rfl, rfl, rfl, id, id, fun _ => rfl, rfl⟩, rfl⟩

theorem setSqu_calm (v : PerSeq Channel) : Calm s (s.setSqu v) := Calm.of_rest rfl
theorem setPmc_calm (v : Pmc) : Calm s (s.setPmc v) := Calm.of_rest rfl
theorem setSnu_calm (v : Snu) : Calm s (s.setSnu v) := Calm.of_rest rfl
theorem setPresence_calm (v : PerPanel Presence) : Calm s (s.setPresence v) := Calm.of_rest rfl
theorem setWatchdog_calm (v : Watchdog) : Calm s (s.setWatchdog v) := Calm.of_rest rfl
theorem setFree_calm (v : Nat) : Calm s (s.setFree v) := Calm.of_rest rfl

theorem setTbu_calm {v : Tbu} (source : v.source = s.tbu.source) (seconds : v.seconds = s.tbu.seconds) :
    Calm s (s.setTbu v) :=
  ⟨⟨rfl, seconds, rfl, id, id, fun _ => rfl, rfl⟩, by simp [State.control, source]⟩

theorem setTme_calm {v : Tme} (slots : v.slots.length = s.tme.slots.length) (halt : v.halt = s.tme.halt) :
    Calm s (s.setTme v) :=
  ⟨⟨rfl, rfl, slots, id, id, fun _ => rfl, rfl⟩, by simp [State.control, halt]⟩

theorem setSpl_calm {v : Spl} (arrears : (∀ l, s.spl.arrears.get l ≤ 40) → ∀ l, v.arrears.get l ≤ 40) : Calm s (s.setSpl v) :=
  ⟨⟨rfl, rfl, rfl, arrears, id, fun _ => rfl, rfl⟩, rfl⟩

theorem setDru_calm {v : Dru} (gms : v.gms = s.dru.gms) (ems : v.ems = s.dru.ems) (test : v.test.status = s.dru.test.status) :
    Calm s (s.setDru v) :=
  ⟨⟨rfl, rfl, rfl, id, id, fun _ => rfl, rfl⟩, by simp [State.control, gms, ems, test]⟩

theorem setAlc_calm {v : Alc} (notices : s.alc.notices.length ≤ 4 → v.notices.length ≤ 4) (system : v.system = s.alc.system) :
    Calm s (s.setAlc v) :=
  ⟨⟨rfl, rfl, rfl, id, notices, fun _ => rfl, system⟩, rfl⟩

theorem setPtc_calm {v : Ptc} (marks : v.marks = s.ptc.marks) (attribution : v.attribution = s.ptc.attribution) :
    Calm s (s.setPtc v) :=
  ⟨⟨rfl, rfl, rfl, id, id, fun _ => rfl, rfl⟩, by simp [State.control, marks, attribution]⟩

theorem setStc_apart (v : Stc) : Apart s (s.setStc v) := ⟨rfl, rfl, rfl, id, id, fun _ => rfl, rfl⟩

theorem setPtc_apart (v : Ptc) : Apart s (s.setPtc v) := ⟨rfl, rfl, rfl, id, id, fun _ => rfl, rfl⟩

theorem setDru_apart (v : Dru) : Apart s (s.setDru v) := ⟨rfl, rfl, rfl, id, id, fun _ => rfl, rfl⟩

theorem setTme_apart {v : Tme} (slots : v.slots.length = s.tme.slots.length) : Apart s (s.setTme v) :=
  ⟨rfl, rfl, slots, id, id, fun _ => rfl, rfl⟩

theorem setTbu_apart {v : Tbu} (seconds : v.seconds = s.tbu.seconds) : Apart s (s.setTbu v) :=
  ⟨rfl, seconds, rfl, id, id, fun _ => rfl, rfl⟩

/-- The State Controller's fields beside the control part. -/
theorem setStc_calm {v : Stc} (op : v.op = s.stc.op) (holds : v.holds = s.stc.holds) (faults : v.faults = s.stc.faults)
    (first : v.firstFault = s.stc.firstFault) : Calm s (s.setStc v) :=
  ⟨setStc_apart s v, by simp [State.control, op, holds, faults, first]⟩

theorem postTo_calm (c : EventClass) (who : Port → Bool) : Calm s (s.postTo c who) :=
  ⟨⟨rfl, rfl, rfl, id, id, fun p => by simp [PortUnit.traffic], rfl⟩, rfl⟩

theorem postAll_calm (c : EventClass) : Calm s (s.postAll c) := postTo_calm s c _

/-- A port unit changed in its counters, its event mask or its pending set. -/
theorem onPort_calm (p : Port) {f : PortUnit → PortUnit} (h : ∀ u, (f u).traffic = u.traffic) : Calm s (s.onPort p f) := by
  refine ⟨⟨rfl, rfl, rfl, id, id, fun q => ?_, rfl⟩, rfl⟩
  simp only [State.onPort, State.setPorts_ports, PerPort.get_set]
  split
  · next e => rw [h, e]
  · rfl

/-! ## Passes, withdrawals and gates -/

theorem startPass_calm : Calm s s.startPass := setSpl_calm s id

theorem withdrawLoad_calm (l : Load) : Calm s (s.withdrawLoad l) := ⟨⟨rfl, rfl, rfl, id, id, fun _ => rfl, rfl⟩, rfl⟩

theorem withdrawGas_calm (z : Gas) : Calm s (s.withdrawGas z) := setDru_calm s rfl rfl rfl

theorem withdrawLoads_calm (ls : List Load) : Calm s (s.withdrawLoads ls) :=
  foldl_keeps Calm Calm.refl Calm.trans withdrawLoad_calm ls s

theorem announceGate_calm (p : Point) (was : Bool) : Calm s (s.announceGate p was) := by
  unfold State.announceGate
  split
  · split
    · exact withdrawGas_calm s _
    · exact (withdrawLoads_calm s _).trans (startPass_calm _)
  · split
    · exact startPass_calm s
    · exact Calm.refl s
  · exact Calm.refl s

theorem changeReasons_apart (p : Point) (r : PerReason Bool) : Apart s (s.changeReasons p r) := by
  unfold State.changeReasons
  split
  · exact Apart.refl s
  · exact ((setPtc_apart s _).trans (postTo_calm _ _ _).toApart).trans (announceGate_calm _ _ _).toApart

theorem marks_set {t : Ptc} {p : Point} {r : PerReason Bool} (halted : r.halted = (t.reasons.get p).halted)
    (fault : r.fault = (t.reasons.get p).fault) : { t with reasons := t.reasons.set p r }.marks = t.marks := by
  refine PerPoint.eq_of_get fun q => ?_
  simp only [Ptc.marks, PerPoint.get_of, PerPoint.get_set]
  split
  · next e => rw [e, halted, fault]
  · rfl

theorem changeReasons_calm {p : Point} {r : PerReason Bool} (halted : r.halted = (s.ptc.reasons.get p).halted)
    (fault : r.fault = (s.ptc.reasons.get p).fault) : Calm s (s.changeReasons p r) := by
  unfold State.changeReasons
  split
  · exact Calm.refl s
  · exact ((setPtc_calm s (marks_set halted fault) rfl).trans (postTo_calm _ _ _)).trans (announceGate_calm _ _ _)

theorem addReason_calm (p : Point) {r : Reason} (halted : r ≠ .halted) (fault : r ≠ .fault) : Calm s (s.addReason p r) := by
  cases r <;> first
    | contradiction
    | exact changeReasons_calm s rfl rfl

theorem removeReason_calm (p : Point) {r : Reason} (halted : r ≠ .halted) (fault : r ≠ .fault) :
    Calm s (s.removeReason p r) := by
  cases r <;> first
    | contradiction
    | exact changeReasons_calm s rfl rfl

theorem haltGates_apart : Apart s s.haltGates :=
  foldl_keeps Apart Apart.refl Apart.trans (fun t p => changeReasons_apart t p _) Point.all s

theorem unhaltGates_apart : Apart s s.unhaltGates := by
  have posted : ∀ r who, Apart s ((s.setPtc r).postTo .pointChanged who) :=
    fun r who => (setPtc_apart s r).trans (postTo_calm _ _ who).toApart
  unfold State.unhaltGates
  dsimp only
  split
  · exact (posted _ _).trans (startPass_calm _).toApart
  · exact posted _ _

theorem setAttribution_apart (a : Attribution) : Apart s (s.setAttribution a) := by
  refine (setPtc_apart s _).trans
    (foldl_keeps Apart Apart.refl Apart.trans (fun t p => ?_) Point.all (s.setPtc { s.ptc with attribution := a }))
  unfold State.followAttribution
  split
  · exact Apart.refl t
  · exact (postTo_calm _ _ _).toApart.trans (changeReasons_apart _ _ _)

/-! ## Faults, hold causes, operating states -/

theorem latch_apart (i : FaultId) : Apart s (s.latch i) := by
  unfold State.latch
  split
  · exact Apart.refl s
  · exact (setStc_apart s _).trans (postAll_calm _ _).toApart

theorem setMasters_apart : Apart s s.setMasters := setDru_apart s _

theorem abortTest_apart : Apart s s.abortTest := by
  unfold State.abortTest
  split
  · exact (setDru_apart s _).trans (postAll_calm _ _).toApart
  · exact Apart.refl s

theorem enterState_apart (op : OpState) : Apart s (s.enterState op) := by
  have a : Apart s ((s.setStc { s.stc with op := op, enteredAt := s.tbu.seconds }).postAll .stateChanged) :=
    (setStc_apart s _).trans (postAll_calm _ _).toApart
  have halt : ∀ t : State, Apart s t → Apart s (t.setTme t.tme.halted).haltGates := fun t h =>
    (h.trans (setTme_apart t (by simp [Tme.halted]))).trans (haltGates_apart _)
  have free : ∀ t : State, Apart s t → Apart s (t.setTme t.tme.unhalted) := fun t h =>
    h.trans (setTme_apart t (by simp [Tme.unhalted]))
  have tested := (a.trans (abortTest_apart _)).trans (setMasters_apart _)
  cases op with
  | run => exact (free _ tested).trans (unhaltGates_apart _)
  | hold => exact halt _ tested
  | lockout => exact halt _ tested
  | config => exact (free _ (a.trans (setMasters_apart _))).trans (haltGates_apart _)
  | selftest => exact (free _ tested).trans (haltGates_apart _)

theorem storeHolds_apart (h : PerHold Bool) : Apart s (s.storeHolds h) :=
  (setStc_apart s _).trans (postAll_calm _ _).toApart

theorem addHold_apart (h : Hold) : Apart s (s.addHold h) := by
  unfold State.addHold
  split
  · exact Apart.refl s
  · dsimp only
    split
    · exact (storeHolds_apart s _).trans (enterState_apart _ _)
    · exact storeHolds_apart s _

theorem removeHold_apart (h : Hold) : Apart s (s.removeHold h) := by
  unfold State.removeHold
  split
  · exact storeHolds_apart s _
  · exact Apart.refl s

theorem requestLockout_apart : Apart s s.requestLockout := by
  unfold State.requestLockout
  split <;> first
    | exact enterState_apart s _
    | exact Apart.refl s

theorem switchSource_apart (src : Source) : Apart s (s.switchSource src) := by
  have h : Apart s ((s.setTbu (s.tbu.switched src)).postAll .timebaseChanged) :=
    (setTbu_apart s (v := s.tbu.switched src) rfl).trans (postAll_calm _ _).toApart
  unfold State.switchSource
  dsimp only
  split
  · exact (h.trans (latch_apart _ _)).trans (addHold_apart _ _)
  · exact h.trans (removeHold_apart _ _)

theorem latchStuck_apart (l : Load) : Apart s (s.latchStuck l) := by
  unfold State.latchStuck
  split
  · exact Apart.refl s
  · exact (((latch_apart s _).trans (setAttribution_apart _ _)).trans (setDru_apart _ _)).trans (requestLockout_apart _)

theorem latchValve_apart (z : Gas) : Apart s (s.latchValve z) := by
  unfold State.latchValve
  split
  · exact Apart.refl s
  · exact (((latch_apart s _).trans (setAttribution_apart _ _)).trans (setDru_apart _ _)).trans (requestLockout_apart _)

end

/-! ## The moves -/

/-- The place of a flag or member in the order of R181. -/
def FaultId.rank (i : FaultId) : Nat := FaultId.all.idxOf i

/-- A drive test completed: its record, and the master lines after it (R124, R137). -/
def State.closeTest (s : State) (outcome : PerLoad Standing) : State :=
  (s.setDru { s.dru with test := { s.dru.test with status := .complete, outcome := outcome } }).setMasters

/-- What the effect of a command can do to the control part, one move after another. Flags and members latch in the order of R181:
those of a chain from `a` to `b` have their places from `a` on and before `b`. -/
inductive Moves : Nat → Nat → State → State → Prop
  | calm {k : Nat} {s t : State} (h : Calm s t) : Moves k k s t
  | trans {a b c : Nat} {s t u : State} (h : Moves a b s t) (k : Moves b c t u) : Moves a c s u
  | weaken {a b a' b' : Nat} {s t : State} (low : a' ≤ a) (high : b ≤ b') (h : Moves a b s t) : Moves a' b' s t
  | latch (s : State) (i : FaultId) : Moves i.rank (i.rank + 1) s (s.latch i)
  | attribution {k : Nat} (s : State) (a : Attribution) : Moves k k s (s.setAttribution a)
  | hold {k : Nat} (s : State) {h : Hold} (other : h ≠ .timebase) : Moves k k s (s.addHold h)
  | release {k : Nat} (s : State) {h : Hold} (other : h ≠ .timebase) : Moves k k s (s.removeHold h)
  | toRc (s : State) : Moves 2 3 s (s.switchSource .rc)
  | fromRc {k : Nat} (s : State) {src : Source} (other : src ≠ .rc) : Moves k k s (s.switchSource src)
  | enter {k : Nat} {s : State} {op : OpState} (free : s.stc.op = .lockout → op = .lockout) (clear : op = .run → s.stc.noHold = true) :
      Moves k k s (s.enterState op)
  | stuck (s : State) (l : Load) : Moves (FaultId.stuckOn l).rank ((FaultId.stuckOn l).rank + 1) s (s.latchStuck l)
  | valve (s : State) (z : Gas) : Moves (FaultId.valve z).rank ((FaultId.valve z).rank + 1) s (s.latchValve z)
  | testBegins {k : Nat} {s : State} (op : s.stc.op = .config) (mask : PerLoad Bool) (total : Nat) :
      Moves k k s (s.beginTest mask total)
  | testAborts {k : Nat} (s : State) : Moves k k s s.abortTest.setMasters
  | testEnds {k : Nat} (s : State) (outcome : PerLoad Standing) : Moves k k s (s.closeTest outcome)

theorem Moves.refl (k : Nat) (s : State) : Moves k k s s := .calm (Calm.refl s)

theorem Moves.ordered {a b : Nat} {s t : State} (h : Moves a b s t) : a ≤ b := by
  induction h with
  | calm | attribution | hold | release | fromRc | enter | testBegins | testAborts | testEnds => exact Nat.le_refl _
  | latch | stuck | valve => exact Nat.le_succ _
  | toRc => decide
  | trans _ _ h k => exact h.trans k
  | weaken low high _ h => omega

/-- No move brings out of place what `Apart` names. -/
theorem Moves.apart {a b : Nat} {s t : State} (h : Moves a b s t) : Apart s t := by
  induction h with
  | calm h => exact h.toApart
  | trans _ _ h k => exact h.trans k
  | weaken _ _ _ h => exact h
  | latch s i => exact latch_apart s i
  | attribution s a => exact setAttribution_apart s a
  | hold s _ => exact addHold_apart s _
  | release s _ => exact removeHold_apart s _
  | toRc s => exact switchSource_apart s _
  | fromRc s _ => exact switchSource_apart s _
  | enter _ _ => exact enterState_apart _ _
  | stuck s l => exact latchStuck_apart s l
  | valve s z => exact latchValve_apart s z
  | testBegins _ _ _ => exact (setDru_apart _ _).trans (setMasters_apart _)
  | testAborts s => exact (abortTest_apart s).trans (setMasters_apart _)
  | testEnds s _ => exact (setDru_apart s _).trans (setMasters_apart _)

end Sys2Proof.Machine

/-! # The operations that are calm

Timers, channels, alerts, the planner, the Drive Unit's lines and counts, the memory controller and the sensing: none of them touches
the control part. -/

namespace Sys2Proof.Machine

/-- Operations in order, each of them calm. -/
theorem foldl_calm {α : Type} {f : State → α → State} (step : ∀ s x, Calm s (f s x)) (xs : List α) (s : State) :
    Calm s (xs.foldl f s) :=
  foldl_keeps Calm Calm.refl Calm.trans step xs s

/-- A request that passes its checks or is refused. -/
theorem checked_state {R : State → Prop} {s : State} {checks : List (Bool × Status)} {take : Taken} (refused : R s)
    (taken : R take.state) : R (s.checked checks take).state := by
  unfold State.checked
  split
  · exact refused
  · exact taken

section
variable (s : State)

/-! ## Slots (R42 to R57) -/

theorem setTimer_calm (n : Nat) (v : Option Timer) : Calm s (s.setTimer n v) :=
  setTme_calm s (by simp [Tme.setTimer]) rfl

theorem mapTimers_calm (f : Timer → Timer) : Calm s (s.setTme (s.tme.mapTimers f)) :=
  setTme_calm s (by simp [Tme.mapTimers]) rfl

@[simp] theorem setFollower_slots_length (t : Tme) (h : Handle) (f : Option Handle) :
    (t.setFollower h f).slots.length = t.slots.length := by
  unfold Tme.setFollower; split <;> simp [Tme.setTimer]

@[simp] theorem setFollower_halt (t : Tme) (h : Handle) (f : Option Handle) : (t.setFollower h f).halt = t.halt := by
  unfold Tme.setFollower; split <;> rfl

@[simp] theorem create_slots_length (t : Tme) (n : Nat) (r : Timer) : (t.create n r).slots.length = t.slots.length := by
  unfold Tme.create; dsimp only; split <;> simp [Tme.takeSlot]

@[simp] theorem create_halt (t : Tme) (n : Nat) (r : Timer) : (t.create n r).halt = t.halt := by
  unfold Tme.create; dsimp only; split <;> simp [Tme.takeSlot]

theorem createTimer_calm (n : Nat) (r : Timer) : Calm s (s.createTimer n r) := by
  have h : Calm s (s.setTme (s.tme.create n r)) := setTme_calm s (by simp) (by simp)
  unfold State.createTimer
  dsimp only
  split
  · exact h.trans (addReason_calm _ _ nofun nofun)
  · exact h

/-! ## Alerts and notices (R157 to R167) -/

/-- A change of the Alert List that keeps the system entries. -/
theorem storeAlerts_calm {es : List Alert} (who : Port → Bool)
    (h : (es.filter fun e => !e.isTimer) = s.alc.entries.filter fun e => !e.isTimer) : Calm s (s.storeAlerts es who) :=
  (setAlc_calm s (v := { s.alc with entries := es }) id h).trans (postTo_calm _ _ _)

theorem isTimer_of_forTimer {e : Alert} {h : Handle} (k : e.forTimer h = true) : e.isTimer = true := by
  unfold Alert.forTimer at k
  unfold Alert.isTimer
  revert k
  cases e.source with
  | timer g => exact fun _ => rfl
  | system c present => exact nofun

/-- The system entries of a list from which a timer's entry has left. -/
theorem filter_system_removed (es : List Alert) (h : Handle) :
    (es.filter fun e => !e.forTimer h).filter (fun e => !e.isTimer) = es.filter fun e => !e.isTimer := by
  rw [List.filter_filter]
  refine List.filter_congr fun e _ => ?_
  cases k : e.forTimer h
  · simp
  · simp [isTimer_of_forTimer k]

theorem raiseEntry_calm (h : Handle) (t : Timer) : Calm s (s.raiseEntry h t) :=
  storeAlerts_calm s _ (by simp [timerEntry, Alert.isTimer])

theorem removeEntry_calm (h : Handle) (t : Timer) : Calm s (s.removeEntry h t) :=
  storeAlerts_calm s _ (filter_system_removed _ h)

theorem queueNotice_calm (k : Notice) : Calm s (s.queueNotice k) := by
  unfold State.queueNotice
  split
  · next few => exact setAlc_calm s (fun _ => by simpa using few) rfl
  · exact Calm.refl s

theorem escalate_calm : Calm s s.escalate := by
  have same : ∀ e : Alert, (e.escalated s.tbu.seconds).isTimer = e.isTimer := by
    intro e; unfold Alert.escalated; split <;> rfl
  have kept : ∀ e : Alert, e.isTimer = false → e.escalated s.tbu.seconds = e := by
    intro e k; simp [Alert.escalated, k]
  refine setAlc_calm s id ?_
  simp only [Alc.system, List.filter_map]
  rw [show ((fun e : Alert => !e.isTimer) ∘ Alert.escalated s.tbu.seconds) = fun e => !e.isTimer from
    funext fun e => by simp [same]]
  refine (List.map_congr_left fun e he => ?_).trans (List.map_id _)
  exact kept e (by simpa using (List.mem_filter.1 he).2)

theorem nextNotice_length (a : Alc) : a.nextNotice.2.length ≤ a.notices.length := by
  have start : (match a.notices with
      | [] => ((none : Option (Notice × Nat)), ([] : List Notice))
      | k :: rest => (some (k, 1), rest)).2.length ≤ a.notices.length := by
    split <;> simp_all
  unfold Alc.nextNotice
  dsimp only
  split
  · split
    · exact Nat.le_refl _
    · exact start
  · exact start

theorem setBuzzer_calm : Calm s s.setBuzzer := by
  unfold State.setBuzzer
  split
  · exact setAlc_calm s id rfl
  · unfold Alc.atBoundary
    split
    · exact setAlc_calm s id rfl
    · exact setAlc_calm s (fun h => (nextNotice_length s.alc).trans h) rfl

theorem silenceAt_calm {n : Nat} {e : Alert} (found : s.alc.entries[n]? = some e) (timer : e.isTimer = true) :
    Calm s (s.silenceAt n e) := by
  refine storeAlerts_calm s _ ?_
  have split : ∀ (es : List Alert) (n : Nat), es[n]? = some e →
      (es.set n e.silenced).filter (fun x => !x.isTimer) = es.filter fun x => !x.isTimer := by
    intro es
    induction es with
    | nil => intro n h; cases h
    | cons x es ih =>
      intro n h
      cases n with
      | zero =>
        obtain rfl : x = e := by simpa using h
        have k : x.silenced.isTimer = true := timer
        simp [timer, k]
      | succ n => rw [List.set_cons_succ, List.filter_cons, List.filter_cons, ih n h]
  exact split _ n found

/-- The entry that `first` finds stands at the place it names, and meets the condition. -/
theorem first_some {a : Alc} {f : Alert → Bool} {n : Nat} {e : Alert} (h : a.first f = some (n, e)) :
    a.entries[n]? = some e ∧ f e = true := by
  unfold Alc.first at h
  obtain ⟨m, found, h⟩ := Option.bind_eq_some_iff.1 h
  obtain ⟨x, at_, h⟩ := Option.map_eq_some_iff.1 h
  cases h
  refine ⟨at_, ?_⟩
  obtain ⟨lt, holds, -⟩ := List.findIdx?_eq_some_iff_getElem.1 found
  rw [List.getElem?_eq_getElem lt] at at_
  cases at_
  exact holds

theorem silenceOldest_calm : Calm s s.silenceOldest := by
  unfold State.silenceOldest
  split
  · next n e h =>
    obtain ⟨found, due⟩ := first_some h
    refine silenceAt_calm s found ?_
    simp only [Alert.silenceDue, Bool.and_eq_true] at due
    exact due.1.1
  · exact Calm.refl s

/-! ## Channels, expiries and starts (R45 to R57, R74 to R85) -/

theorem changeChannel_calm (c : SeqChan) (v : Channel) : Calm s (s.changeChannel c v) :=
  (setSqu_calm s _).trans (postTo_calm _ _ _)

theorem restExpired_calm (n : Nat) (t : Timer) (c : EndCause) : Calm s (s.restExpired n t c) :=
  ((setTimer_calm s _ _).trans (raiseEntry_calm _ _ _)).trans (postTo_calm _ _ _)

theorem reloadStep_calm (n : Nat) (t : Timer) (c : SeqChan) (k : Nat) (next : Step) : Calm s (s.reloadStep n t c k next) :=
  ((setTimer_calm s _ _).trans (changeChannel_calm _ _ _)).trans (startPass_calm _)

theorem expireStep_calm (n : Nat) (t : Timer) (c : SeqChan) : Calm s (s.expireStep n t c) := by
  unfold State.expireStep
  dsimp only
  split
  · split
    · split
      · exact (queueNotice_calm s _).trans (reloadStep_calm _ _ _ _ _ _)
      · exact ((restExpired_calm s _ _ _).trans (changeChannel_calm _ _ _)).trans (startPass_calm _)
    · exact (startPass_calm _).after ((addReason_calm _ _ (r := .timerOff) nofun nofun).after
        ((restExpired_calm s _ _ _).trans (changeChannel_calm _ _ _)))
  · exact Calm.refl s

theorem releaseFollower_calm (h : Handle) : Calm s (s.releaseFollower h) := by
  unfold State.releaseFollower
  split
  · exact Calm.refl s
  · dsimp only
    split
    · exact (setTimer_calm s _ _).trans (postTo_calm _ _ _)
    · exact setTimer_calm s _ _

theorem expireDelay_calm (n : Nat) (t : Timer) : Calm s (s.expireDelay n t) := by
  have a : Calm s (match t.point with
      | some p => s.removeReason p .delay
      | none => s) := by
    split
    · exact removeReason_calm s _ nofun nofun
    · exact Calm.refl s
  unfold State.expireDelay
  dsimp only
  refine ((Calm.trans ?_ (queueNotice_calm _ _)).trans (postTo_calm _ _ _)).trans (setTimer_calm _ _ _)
  split
  · exact a.trans (releaseFollower_calm _ _)
  · exact a

theorem expire_calm (n : Nat) (t : Timer) (c : EndCause) : Calm s (s.expire n t c) := by
  unfold State.expire
  split
  · exact restExpired_calm s _ _ _
  · refine Calm.trans ?_ (restExpired_calm _ _ _ _)
    split
    · exact addReason_calm s _ nofun nofun
    · exact Calm.refl s
  · exact expireDelay_calm s _ _
  · split
    · exact expireStep_calm s _ _ _
    · exact Calm.refl s

theorem startSlot_calm (n : Nat) (t : Timer) (k : Notice) : Calm s (s.startSlot n t k) :=
  ((setTimer_calm s _ _).trans (postTo_calm _ _ _)).trans (queueNotice_calm _ _)

theorem acknowledgeSlot_calm (n : Nat) (t : Timer) : Calm s (s.acknowledgeSlot n t) := by
  unfold State.acknowledgeSlot
  split
  · dsimp only
    split
    · split
      · exact reloadStep_calm s _ _ _ _ _
      · exact Calm.refl s
    · exact (setTimer_calm s _ _).trans (changeChannel_calm _ _ _)
    · exact Calm.refl s
  · exact Calm.refl s
  · exact setTimer_calm s _ _

theorem freeStepSlot_calm (c : SeqChan) : Calm s (s.freeStepSlot c) := by
  unfold State.freeStepSlot
  split
  · exact Calm.refl s
  · split
    · exact Calm.refl s
    · refine Calm.trans ?_ (setTimer_calm _ _ _)
      split
      · exact removeEntry_calm s _ _
      · exact Calm.refl s

theorem retime_calm (time n : Nat) : Calm s (s.retime time n) := by
  unfold State.retime
  split
  · split
    · dsimp only
      split
      · exact startSlot_calm s _ _ _
      · exact setTimer_calm s _ _
    · exact Calm.refl s
  · exact Calm.refl s

theorem tickExpiry_calm : Calm s s.tickExpiry := by
  unfold State.tickExpiry
  split
  · split
    · exact Calm.refl s
    · split
      · exact expire_calm s _ _ _
      · exact setTimer_calm s _ _
  · exact Calm.refl s

theorem tickStart_calm : Calm s s.tickStart := by
  unfold State.tickStart
  split
  · split
    · exact startSlot_calm s _ _ _
    · exact Calm.refl s
  · exact Calm.refl s

theorem tempStart_calm : Calm s s.tempStart := by
  unfold State.tempStart
  split
  · exact startSlot_calm s _ _ _
  · exact Calm.refl s

theorem probeExpiry_calm : Calm s s.probeExpiry := by
  unfold State.probeExpiry
  split
  · exact expire_calm s _ _ _
  · exact Calm.refl s

/-! ## The requests on timers (R48 to R68) -/

/-- A request that names a handle is refused, or takes the timer that the handle names. -/
theorem onTimer_calm {p : Port} {h : Handle} {right : Bool} {take : Timer → Taken}
    (taken : ∀ t, s.tme.lookup h = .ok t → Calm s (take t).state) : Calm s (s.onTimer p h right take).state := by
  unfold State.onTimer
  split
  · exact Calm.refl s
  · next t found =>
    split
    · exact Calm.refl s
    · exact taken t found

theorem takeTimerCreate_calm (role : Port) (f : TimerFields) : Calm s (s.takeTimerCreate role f).state := by
  unfold State.takeTimerCreate
  split
  · exact Calm.refl s
  · exact Calm.refl s
  · exact checked_state (Calm.refl s) (createTimer_calm s _ _)

theorem extendTimer_calm (h : Handle) (t : Timer) (delta : Int) : Calm s (s.extendTimer h t delta) := by
  have u := (setTimer_calm s h.slot.toNat (some (t.extended delta s.tme.halt))).trans (removeEntry_calm _ h t)
  unfold State.extendTimer
  dsimp only
  split
  · exact u.trans (removeReason_calm _ _ nofun nofun)
  · exact u

theorem takeTimerAdjust_calm (role : Port) (h : Handle) (delta : Int) : Calm s (s.takeTimerAdjust role h delta).state := by
  refine onTimer_calm s fun t _ => ?_
  split
  · split
    · exact Calm.refl s
    · exact extendTimer_calm s _ _ _
  · exact setTimer_calm s _ _

theorem takeUserPause_calm (role : Port) (h : Handle) (v : Bool) : Calm s (s.takeUserPause role h v).state := by
  refine onTimer_calm s fun t _ => ?_
  split
  · exact Calm.refl s
  · exact setTimer_calm s _ _

theorem cancelEffects_calm (h : Handle) (t : Timer) : Calm s (s.cancelEffects h t) := by
  unfold State.cancelEffects
  split
  · exact removeEntry_calm s _ _
  · split
    · dsimp only
      refine Calm.trans ?_ (removeReason_calm _ _ nofun nofun)
      split
      · exact setTimer_calm s _ _
      · exact Calm.refl s
    · split
      · exact setTme_calm s (by simp) (by simp)
      · exact Calm.refl s
    · exact Calm.refl s

theorem takeTimerCancel_calm (role : Port) (h : Handle) : Calm s (s.takeTimerCancel role h).state :=
  onTimer_calm s fun _ _ => (cancelEffects_calm s _ _).trans (setTimer_calm _ _ _)

theorem takeTimerAdopt_calm (role : Port) (h : Handle) : Calm s (s.takeTimerAdopt role h).state := by
  refine onTimer_calm s fun t _ => ?_
  repeat' split
  · exact Calm.refl s
  · exact Calm.refl s
  · exact setTimer_calm s _ _

/-! ## The memory controller and the channels' requests (R75 to R95) -/

theorem startJob_calm : Calm s s.startJob := by
  unfold State.startJob
  split
  · exact Calm.refl s
  · exact (setPmc_calm s _).trans (setFree_calm _ _)

theorem queueJob_calm (j : Job) : Calm s (s.queueJob j) := by
  unfold State.queueJob
  dsimp only
  split
  · exact (setPmc_calm s _).trans (startJob_calm _)
  · exact setPmc_calm s _

theorem dropJob_calm : Calm s s.dropJob := (setPmc_calm s _).trans (startJob_calm _)

theorem setBus_calm (b : BusState) (g : Progress) : Calm s (s.setBus b g) := setPmc_calm s _

theorem onChannel_calm {role : Port} {code : Nat} {take : SeqChan → Taken} (taken : ∀ c, Calm s (take c).state) :
    Calm s (s.onChannel role code take).state := by
  unfold State.onChannel
  split
  · exact Calm.refl s
  · split
    · exact Calm.refl s
    · exact taken _

theorem takeSeqStore_calm (role : Port) (code : Nat) (fields : List StepField) : Calm s (s.takeSeqStore role code fields).state := by
  refine onChannel_calm s fun c => ?_
  dsimp only
  repeat' split
  · exact Calm.refl s
  · exact Calm.refl s
  · exact Calm.refl s
  · exact (freeStepSlot_calm s _).trans (changeChannel_calm _ _ _)

theorem takeSeqLoad_calm (role : Port) (code index : Nat) : Calm s (s.takeSeqLoad role code index).state :=
  onChannel_calm s fun _ => checked_state (Calm.refl s)
    (((freeStepSlot_calm s _).trans (changeChannel_calm _ _ _)).trans (queueJob_calm _ _))

theorem startSequence_calm (role : Port) (c : SeqChan) (first : Step) (start : StartField) :
    Calm s (s.startSequence role c first start).state :=
  (startPass_calm _).after ((changeChannel_calm _ _ _).after (setTme_calm s (by simp [Tme.takeSlot]) rfl))

theorem takeSeqStart_calm (role : Port) (code : Nat) (start : StartField) : Calm s (s.takeSeqStart role code start).state := by
  refine onChannel_calm s fun c => ?_
  dsimp only
  split
  · exact Calm.refl s
  · exact Calm.refl s
  · exact startSequence_calm s _ _ _ _

theorem takeSeqPause_calm (role : Port) (code : Nat) (v : Bool) : Calm s (s.takeSeqPause role code v).state := by
  refine onChannel_calm s fun c => ?_
  repeat' split
  · exact Calm.refl s
  · exact Calm.refl s
  · exact Calm.refl s
  · exact setTimer_calm s _ _

theorem abortSequence_calm (c : SeqChan) : Calm s (s.abortSequence c) := by
  unfold State.abortSequence
  dsimp only
  split
  · exact Calm.refl s
  · exact Calm.refl s
  · exact (setPmc_calm s _).trans (changeChannel_calm _ _ _)
  · exact ((freeStepSlot_calm s _).trans (changeChannel_calm _ _ _)).trans (startPass_calm _)
  · exact ((freeStepSlot_calm s _).trans (changeChannel_calm _ _ _)).trans (startPass_calm _)
  · exact (freeStepSlot_calm s _).trans (changeChannel_calm _ _ _)
  · exact changeChannel_calm s _ _

theorem takeLibWrite_calm (index kind : Nat) (fields : List StepField) : Calm s (s.takeLibWrite index kind fields).state := by
  unfold State.takeLibWrite
  repeat' split
  · exact Calm.refl s
  · exact Calm.refl s
  · exact Calm.refl s
  · exact checked_state (Calm.refl s) (queueJob_calm s _)

/-! ## The Point Controller's and the planner's requests (R25 to R41, R96 to R115) -/

theorem setDemand_calm (gas : PerGas Bool) (duty : PerLoad Nat) (panel : PerPoint Panel) (rank : Rank) :
    Calm s (s.setPtc { s.ptc with gas := gas, duty := duty, panel := panel, rank := rank }) :=
  setPtc_calm s rfl rfl

theorem demandGas_calm (z : Gas) (on : Bool) : Calm s (s.demandGas z on) := by
  have h : Calm s (s.storeGas z on) := by
    unfold State.storeGas
    dsimp only
    split
    · exact setPtc_calm s rfl rfl
    · exact (postTo_calm _ _ _).after (setPtc_calm s rfl rfl)
  unfold State.demandGas
  dsimp only
  split
  · exact h
  · exact h.trans (removeReason_calm _ _ nofun nofun)

theorem demandDuties_calm (p : Point) (ds : List (Load × Nat)) : Calm s (s.demandDuties p ds) := by
  have a : Calm s (s.storeDuties p ds) := by
    unfold State.storeDuties
    dsimp only
    split
    · exact setPtc_calm s rfl rfl
    · exact (postTo_calm _ _ _).after (setPtc_calm s rfl rfl)
  have b : Calm s (if ds.all fun x => x.2 = 0 then (s.storeDuties p ds).removeReason p .timerOff else s.storeDuties p ds) := by
    split
    · exact a.trans (removeReason_calm _ _ nofun nofun)
    · exact a
  unfold State.demandDuties
  dsimp only
  split
  · exact b.trans (withdrawLoads_calm _ _)
  · exact (b.trans (withdrawLoads_calm _ _)).trans (startPass_calm _)

theorem takePointDemand_calm (role : Port) (code : Nat) (d : DemandField) : Calm s (s.takePointDemand role code d).state := by
  unfold State.takePointDemand State.takeDemand
  repeat' split
  all_goals first
    | exact Calm.refl s
    | exact demandGas_calm s _ _
    | exact demandDuties_calm s _ _

theorem takeCfgRank_calm (a b c d : Nat) : Calm s (s.takeCfgRank a b c d).state := by
  unfold State.takeCfgRank
  repeat' split
  · exact Calm.refl s
  · exact setPtc_calm s rfl rfl
  · exact Calm.refl s

theorem zeroDemand_calm (p : Point) : Calm s (s.zeroDemand p) := by
  unfold State.zeroDemand
  split
  · exact setPtc_calm s rfl rfl
  · exact (withdrawLoads_calm _ _).after (setPtc_calm s rfl rfl)

theorem assign_calm (x : Point × Panel) : Calm s (s.assign x) := by
  have h : Calm s (s.setPtc { s.ptc with panel := s.ptc.panel.set x.1 x.2 }) := setPtc_calm s rfl rfl
  unfold State.assign
  split
  · exact Calm.refl s
  · dsimp only
    refine Calm.trans ?_ (postAll_calm _ _)
    split
    · exact h
    · exact h.trans (zeroDemand_calm _ _)

theorem takeCfgAssign_calm (es : List AssignField) : Calm s (s.takeCfgAssign es).state := by
  unfold State.takeCfgAssign
  repeat' split
  · exact Calm.refl s
  · exact Calm.refl s
  · exact foldl_calm assign_calm _ s

theorem completePass_calm : Calm s s.completePass := by
  unfold State.completePass
  split
  · exact setSpl_calm s id
  · exact Calm.refl s

theorem withdrawn_arrears {t : Spl} (h : ∀ l, t.arrears.get l ≤ 40) (l : Load) : t.withdrawn.arrears.get l ≤ 40 := by
  simp only [Spl.withdrawn, PerLoad.get_of]
  split
  · omega
  · exact h l

theorem applyWithdrawals_calm : Calm s s.applyWithdrawals := setSpl_calm s fun h => withdrawn_arrears h

@[simp] theorem turned_arrears (t : Spl) : t.turned.arrears = t.arrears := by
  unfold Spl.turned; split <;> rfl

theorem charged_arrears (t : Spl) (l : Load) : t.charged.arrears.get l ≤ 40 := by
  simp only [Spl.charged, PerLoad.get_of, arrearsAfter]
  split <;> omega

theorem periodBoundary_calm : Calm s s.periodBoundary := by
  have a : Calm s (s.setSpl s.spl.turned) := setSpl_calm s fun h => by simpa using h
  exact ((((a.trans (setSpl_calm _ id)).trans (applyWithdrawals_calm _)).trans
    (setSpl_calm _ fun _ => charged_arrears _)).trans (postTo_calm _ _ _)).trans (startPass_calm _)

theorem applyLoad_arrears {t : Spl} (f : LoadField) (h : ∀ l, t.arrears.get l ≤ 40) (l : Load) :
    (t.applyLoad f).arrears.get l ≤ 40 := by
  unfold Spl.applyLoad
  split
  · exact h l
  · dsimp only
    split
    · rw [PerLoad.get_set]
      split
      · omega
      · exact h l
    · exact h l

theorem takeCfgLoads_calm (fs : List LoadField) : Calm s (s.takeCfgLoads fs).state := by
  refine checked_state (Calm.refl s) ((setSpl_calm s fun h => ?_).trans (startPass_calm _))
  have all : ∀ (fs : List LoadField) (t : Spl), (∀ l, t.arrears.get l ≤ 40) → ∀ l, (fs.foldl Spl.applyLoad t).arrears.get l ≤ 40 := by
    intro fs
    induction fs with
    | nil => exact fun _ h => h
    | cons f fs ih => exact fun t h => ih _ (applyLoad_arrears f h)
  exact all fs _ h

theorem takeCfgBudget_calm (watts : Nat) : Calm s (s.takeCfgBudget watts).state :=
  checked_state (Calm.refl s) ((startPass_calm _).after (setSpl_calm s id))

/-! ## The Drive Unit's lines, counts and settings (R121 to R133) -/

@[simp] theorem atBoundary_status (t : DriveTest) : t.atBoundary.status = t.status := by
  unfold DriveTest.atBoundary; repeat' split
  all_goals rfl

theorem endGraces_calm : Calm s s.endGraces := setDru_calm s rfl rfl rfl

theorem setDriveLines_calm : Calm s s.setDriveLines :=
  (setDru_calm s (v := { s.dru with test := s.dru.test.atBoundary }) rfl rfl (by simp)).trans (setDru_calm _ rfl rfl rfl)

theorem endSlice_calm : Calm s (s.setDru s.dru.endSlice) := setDru_calm s rfl rfl rfl

theorem openSlice_calm : Calm s s.openSlice := setDru_calm s rfl rfl rfl

theorem setStanding_calm (l : Load) (v : Standing) : Calm s (s.setStanding l v) := setDru_calm s rfl rfl rfl

theorem startVerifier_calm : Calm s s.startVerifier := setDru_calm s rfl rfl rfl

theorem startStuckCounts_calm : Calm s s.startStuckCounts := setDru_calm s rfl rfl rfl

theorem evalRelay_calm (t : Sample) : Calm s (s.evalRelay t) := by
  unfold State.evalRelay
  repeat' split
  · exact setDru_calm s rfl rfl rfl
  · exact Calm.refl s
  · exact (setDru_calm s (v := { s.dru with relay := { s.dru.relay with mismatch := true, recorded := some _ } }) rfl rfl rfl).trans
      (postTo_calm _ _ _)

theorem evalValve_calm (t : Sample) : Calm s (s.evalValve t) := by
  unfold State.evalValve
  repeat' split
  · exact setDru_calm s rfl rfl rfl
  · exact Calm.refl s
  · exact (setDru_calm s (v := { s.dru with valve := { s.dru.valve with mismatch := true, recorded := some _ } }) rfl rfl rfl).trans
      (postTo_calm _ _ _)

theorem setRun_calm (z : Gas) (n : Nat) : Calm s (s.setRun z n) := setDru_calm s rfl rfl rfl

theorem burnerRule_calm (t : Sample) (z : Gas) : Calm s (State.burnerRule t s z) := by
  have h : Calm s (s.setDru { s.dru with burnerOut := s.dru.burnerOut.set z (t.burnerOut (s.ptc.gas.get z) z) }) :=
    setDru_calm s rfl rfl rfl
  unfold State.burnerRule
  dsimp only
  split
  · exact h.trans (postTo_calm _ _ _)
  · exact h

theorem takeVerifySet_calm (mode : Option ModeField) (tolerance relay valve : Option Nat) :
    Calm s (s.takeVerifySet mode tolerance relay valve).state :=
  checked_state (Calm.refl s) (setDru_calm s rfl rfl rfl)

/-! ## Sensing and timebase settings (R8, R19, R49, R57, R151, R154) -/

theorem loseProbe_calm : Calm s s.loseProbe := (mapTimers_calm s _).trans (postTo_calm _ _ _)

theorem takeCfgLimits_calm (cav grl : Option Int) : Calm s (s.takeCfgLimits cav grl).state :=
  checked_state (Calm.refl s) (setSnu_calm s _)

theorem setDetected_calm (n : Option Nominal) : Calm s (s.setDetected n) := by
  have h : Calm s (s.setTbu { s.tbu with detected := n }) := setTbu_calm s rfl rfl
  unfold State.setDetected
  dsimp only
  split
  · exact h
  · exact h.trans (postAll_calm _ _)

theorem detect_calm (w : Window) : Calm s (s.detect w) := by
  unfold State.detect
  repeat' split
  · exact (setTbu_calm s (v := s.tbu.knowWindow) rfl rfl).trans (setDetected_calm _ _)
  · exact Calm.refl s
  · exact Calm.refl s

theorem recordWindow_calm (w : Window) (r : WindowResult) (off : Bool) : Calm s (s.recordWindow w r off) :=
  setTbu_calm s rfl rfl

@[simp] theorem skipWindow_source (t : Tbu) : t.skipWindow.source = t.source := by unfold Tbu.skipWindow; split <;> rfl
@[simp] theorem skipWindow_seconds (t : Tbu) : t.skipWindow.seconds = t.seconds := by unfold Tbu.skipWindow; split <;> rfl

@[simp] theorem override_source (t : Tbu) (v : Option Nominal) : (t.override v).source = t.source := by
  unfold Tbu.override; split
  · rfl
  · exact skipWindow_source t

@[simp] theorem override_seconds (t : Tbu) (v : Option Nominal) : (t.override v).seconds = t.seconds := by
  unfold Tbu.override; split
  · rfl
  · exact skipWindow_seconds t

theorem setOverride_calm (v : Option Nominal) : Calm s (s.setOverride v) := by
  have h : Calm s (s.setTbu (s.tbu.override v)) := setTbu_calm s (by simp) (by simp)
  unfold State.setOverride
  dsimp only
  split
  · exact h
  · exact h.trans (postAll_calm _ _)

theorem takeCfgTimebase_calm (mode tol : Option Nat) : Calm s (s.takeCfgTimebase mode tol).state := by
  refine checked_state (Calm.refl s) ?_
  have h : Calm s (match mode.bind overrideOfCode with
      | some v => s.setOverride v
      | none => s) := by
    split
    · exact setOverride_calm s _
    · exact Calm.refl s
  change Calm s (s.storeTimebase mode tol)
  unfold State.storeTimebase
  dsimp only
  split
  · exact h.trans (setTbu_calm _ rfl rfl)
  · exact h

theorem takeClockSet_calm (time : Nat) : Calm s (s.takeClockSet time).state := by
  unfold State.takeClockSet
  split
  · exact Calm.refl s
  · have h : Calm s ((s.setTbu { s.tbu with timeOfDay := some time }).postAll .timebaseChanged) :=
      (postAll_calm _ _).after (setTbu_calm s rfl rfl)
    exact h.trans (foldl_calm (fun t n => retime_calm t time n) _ _)

theorem takeSenseConfig_calm (mask averaging : Option Nat) (cal : Option (List CalField)) (restore : Bool) :
    Calm s (s.takeSenseConfig mask averaging cal restore).state :=
  checked_state (Calm.refl s) (setSnu_calm s _)

/-! ## The port units and the fault mask (R67, R75, R183, R194 to R200) -/

theorem orphanTimers_calm (p : Panel) : Calm s (s.orphanTimers p) := by
  unfold State.orphanTimers
  dsimp only
  split
  · exact mapTimers_calm s _
  · exact (mapTimers_calm s _).trans (postTo_calm _ _ _)

theorem orphanChannel_calm (p : Panel) (c : SeqChan) : Calm s (s.orphanChannel p c) := by
  unfold State.orphanChannel
  split
  · exact (changeChannel_calm s _ _).trans (postTo_calm _ _ _)
  · exact Calm.refl s

theorem declareAbsent_calm (p : Panel) : Calm s (s.declareAbsent p) :=
  ((setPresence_calm s _).trans (orphanTimers_calm _ _)).trans (foldl_calm (fun t c => orphanChannel_calm t p c) _ _)

theorem presenceExpires_calm (p : Panel) : Calm s (s.presenceExpires p) := by
  unfold State.presenceExpires
  dsimp only
  split
  · exact (setPresence_calm s _).trans (declareAbsent_calm _ _)
  · exact Calm.refl s

theorem storePresence_calm (p : Panel) (v : Option Nat) : Calm s (s.storePresence p v) := by
  unfold State.storePresence
  split
  · exact Calm.refl s
  · dsimp only
    split
    · exact (setPresence_calm s _).trans (declareAbsent_calm _ _)
    · exact setPresence_calm s _

theorem takeCfgPorts_calm (a b watchdog : Option Nat) : Calm s (s.takeCfgPorts a b watchdog).state := by
  refine checked_state (Calm.refl s) ?_
  have h : Calm s ((s.storePresence .a a).storePresence .b b) := (storePresence_calm s _ _).trans (storePresence_calm _ _ _)
  change Calm s (s.storeTimeouts a b watchdog)
  unfold State.storeTimeouts
  dsimp only
  split
  · exact h
  · exact h.trans (setWatchdog_calm _ _)

theorem takeFaultMask_calm (bits : Nat) : Calm s (s.takeFaultMask bits).state := by
  unfold State.takeFaultMask
  repeat' split
  · exact Calm.refl s
  · exact Calm.refl s
  · exact setStc_calm s rfl rfl rfl rfl

theorem takeEventsClear_calm (p : Port) (bits : Nat) : Calm s (s.takeEventsClear p bits).state := by
  unfold State.takeEventsClear
  repeat' split
  · exact Calm.refl s
  · exact Calm.refl s
  · exact onPort_calm s p (f := fun u => u.cleared _) fun _ => rfl

theorem takeEventsMask_calm (p : Port) (bits : Nat) : Calm s (s.takeEventsMask p bits).state := by
  unfold State.takeEventsMask
  split
  · exact Calm.refl s
  · exact onPort_calm s p (f := fun u => { u with eventMask := _ }) fun _ => rfl

end

end Sys2Proof.Machine

/-! # The effect of every command as a chain of moves -/

namespace Sys2Proof.Machine

/-! ## Chains -/

/-- Latches of one order, each at its place, in a list that goes up in that order. -/
theorem foldl_moves {α : Type} (rank : α → Nat) {f : State → α → State} {hi : Nat}
    (step : ∀ s x, Moves (rank x) (rank x + 1) s (f s x)) : ∀ (xs : List α) (lo : Nat) (s : State), lo ≤ hi →
      (xs.map rank).Pairwise (· < ·) → (∀ x ∈ xs, lo ≤ rank x ∧ rank x < hi) → Moves lo hi s (xs.foldl f s)
  | [], _, s, le, _, _ => .weaken (Nat.le_refl _) le (Moves.refl _ s)
  | x :: xs, _, s, _, sorted, within => by
    obtain ⟨low, high⟩ := within x (List.mem_cons_self ..)
    obtain ⟨above, sorted⟩ := List.pairwise_cons.1 sorted
    refine .trans (.weaken low (Nat.le_refl _) (step s x))
      (foldl_moves rank step xs (rank x + 1) (f s x) high sorted fun y hy => ⟨?_, ?_⟩)
    · exact above _ (List.mem_map_of_mem hy)
    · exact (within y (List.mem_cons_of_mem _ hy)).2

/-- A chain that moves nothing in place at any rank. -/
theorem Moves.wide {k lo hi : Nat} {s t : State} (h : Moves k k s t) (low : lo ≤ k) (high : k ≤ hi) : Moves lo hi s t :=
  .weaken low high h

/-- Moves that begin with a calm operation. -/
theorem Moves.after {a b : Nat} {s t u : State} (k : Moves a b t u) (h : Calm s t) : Moves a b s u := .trans (.calm h) k

/-- Moves that follow others, the later ones first. -/
theorem Moves.behind {a b c : Nat} {s t u : State} (k : Moves b c t u) (h : Moves a b s t) : Moves a c s u := .trans h k

section
variable (s : State)

/-! ## The timebase (R10 to R15) -/

theorem leaveSource_calm : Calm s (s.setTbu s.tbu.leaveSource) := setTbu_calm s rfl rfl

theorem forgetKnown_calm : Calm s (s.setTbu s.tbu.forgetKnown) := setTbu_calm s rfl rfl

theorem failCrystal_moves : Moves 1 3 s s.failCrystal := by
  have a : Moves 1 2 s ((s.setTbu { s.tbu with crystal := .failed }).latch (.plain .xtal)) :=
    Moves.after (.latch _ (.plain .xtal)) (setTbu_calm s rfl rfl)
  unfold State.failCrystal
  refine .trans a ?_
  unfold Tbu.fallback
  split
  · exact (Moves.fromRc (k := 2) _ (src := .mains) nofun).wide (Nat.le_refl _) (by omega)
  · exact .toRc _

theorem qualifyCrystal_moves (k : Nat) : Moves k k s s.qualifyCrystal :=
  Moves.after (.fromRc _ nofun) (setTbu_calm s rfl rfl)

theorem crystalStops_moves : Moves 1 3 s s.crystalStops := by
  unfold State.crystalStops
  split
  · dsimp only
    have a : Calm s (s.setTbu { s.tbu.mapWindows fun w => { w with crystal := false } with
        crystalRunning := false, qualRun := 0, agreeRun := 0, sliceCrystal := false }) := setTbu_calm s rfl rfl
    split
    · exact (failCrystal_moves _).after ((leaveSource_calm _).after a)
    · exact (Moves.calm (k := 1) a).wide (Nat.le_refl _) (by omega)
  · exact (Moves.refl 1 s).wide (Nat.le_refl _) (by omega)

theorem losesMains_moves : Moves 2 3 s s.losesMains := by
  unfold State.losesMains
  split
  · dsimp only
    have a : Calm s ((s.setTbu { s.tbu.mapWindows fun w => { w with mains := false } with mainsPresent := false }).setDetected
        none) := (setDetected_calm _ _).after (setTbu_calm s rfl rfl)
    have b := a.trans (forgetKnown_calm _)
    split
    · exact Moves.after (.toRc _) ((leaveSource_calm _).after b)
    · exact (Moves.calm (k := 2) b).wide (Nat.le_refl _) (by omega)
  · exact (Moves.refl 2 s).wide (Nat.le_refl _) (by omega)

theorem disagrees_moves : Moves 3 4 s s.disagrees := by
  unfold State.disagrees
  dsimp only
  have a : Calm s ((s.setTbu { s.tbu with disagreeRun := min 255 (s.tbu.disagreeRun + 1) }).postAll .timebaseChanged) :=
    (postAll_calm _ _).after (setTbu_calm s rfl rfl)
  split
  · exact Moves.after (.latch _ (.plain .timebaseSuspect)) a
  · exact (Moves.calm (k := 3) a).wide (Nat.le_refl _) (by omega)

theorem evalXtal_moves (w : Window) : Moves 1 4 s (s.evalXtal w) := by
  unfold State.evalXtal
  split
  · dsimp only
    have u := fun r off => (detect_calm s w).trans (recordWindow_calm _ w r off)
    split
    · exact .weaken (a := 3) (b := 4) (by omega) (Nat.le_refl _) ((disagrees_moves _).after (u _ _))
    · refine .weaken (a := 1) (b := 1) (Nat.le_refl _) (by omega) (.calm ?_)
      have v := u ((s.detect w).tbu.agreement w) (decide ((s.detect w).tbu.agreement w = .disagree))
      refine v.trans ?_
      exact setTbu_calm _ rfl rfl
  · exact .weaken (a := 1) (b := 3) (Nat.le_refl _) (by omega) ((failCrystal_moves _).after (recordWindow_calm _ _ _ _))

theorem evalMains_moves (w : Window) (k : Nat) : Moves k k s (s.evalMains w) := by
  have u := recordWindow_calm s w (s.tbu.mainsResult w) false
  unfold State.evalMains
  dsimp only
  generalize (if s.tbu.mainsResult w = .agree then min 6 (s.tbu.agreeRun + 1) else 0) = n
  split
  · refine Moves.after (qualifyCrystal_moves _ k) (Calm.trans u ?_)
    exact setTbu_calm _ rfl rfl
  · refine .calm (Calm.trans u ?_)
    exact setTbu_calm _ rfl rfl

theorem evalRc_moves (w : Window) (k : Nat) : Moves k k s (s.evalRc w) := by
  have u := (detect_calm s w).trans (recordWindow_calm _ w .notEvaluated false)
  unfold State.evalRc
  dsimp only
  split
  · exact .trans (.calm u) (.fromRc _ nofun)
  · exact .calm u

theorem evalWindow_moves : Moves 1 4 s s.evalWindow := by
  have a : Calm s (s.setTbu { s.tbu with ended := none }) := setTbu_calm s rfl rfl
  have quiet : ∀ {t}, Moves 1 1 s t → Moves 1 4 s t := fun h => h.wide (Nat.le_refl _) (by omega)
  unfold State.evalWindow
  split
  · exact quiet (Moves.refl 1 s)
  · dsimp only
    split
    · exact quiet (.trans (.calm a) (evalRc_moves _ _ 1))
    · split
      · exact .trans (.calm a) (evalXtal_moves _ _)
      · exact quiet (.calm a)
    · split
      · exact quiet (.trans (.calm a) (evalMains_moves _ _ 1))
      · exact quiet (.calm a)

/-! ## Sensing (R148 to R153) -/

theorem sensorFails_moves (c : Sensor) : Moves 8 9 s (s.sensorFails c) := by
  have a : Moves 8 9 s (s.latch (.plain .sensor)) := .latch s (.plain .sensor)
  unfold State.sensorFails
  dsimp only
  split
  · exact .trans a (.attribution _ _)
  · exact .trans a (.attribution _ _)
  · exact a

/-- A CAV or GRL reading latches its limit's flag or SENSOR, never both. -/
theorem handOnPoint_moves (c : Sensor) (p : Point) (limit : Int) {f : PlainFlag} (r : Reading)
    (rank : 6 ≤ FaultId.rank (.plain f) ∧ FaultId.rank (.plain f) < 8) : Moves 6 9 s (s.handOnPoint c p limit f r) := by
  have offered : ∀ {t : State}, Moves 6 9 s t → Moves 6 9 s (t.setTme (t.tme.mapTimers (Timer.offerTemp p r))) :=
    fun h => .trans h (.calm (mapTimers_calm _ _))
  have failed : Moves 6 9 s (s.sensorFails c) := .weaken (by omega) (Nat.le_refl _) (sensorFails_moves s c)
  have quiet : ∀ {t}, Calm s t → Moves 6 9 s t := fun h => (Moves.calm (k := 6) h).wide (Nat.le_refl _) (by omega)
  unfold State.handOnPoint
  refine offered ?_
  cases r with
  | temp d =>
    simp only [reduceCtorEq, or_self, if_false, State.limitRule]
    repeat' split
    · exact ((Moves.latch _ (.plain f)).after (addReason_calm s p (r := .overtemp) nofun nofun)).weaken rank.1 (by omega)
    · exact quiet (removeReason_calm s _ nofun nofun)
    · exact quiet (Calm.refl s)
  | unavailable => simpa [State.limitRule] using quiet (removeReason_calm s p (r := .overtemp) nofun nofun)
  | _ => simpa [State.limitRule] using failed

theorem handOnProbe_moves (r : Reading) : Moves 9 10 s (s.handOnProbe r) := by
  have quiet : ∀ {t}, Calm s t → Moves 9 10 s t := fun h => (Moves.calm (k := 9) h).wide (Nat.le_refl _) (by omega)
  unfold State.handOnProbe
  split
  · exact quiet (mapTimers_calm s _)
  · exact .trans (.latch s (.plain .probe)) (.calm (loseProbe_calm _))
  · exact quiet (loseProbe_calm s)

theorem handOnBoard_moves (r : Reading) : Moves 5 9 s (s.handOnBoard r) := by
  have quiet : ∀ {t}, Moves 5 5 s t → Moves 5 9 s t := fun h => h.wide (Nat.le_refl _) (by omega)
  unfold State.handOnBoard
  repeat' split
  · exact .weaken (Nat.le_refl _) (by omega) (.trans (.latch s (.plain .boardOvertemp)) (.hold (k := 6) _ nofun))
  · exact quiet (.release _ nofun)
  · exact quiet (Moves.refl 5 s)
  · exact quiet (.release _ nofun)
  · exact .weaken (a := 8) (by omega) (Nat.le_refl _) (.trans (.latch s (.plain .sensor)) (.hold (k := 9) _ nofun))

theorem handOn_moves (c : Sensor) (r : Reading) : Moves 5 10 s (s.handOn c r) := by
  have limits : 6 ≤ FaultId.rank (.plain .cavOvertemp) ∧ FaultId.rank (.plain .cavOvertemp) < 8 ∧
      6 ≤ FaultId.rank (.plain .grlOvertemp) ∧ FaultId.rank (.plain .grlOvertemp) < 8 := by decide
  obtain ⟨cavLow, cavHigh, grlLow, grlHigh⟩ := limits
  cases c with
  | cav => exact .weaken (by omega) (by omega) (handOnPoint_moves _ _ _ _ _ ⟨cavLow, cavHigh⟩)
  | grl => exact .weaken (by omega) (by omega) (handOnPoint_moves _ _ _ _ _ ⟨grlLow, grlHigh⟩)
  | prb => exact .weaken (by omega) (Nat.le_refl _) (handOnProbe_moves _ _)
  | brd => exact .weaken (Nat.le_refl _) (by omega) (handOnBoard_moves _ _)

theorem updateSensor_moves (c : Sensor) (r : Reading) (mean : Option Nat) : Moves 5 10 s (s.updateSensor c r mean) :=
  (handOn_moves _ c r).after (setSnu_calm s _)

/-- A channel that is no longer scanned latches nothing. -/
theorem handOn_unavailable_moves (c : Sensor) (k : Nat) : Moves k k s (s.handOn c .unavailable) := by
  cases c with
  | cav => exact .calm ((removeReason_calm s .ov (r := .overtemp) nofun nofun).trans (mapTimers_calm _ _))
  | grl => exact .calm ((removeReason_calm s .gr (r := .overtemp) nofun nofun).trans (mapTimers_calm _ _))
  | prb => exact .calm (loseProbe_calm _)
  | brd => exact .release _ nofun

theorem beginScan_moves (k : Nat) : Moves k k s s.beginScan := by
  refine .trans (.calm (setSnu_calm s s.snu.scanBegun)) (foldl_keeps (Moves k k) (Moves.refl k) .trans (fun t c => ?_) Sensor.all _)
  split
  · exact (handOn_unavailable_moves _ c k).after (setSnu_calm t _)
  · exact Moves.refl k t

theorem endConversion_moves (samples : List (BitVec 10)) : Moves 5 10 s (s.endConversion samples) := by
  unfold State.endConversion
  split
  · exact (Moves.refl 5 s).wide (Nat.le_refl _) (by omega)
  · split
    · exact .trans (.calm (setSnu_calm s _)) (updateSensor_moves _ _ _ _)
    · exact (Moves.refl 5 s).wide (Nat.le_refl _) (by omega)

/-! ## The Drive Unit (R128 to R139) -/

/-- The places of the members in the order of R181: DRIVE, STUCK_ON, VALVE, VALVE_UNEXPECTED. -/
theorem rank_drive (l : Load) : FaultId.rank (.drive l) = 11 + l.index := by cases l <;> decide
theorem rank_stuckOn (l : Load) : FaultId.rank (.stuckOn l) = 18 + l.index := by cases l <;> decide
theorem rank_valve (z : Gas) : FaultId.rank (.valve z) = 25 + z.index := by cases z <;> decide
theorem rank_valveUnexpected (z : Gas) : FaultId.rank (.valveUnexpected z) = 30 + z.index := by cases z <;> decide

theorem Load.index_lt (l : Load) : l.index < 7 := by cases l <;> decide
theorem Gas.index_lt (z : Gas) : z.index < 5 := by cases z <;> decide

theorem judge_moves (l : Load) (count : Nat) :
    Moves (FaultId.rank (.drive l)) (FaultId.rank (.drive l) + 1) s (s.judge l count) := by
  unfold State.judge
  split
  · refine .trans (.calm (setStanding_calm s l .fail)) ?_
    unfold State.latchDrive
    split
    · exact .weaken (Nat.le_refl _) (by omega) (Moves.refl _ _)
    · exact .trans (.latch _ _) (.attribution _ _)
  · exact .weaken (Nat.le_refl _) (by omega) (.calm (setStanding_calm s _ _))

/-- The outcome of each load of the mask at the completion of a drive test (R137). -/
def State.testOutcomes : PerLoad Standing :=
  .of fun l =>
    if s.dru.test.mask.get l then testOutcome s.dru.verifier.tolerance (s.dru.counts.test.get l) else .none

theorem completeTest_eq : s.completeTest =
    ((PerLoad.members s.dru.test.mask).foldl (fun t l => t.judge l (s.dru.counts.test.get l))
      (s.closeTest s.testOutcomes)).postAll .stateChanged := rfl

theorem completeTest_moves : Moves 11 18 s s.completeTest := by
  rw [completeTest_eq]
  refine .trans (.trans (.testEnds (k := 11) s s.testOutcomes) ?_) (.calm (postAll_calm _ _))
  refine foldl_moves (fun l => FaultId.rank (.drive l)) (fun t l => judge_moves t l _) _ 11 _ (by omega) ?_ ?_
  · refine List.Pairwise.sublist ((List.filter_sublist (p := _)).map _) ?_
    decide
  · intro l _
    have := Load.index_lt l
    rw [rank_drive]
    omega

theorem verify_moves : Moves 11 18 s s.verify := by
  have quiet := (Moves.refl 11 s).wide (lo := 11) (hi := 18) (Nat.le_refl _) (by omega)
  unfold State.verify
  split
  · next l _ =>
    have := Load.index_lt l
    split
    · refine .weaken (a := FaultId.rank (.drive l)) (b := FaultId.rank (.drive l) + 1) ?_ ?_
        ((judge_moves _ l _).after (setDru_calm s rfl rfl rfl)) <;> rw [rank_drive] <;> omega
    · exact quiet
  · exact quiet

theorem checkAllStuck_moves : Moves 18 25 s s.checkAllStuck := by
  unfold State.checkAllStuck
  split
  · refine foldl_moves (fun l => FaultId.rank (.stuckOn l)) (fun t l => ?_) _ 18 _ (by omega) (by decide) ?_
    · split
      · unfold State.checkStuck
        dsimp only
        have found : Calm t (t.setDru { t.dru with findings := t.dru.findings.set l (t.dru.counts.stuck l) }) :=
          setDru_calm t rfl rfl rfl
        split
        · exact (Moves.stuck _ l).after found
        · exact .weaken (Nat.le_refl _) (Nat.le_succ _) (.calm found)
      · exact .weaken (Nat.le_refl _) (by omega) (Moves.refl _ _)
    · intro l _
      have := Load.index_lt l
      rw [rank_stuckOn]
      omega
  · exact (Moves.refl 18 s).wide (Nat.le_refl _) (by omega)

theorem drivePeriod_moves : Moves 11 25 s s.drivePeriod :=
  .trans (.trans (.trans (verify_moves s) (.calm (startVerifier_calm _))) (checkAllStuck_moves _))
    (.calm (startStuckCounts_calm _))

theorem boundaryDrive_moves : Moves 11 25 s s.boundaryDrive := by
  have a := (endSlice_calm s).trans (setDriveLines_calm _)
  unfold State.boundaryDrive
  dsimp only
  refine .trans ?_ (.calm (openSlice_calm _))
  split
  · exact .trans (.calm a) (drivePeriod_moves _)
  · exact (Moves.calm (k := 11) a).wide (Nat.le_refl _) (by omega)

theorem takeSample_moves (t : Sample) : Moves 25 35 s (s.takeSample t) := by
  have b : Calm s (((s.setDru { s.dru with lastSample := some t, sampled := true, counts := s.sampleCounts t }).evalRelay
      t).evalValve t) := ((evalValve_calm _ _).after (evalRelay_calm _ _)).after (setDru_calm s rfl rfl rfl)
  have valves : ∀ u : State, Moves 25 30 u (Gas.all.foldl (State.valveRule t) u) := fun u => by
    refine foldl_moves (fun z => FaultId.rank (.valve z)) (fun v z => ?_) _ 25 u (by omega) (by decide) ?_
    · unfold State.valveRule
      split
      · exact .valve v z
      · exact .weaken (Nat.le_refl _) (by omega) (Moves.refl _ _)
    · intro z _
      have := Gas.index_lt z
      rw [rank_valve]
      omega
  have runs : ∀ u : State, Moves 30 35 u (Gas.all.foldl (State.unexpectedRule t) u) := fun u => by
    refine foldl_moves (fun z => FaultId.rank (.valveUnexpected z)) (fun v z => ?_) _ 30 u (by omega) (by decide) ?_
    · have quiet : ∀ {w}, Calm v w → Moves (FaultId.valveUnexpected z).rank ((FaultId.valveUnexpected z).rank + 1) v w :=
        fun h => .weaken (Nat.le_refl _) (by omega) (.calm h)
      unfold State.unexpectedRule
      dsimp only
      split
      · exact quiet (setRun_calm v _ _)
      · split
        · exact .trans (.trans (.trans (.latch v _) (.attribution _ _)) (.calm (setRun_calm _ _ _)))
            (.calm (setDru_calm _ rfl rfl rfl))
        · exact quiet (setRun_calm v _ _)
    · intro z _
      have := Gas.index_lt z
      rw [rank_valveUnexpected]
      omega
  exact .trans (.trans (.trans (.calm b) (valves _)) (runs _)) (.calm (foldl_calm (fun u z => burnerRule_calm u t z) _ _))

theorem takeDriveTest_moves (bits length k : Nat) : Moves k k s (s.takeDriveTest bits length).state := by
  unfold State.takeDriveTest
  split
  · exact Moves.refl k s
  · next op =>
    split
    · exact Moves.refl k s
    · split
      · exact Moves.refl k s
      · exact checked_state (Moves.refl k s) (.testBegins (by simpa using op) _ _)

theorem takeDriveTestAbort_moves (k : Nat) : Moves k k s s.takeDriveTestAbort.state := by
  unfold State.takeDriveTestAbort
  split
  · exact .testAborts s
  · exact Moves.refl k s

/-! ## The memory controller (R79, R93) -/

theorem loadResult_moves (c : SeqChan) (index : Nat) (issuer : Port) (bytes : List Byte) :
    Moves 10 11 s (s.loadResult c index issuer .ok bytes) := by
  have quiet : ∀ {t}, Calm s t → Moves 10 11 s t := fun h => (Moves.calm (k := 10) h).wide (Nat.le_refl _) (by omega)
  unfold State.loadResult
  dsimp only
  split
  · exact quiet (Calm.refl s)
  · refine .trans ?_ (.calm (postTo_calm _ _ _))
    split
    · exact quiet (changeChannel_calm s _ _)
    · exact .trans (.calm (changeChannel_calm s _ _)) (.latch _ (.plain .memory))
    · exact quiet (changeChannel_calm s _ _)

theorem loadResult_failed_calm (c : SeqChan) (index : Nat) (issuer : Port) {e : JobEnd} (bytes : List Byte) (failed : e ≠ .ok) :
    Calm s (s.loadResult c index issuer e bytes) := by
  unfold State.loadResult
  dsimp only
  split
  · exact Calm.refl s
  · refine (postTo_calm _ _ _).after ?_
    cases e with
    | ok => exact absurd rfl failed
    | memNack | memTimeout | memBus | memVerify => exact changeChannel_calm s _ _

theorem handOver_moves (j : Job) : Moves 10 11 s (s.handOver j .ok) := by
  have quiet : ∀ {t}, Calm s t → Moves 10 11 s t := fun h => (Moves.calm (k := 10) h).wide (Nat.le_refl _) (by omega)
  unfold State.handOver
  split
  · exact quiet (postTo_calm s _ _)
  · split
    · exact quiet (Calm.refl s)
    · exact loadResult_moves s _ _ _ _
  · exact quiet (Calm.refl s)

theorem handOver_failed_calm (j : Job) {e : JobEnd} (failed : e ≠ .ok) : Calm s (s.handOver j e) := by
  unfold State.handOver
  split
  · exact postTo_calm s _ _
  · split
    · exact Calm.refl s
    · exact loadResult_failed_calm s _ _ _ _ failed
  · exact Calm.refl s

/-- A job that ends latches MEMORY at most, by its outcome or by the record it read. -/
theorem endJob_moves (e : JobEnd) : Moves 10 11 s (s.endJob e) := by
  unfold State.endJob
  split
  · exact (Moves.refl 10 s).wide (Nat.le_refl _) (by omega)
  · dsimp only
    refine .trans ?_ (.calm (dropJob_calm _))
    split
    · next ok =>
      subst ok
      exact .trans (.calm (setPmc_calm s _)) (handOver_moves _ _)
    · next failed =>
      exact .trans (.trans (.latch s (.plain .memory)) (.calm (setPmc_calm _ _))) (.calm (handOver_failed_calm _ _ failed))

theorem failAttempt_moves : Moves 10 11 s s.failAttempt := by
  unfold State.failAttempt
  dsimp only
  split
  · exact endJob_moves s _
  · exact (Moves.calm (k := 10) (setBus_calm s _ _)).wide (Nat.le_refl _) (by omega)

theorem endBursts_moves : Moves 10 11 s s.endBursts := by
  unfold State.endBursts
  split <;> exact endJob_moves _ _

theorem burstEnd_moves (r : BurstEnd) : Moves 10 11 s (s.burstEnd r) := by
  have quiet : ∀ {t}, Calm s t → Moves 10 11 s t := fun h => (Moves.calm (k := 10) h).wide (Nat.le_refl _) (by omega)
  unfold State.burstEnd
  dsimp only
  split
  · split
    · exact quiet (setBus_calm s _ _)
    · exact (endBursts_moves _).after (setBus_calm s _ _)
  · exact failAttempt_moves s
  · exact quiet (Calm.refl s)

theorem pageEnd_moves (r : PageEnd) : Moves 10 11 s (s.pageEnd r) := by
  have quiet : ∀ {t}, Calm s t → Moves 10 11 s t := fun h => (Moves.calm (k := 10) h).wide (Nat.le_refl _) (by omega)
  unfold State.pageEnd
  dsimp only
  split
  · exact quiet (setBus_calm s _ _)
  · exact failAttempt_moves s
  · exact endJob_moves s _
  · exact quiet (Calm.refl s)

theorem poll_moves (acknowledged : Bool) : Moves 10 11 s (s.poll acknowledged) := by
  have quiet : ∀ {t}, Calm s t → Moves 10 11 s t := fun h => (Moves.calm (k := 10) h).wide (Nat.le_refl _) (by omega)
  unfold State.poll
  dsimp only
  split
  · repeat' split
    · exact quiet (setBus_calm s _ _)
    · exact quiet (setBus_calm s _ _)
    · exact endJob_moves s _
    · exact quiet (setBus_calm s _ _)
  · exact quiet (Calm.refl s)

/-! ## The State Controller and the watchdog (R173 to R180, R196) -/

theorem selftestFails_moves (f : FailingPart) : Moves 0 1 s (s.selftestFails f) :=
  Moves.behind (.enter (fun _ => rfl) nofun) (Moves.after (.latch _ (.plain .selftest)) (setStc_calm s rfl rfl rfl rfl))

theorem marched_slots (found : SelfTestFindings) (h : s.tme.slots.length = 24) : (s.marched found).tme.slots.length = 24 := by
  unfold State.marched
  split
  · rfl
  · exact h

theorem takeCfgCommit_moves (k : Nat) : Moves k k s s.takeCfgCommit.state := by
  have a : Calm s (s.storeCommit s.commitResult) := setStc_calm s rfl rfl rfl rfl
  unfold State.takeCfgCommit
  dsimp only
  split
  · next ok =>
    have op : s.stc.op = .config := by
      unfold State.commitResult at ok
      split at ok
      · cases ok
      · next h => simpa using h
    refine .trans (.calm a) (.enter (fun h => ?_) fun h => ?_)
    · rw [show (s.storeCommit s.commitResult).stc.op = s.stc.op from rfl, op] at h
      cases h
    · unfold Stc.commitTarget at h
      split at h
      · assumption
      · cases h
  · exact .calm a

theorem takeHoldRequest_moves (k : Nat) : Moves k k s s.takeHoldRequest.state := by
  unfold State.takeHoldRequest
  split
  · exact Moves.refl k s
  · exact .hold s nofun

theorem noHold_of_otherHold {t : Stc} (h : ¬ t.otherHold = true) :
    ({ t with holds := t.holds.set .supervisorRequest false } : Stc).noHold = true := by
  rw [noHold_iff]
  intro c
  rw [PerHold.get_set]
  split
  · rfl
  · next other => exact Bool.eq_false_iff.2 fun present => h ((otherHold_iff t).2 ⟨c, other, present⟩)

theorem takeResume_moves (k : Nat) : Moves k k s s.takeResume.state := by
  by_cases op : s.stc.op = .hold
  · by_cases other : s.stc.otherHold = true
    · rw [takeResume_held op other]; exact Moves.refl k s
    · rw [takeResume_taken op other]
      have free : (s.removeHold .supervisorRequest).stc.op = .lockout → OpState.run = .lockout := by
        rw [State.removeHold_eq]; simp [op]
      have clear : (s.removeHold .supervisorRequest).stc.noHold = true := by
        rw [State.removeHold_eq]; exact noHold_of_otherHold other
      change Moves k k s ((s.removeHold .supervisorRequest).enterState .run)
      exact .trans (.release s (h := .supervisorRequest) nofun) (Moves.enter free fun _ => clear)
  · rw [takeResume_refused op]; exact Moves.refl k s

theorem watchdogExpires_moves : Moves 4 5 s s.watchdogExpires := by
  unfold State.watchdogExpires
  split
  · exact .behind (.latch _ (.plain .supervisorSilent))
      (Moves.after (.hold _ (h := .supervisorSilent) nofun) (setWatchdog_calm s _))
  · exact (Moves.refl 4 s).wide (Nat.le_refl _) (by omega)

/-- What a valid frame brings beside its port unit (R195, R196). -/
theorem hear_moves (p : Port) (k : Nat) : Moves k k s (s.hear p) := by
  unfold State.hear
  split
  · exact .calm (setPresence_calm s _)
  · unfold State.hearSupervisor
    refine .trans ?_ (.calm (setWatchdog_calm _ _))
    split
    · exact .release s nofun
    · exact Moves.refl k s

/-! ## The slice boundary (R2) -/

theorem boundaryPlan_calm (x m c : Nat) : Calm (s.setTbu (s.tbu.endSlice x m c)) (s.boundaryPlan x m c) := by
  unfold State.boundaryPlan
  dsimp only
  split
  · exact periodBoundary_calm _
  · exact applyWithdrawals_calm _

theorem secondTick_moves (k : Nat) : Moves k k s s.secondTick := by
  have a := (mapTimers_calm s Timer.tick).trans (escalate_calm _)
  unfold State.secondTick
  dsimp only
  split
  · exact .calm a
  · exact .trans (.calm a) (beginScan_moves _ k)

/-- What a slice boundary brings once the Timebase Unit has taken it. -/
theorem sliceBoundary_moves (x m c : Nat) : Moves 11 25 (s.setTbu (s.tbu.endSlice x m c)) (s.sliceBoundary x m c) := by
  unfold State.sliceBoundary
  extract_lets t u
  have first : Moves 11 25 (s.setTbu (s.tbu.endSlice x m c)) t :=
    .trans (.trans (.calm (boundaryPlan_calm s x m c)) (boundaryDrive_moves _)) (.calm (setBuzzer_calm _))
  have ticked : Moves 11 25 (s.setTbu (s.tbu.endSlice x m c)) u := by
    simp only [u]
    split
    · exact .trans first (secondTick_moves _ 25)
    · exact first
  split
  · exact .trans ticked (qualifyCrystal_moves _ 25)
  · exact ticked

end

end Sys2Proof.Machine

/-! # The effect of every command

Every command but COLD_RESET, RESTART and FAULT_CLEAR prepares its ground, makes a chain of moves, and leaves the port units to
its last act. -/

namespace Sys2Proof.Machine

theorem Calm.moves {s t : State} (h : Calm s t) : Moves 0 35 s t := .weaken (Nat.le_refl 0) (Nat.zero_le _) (.calm h)

theorem Moves.whole {a b : Nat} {s t : State} (h : Moves a b s t) (high : b ≤ 35 := by decide) : Moves 0 35 s t :=
  .weaken (Nat.zero_le _) high h

theorem takeCfgMemory_calm (s : State) (device base : Option Nat) : Calm s (s.takeCfgMemory device base).state := by
  unfold State.takeCfgMemory
  exact checked_state (Calm.refl s) (setPmc_calm s _)

/-- The commands whose effect is a chain of moves from the state as it is. -/
def chained : Instr → Bool
  | .coldReset | .selftestEnd _ | .sliceBoundary _ _ _ | .restart _ | .faultClear _ _ | .alertAck _ _ | .byteReceived _ _
  | .frameReceived _ _ | .gapTimeout _ | .frameErr _ | .lineBreak _ | .replySent _ | .lineHighAfterBreak _ => false
  | _ => true

theorem effect_moves {i : Instr} (chain : chained i = true) (s : State) : Moves 0 35 s (s.effect i) := by
  have quiet : Moves 0 35 s s := (Calm.refl s).moves
  have choose : ∀ {c : Prop} [Decidable c] {t : State}, Moves 0 35 s t → Moves 0 35 s (if c then t else s) := fun m => by
    split
    · exact m
    · exact quiet
  cases i with
  | coldReset | selftestEnd | sliceBoundary | restart | faultClear | alertAck | byteReceived | frameReceived | gapTimeout
  | frameErr | lineBreak | replySent | lineHighAfterBreak => cases chain
  | clockRead | timebaseRead | pointRead | timerRead | timerList | seqRead | planRead | feedbackRead | senseRead
  | alertList | stateRead | faultRead | eventsRead | countersRead => exact quiet
  | selftestTimeLimit => exact choose (selftestFails_moves s _).whole
  | valveGraceOver => exact (endGraces_calm s).moves
  | driveTestComplete => exact choose (completeTest_moves s).whole
  | windowEnd => exact (evalWindow_moves s).whole
  | crystalStop => exact (crystalStops_moves s).whole
  | crystalStart => exact (setTbu_calm s (v := { s.tbu with crystalRunning := true }) rfl rfl).moves
  | mainsLost => exact (losesMains_moves s).whole
  | mainsPresent => exact (setTbu_calm s (v := { s.tbu with mainsPresent := true }) rfl rfl).moves
  | sliceMiddleSample closed opened =>
    show Moves 0 35 s (if s.stc.op = .selftest then s else s.takeSample (s.sampleOf closed opened))
    split
    · exact quiet
    · exact (takeSample_moves s _).whole
  | passComplete => exact (completePass_calm s).moves
  | timerExpiry => exact (tickExpiry_calm s).moves
  | timerStartAtTime => exact (tickStart_calm s).moves
  | timerStartAtTemp => exact (tempStart_calm s).moves
  | probeStop => exact (probeExpiry_calm s).moves
  | conversionEnd samples => exact (endConversion_moves s samples).whole
  | alertSilence => exact (silenceOldest_calm s).moves
  | presenceTimeout p => exact (presenceExpires_calm s p).moves
  | watchdogExpiry => exact (watchdogExpires_moves s).whole
  | busLinesFree => exact choose (setBus_calm s _ _).moves
  | busFreeTimeout => exact choose (endJob_moves s _).whole
  | clockStretchTimeout => exact choose (endJob_moves s _).whole
  | readBurstEnd result => exact (burstEnd_moves s result).whole
  | retryWaitExpiry => exact choose (setBus_calm s _ _).moves
  | pageWriteEnd result => exact (pageEnd_moves s result).whole
  | writePoll acknowledged => exact (poll_moves s acknowledged).whole
  | clockSet _ time => exact (takeClockSet_calm s time).moves
  | pointDemand p point demand => exact (takePointDemand_calm s p point demand).moves
  | timerCreate p fields => exact (takeTimerCreate_calm s p fields).moves
  | timerAdjust p h delta => exact (takeTimerAdjust_calm s p h delta).moves
  | timerPause p h => exact (takeUserPause_calm s p h true).moves
  | timerResume p h => exact (takeUserPause_calm s p h false).moves
  | timerCancel p h => exact (takeTimerCancel_calm s p h).moves
  | timerAdopt p h => exact (takeTimerAdopt_calm s p h).moves
  | seqLoad p channel index => exact (takeSeqLoad_calm s p channel index).moves
  | seqStore p channel steps => exact (takeSeqStore_calm s p channel steps).moves
  | seqStart p channel start => exact (takeSeqStart_calm s p channel start).moves
  | seqPause p channel => exact (takeSeqPause_calm s p channel true).moves
  | seqResume p channel => exact (takeSeqPause_calm s p channel false).moves
  | seqAbort p channel => exact (onChannel_calm s fun c => abortSequence_calm s c).moves
  | libWrite _ index kind steps => exact (takeLibWrite_calm s index kind steps).moves
  | verifySet _ mode tolerance relay valve => exact (takeVerifySet_calm s mode tolerance relay valve).moves
  | driveTest _ mask length => exact (takeDriveTest_moves s mask length 0).whole
  | driveTestAbort => exact (takeDriveTestAbort_moves s 0).whole
  | senseConfig _ mask averaging cal restore => exact (takeSenseConfig_calm s mask averaging cal restore).moves
  | cfgLoads _ entries => exact (takeCfgLoads_calm s entries).moves
  | cfgBudget _ watts => exact (takeCfgBudget_calm s watts).moves
  | cfgAssign _ entries => exact (takeCfgAssign_calm s entries).moves
  | cfgRank _ a b c d => exact (takeCfgRank_calm s a b c d).moves
  | cfgLimits _ cav grl => exact (takeCfgLimits_calm s cav grl).moves
  | cfgTimebase _ mode tolerance => exact (takeCfgTimebase_calm s mode tolerance).moves
  | cfgMemory _ device base => exact (takeCfgMemory_calm s device base).moves
  | cfgPorts _ a b watchdog => exact (takeCfgPorts_calm s a b watchdog).moves
  | cfgCommit => exact (takeCfgCommit_moves s 0).whole
  | holdRequest => exact (takeHoldRequest_moves s 0).whole
  | resume => exact (takeResume_moves s 0).whole
  | faultMask _ mask => exact (takeFaultMask_calm s mask).moves
  | eventsClear p classes => exact (takeEventsClear_calm s p classes).moves
  | eventsMask p classes => exact (takeEventsMask_calm s p classes).moves
  | countersClear p =>
    exact (onPort_calm s p (f := fun u => { u with counters := Counters.zero }) fun _ => rfl).moves

end Sys2Proof.Machine

namespace Sys2Proof.Machine

/-! ## The receivers keep to their buffer (R189) -/

theorem PortUnit.dispatch_buffer (u : PortUnit) (p : Port) (op : OpState) : (u.dispatch p op).buffer = u.buffer := by
  unfold PortUnit.dispatch
  repeat' split
  all_goals rfl

theorem PortUnit.place_buffer_le {u : PortUnit} (p : Port) (op : OpState) (f : Frame) (h : u.buffer.length ≤ 2) :
    (u.place p op f).buffer.length ≤ 2 := by
  unfold PortUnit.place
  split
  · rw [PortUnit.dispatch_buffer]; exact Nat.le_succ 1
  · exact Nat.le_refl 2
  · exact h

theorem PortUnit.sent_buffer_le {u : PortUnit} (p : Port) (op : OpState) (h : u.buffer.length ≤ 2) :
    (u.sent p op).buffer.length ≤ 2 := by
  unfold PortUnit.sent
  split
  · rw [PortUnit.dispatch_buffer]
    exact List.length_tail.trans_le ((Nat.sub_le _ _).trans h)
  · exact h

theorem PortUnit.gapped_buffer (u : PortUnit) : u.gapped.buffer = u.buffer := by
  unfold PortUnit.gapped; split <;> rfl

theorem PortUnit.misframed_buffer (u : PortUnit) : u.misframed.buffer = u.buffer := by
  unfold PortUnit.misframed; split <;> rfl

theorem PortUnit.revived_buffer (u : PortUnit) : u.revived.buffer = u.buffer := by
  unfold PortUnit.revived; split <;> rfl

theorem PortUnit.takeLength_buffer (u : PortUnit) (b : Byte) : (u.takeLength b).buffer = u.buffer := by
  unfold PortUnit.takeLength; split <;> rfl

theorem PortUnit.broken_buffer_le {u : PortUnit} (h : u.buffer.length ≤ 2) : u.broken.buffer.length ≤ 2 := by
  unfold PortUnit.broken
  split
  · exact h
  · exact Nat.zero_le _

/-! ## The shape of an effect -/

/-- What a command may bring before its chain of moves: the slice counted, the stores as a march test leaves them, an entry of the
Alert List acknowledged. Nothing that the relations between blocks speak of changes but the halt, and that in SELFTEST alone. -/
structure Prepared (s t : State) : Prop where
  stc : t.stc = s.stc
  dru : t.dru = s.dru
  ptc : t.ptc = s.ptc
  ports : t.ports = s.ports
  pending : t.pending = s.pending
  source : t.tbu.source = s.tbu.source
  halt : t.tme.halt = s.tme.halt ∨ s.stc.op = .selftest ∧ t.tme.halt = false
  slots : s.tme.slots.length = 24 → t.tme.slots.length = 24
  arrears : (∀ l, s.spl.arrears.get l ≤ 40) → ∀ l, t.spl.arrears.get l ≤ 40
  notices : t.alc.notices = s.alc.notices

theorem Prepared.refl (s : State) : Prepared s s := ⟨rfl, rfl, rfl, rfl, rfl, rfl, .inl rfl, id, id, rfl⟩

/-- From `s` to `t`: the ground prepared, a chain of moves, and the port units left to the last act. -/
structure Shape (acked request : Prop) (s t : State) : Prop where
  intro ::
  shape : ∃ base u ports, Prepared s base ∧ (¬ acked → base.alc.entries = s.alc.entries) ∧ Moves 0 35 base u ∧
    t = u.setPorts ports ∧ (∀ q, (u.ports.get q).buffer.length ≤ 2 → (ports.get q).buffer.length ≤ 2) ∧
    (request → ports = u.ports)

section
variable {acked req : Prop} {s t : State}

theorem Shape.of_moves (h : Moves 0 35 s t) : Shape acked req s t :=
  ⟨s, t, t.ports, Prepared.refl s, fun _ => rfl, h, rfl, fun _ => id, fun _ => rfl⟩

/-- A chain that ends with one port unit changed, no request's. -/
theorem Shape.of_port (event : ¬ req) (h : Moves 0 35 s t) (p : Port) {f : PortUnit → PortUnit}
    (buffer : ∀ u, u.buffer.length ≤ 2 → (f u).buffer.length ≤ 2) : Shape acked req s (t.onPort p f) := by
  refine ⟨s, t, _, Prepared.refl s, fun _ => rfl, h, rfl, fun q bound => ?_, fun k => absurd k event⟩
  rw [PerPort.get_set]
  split
  · next e => exact buffer _ (e ▸ bound)
  · exact bound

end

section
variable (s : State)

/-- A byte of a port unit. -/
theorem endFrame_shape {acked req : Prop} (event : ¬ req) (p : Port) (body : List Byte) (crc : Byte) :
    Shape acked req s (s.endFrame p body crc) := by
  unfold State.endFrame
  split
  · exact .of_port event (hear_moves s p 0).whole p fun u h => PortUnit.place_buffer_le p _ _ h
  · exact .of_port event (Calm.refl s).moves p fun u h => h

theorem takeCrc_shape {acked req : Prop} (event : ¬ req) (p : Port) (crc : Byte) : Shape acked req s (s.takeCrc p crc) := by
  unfold State.takeCrc
  split
  · exact endFrame_shape s event p _ crc
  · exact .of_moves (Calm.refl s).moves

theorem takeByte_shape {acked req : Prop} (event : ¬ req) (p : Port) (b : Byte) : Shape acked req s (s.takeByte p b) := by
  have quiet : Moves 0 35 s s := (Calm.refl s).moves
  unfold State.takeByte
  split
  · split
    · exact .of_port event quiet p fun u h => h
    · exact .of_moves quiet
  · exact .of_port event quiet p fun u h => (u.takeLength_buffer b).symm ▸ h
  · split
    · exact endFrame_shape s event p _ b
    · exact .of_port event quiet p fun u h => h
  · exact .of_moves quiet

theorem splReset_arrears (l : Load) : Spl.reset.arrears.get l ≤ 40 := by cases l <;> decide

theorem marched_prepared (op : s.stc.op = .selftest) (found : SelfTestFindings) : Prepared s (s.marched found) := by
  unfold State.marched
  split
  · exact ⟨rfl, rfl, rfl, rfl, rfl, rfl, .inr ⟨op, rfl⟩, fun _ => rfl, fun _ l => splReset_arrears l, rfl⟩
  · exact Prepared.refl s

theorem marched_entries (found : SelfTestFindings) : (s.marched found).alc.entries = s.alc.entries := by
  unfold State.marched
  split <;> rfl

theorem endSelftest_shape {acked req : Prop} (found : SelfTestFindings) :
    Shape acked req s (s.endSelftest found) := by
  unfold State.endSelftest
  split
  · next op =>
    have same : (s.marched found).stc = s.stc := (marched_prepared s op found).stc
    have chain : ∀ {t}, Moves 0 35 (s.marched found) t → Shape acked req s t := fun {t} h =>
      ⟨s.marched found, t, t.ports, marched_prepared s op found, fun _ => marched_entries s found, h, rfl, fun _ => id,
        fun _ => rfl⟩
    split
    · refine chain (Moves.whole (b := 0) (Moves.after (.enter ?_ nofun) (setStc_calm _ rfl rfl rfl rfl)))
      intro locked
      exact absurd ((congrArg Stc.op same).symm.trans locked) (by simp [op])
    · exact chain (selftestFails_moves _ _).whole
  · exact .of_moves (Calm.refl s).moves

theorem sliceBoundary_shape {acked req : Prop} (x m c : Nat) : Shape acked req s (s.sliceBoundary x m c) :=
  ⟨s.setTbu (s.tbu.endSlice x m c), _, _, ⟨rfl, rfl, rfl, rfl, rfl, rfl, .inl rfl, id, id, rfl⟩, fun _ => rfl,
    (sliceBoundary_moves s x m c).whole, rfl, fun _ => id, fun _ => rfl⟩

/-! ### ALERT_ACK (R162) -/

/-- From `s` to `t` the Alert List's entries and no more than a calm operation changes. -/
def Acked (s t : State) : Prop := ∃ es, Calm (s.setAlc { s.alc with entries := es }) t

theorem Acked.of_calm {s t : State} (h : Calm s t) : Acked s t := ⟨s.alc.entries, h⟩

theorem storeAlerts_acked (es : List Alert) (who : Port → Bool) : Acked s (s.storeAlerts es who) := ⟨es, postTo_calm _ _ _⟩

theorem ackTimer_acked (h : Handle) : Acked s (s.ackTimer h) := by
  unfold State.ackTimer
  split
  · exact .of_calm ((removeEntry_calm s h _).trans (acknowledgeSlot_calm _ _ _))
  · exact storeAlerts_acked s _ _

theorem ackSystem_acked (c : SystemCause) (present : Bool) (n : Nat) (e : Alert) : Acked s (s.ackSystem c present n e).1 := by
  unfold State.ackSystem
  split
  · split
    · exact storeAlerts_acked s _ _
    · exact .of_calm (Calm.refl s)
  · exact storeAlerts_acked s _ _

theorem ackFirst_acked (f : Alert → Bool) : Acked s (s.ackFirst f).state := by
  unfold State.ackFirst
  split
  · unfold State.ackEntry
    split
    · exact ackTimer_acked s _
    · exact ackSystem_acked s _ _ _ _
  · exact .of_calm (Calm.refl s)

theorem takeAlertAck_acked (what : AckField) : Acked s (s.takeAlertAck what).state := by
  have quiet : Acked s s := .of_calm (Calm.refl s)
  cases what with
  | timer h =>
    unfold State.takeAlertAck
    dsimp only
    split
    · exact quiet
    · exact ackFirst_acked s _
  | cause code =>
    unfold State.takeAlertAck
    dsimp only
    split
    · exact quiet
    · exact ackFirst_acked s _
  | oldest => exact ackFirst_acked s _
  | beyond => exact quiet

theorem takeAlertAck_shape {acked req : Prop} (named : acked) (what : AckField) :
    Shape acked req s (s.takeAlertAck what).state := by
  obtain ⟨es, h⟩ := takeAlertAck_acked s what
  exact ⟨s.setAlc { s.alc with entries := es }, _, _, ⟨rfl, rfl, rfl, rfl, rfl, rfl, .inl rfl, id, id, rfl⟩, fun k => absurd named k, h.moves, rfl, fun _ => id,
    fun _ => rfl⟩

/-! ### Every command -/

/-- The effect of every command but COLD_RESET, RESTART and FAULT_CLEAR. -/
theorem effect_shape {i : Instr} (cold : i ≠ .coldReset) (restart : ∀ p, i ≠ .restart p) (clear : ∀ p f, i ≠ .faultClear p f) :
    Shape (∃ p d, i = .alertAck p d) (asRequest i ≠ none) s (s.effect i) := by
  by_cases chain : chained i = true
  · exact .of_moves (effect_moves chain s)
  · have quiet : Moves 0 35 s s := (Calm.refl s).moves
    cases i with
    | coldReset => exact absurd rfl cold
    | restart p => exact absurd rfl (restart p)
    | faultClear p f => exact absurd rfl (clear p f)
    | selftestEnd found => exact endSelftest_shape s found
    | sliceBoundary x m c => exact sliceBoundary_shape s x m c
    | alertAck p what => exact takeAlertAck_shape s ⟨p, what, rfl⟩ what
    | byteReceived p b => exact takeByte_shape s (by simp [asRequest]) p b
    | frameReceived p crc => exact takeCrc_shape s (by simp [asRequest]) p crc
    | gapTimeout p => exact .of_port (by simp [asRequest]) quiet p fun u h => u.gapped_buffer.symm ▸ h
    | frameErr p => exact .of_port (by simp [asRequest]) quiet p fun u h => u.misframed_buffer.symm ▸ h
    | lineBreak p => exact .of_port (by simp [asRequest]) quiet p fun u h => PortUnit.broken_buffer_le h
    | replySent p => exact .of_port (by simp [asRequest]) quiet p fun u h => PortUnit.sent_buffer_le p _ h
    | lineHighAfterBreak p => exact .of_port (by simp [asRequest]) quiet p fun u h => u.revived_buffer.symm ▸ h
    | _ => exact absurd rfl chain

end

end Sys2Proof.Machine

/-! # The demands of the points, and a warm restart -/

namespace Sys2Proof.Machine

/-! ## Duties and points -/

theorem PerLoad.setAll_of_not_mem {l : Load} : ∀ {ds : List (Load × Nat)} (t : PerLoad Nat), l ∉ ds.map Prod.fst →
    (PerLoad.setAll t ds).get l = t.get l
  | [], _, _ => rfl
  | (k, d) :: rest, t, h => by
    obtain ⟨ne, other⟩ := not_or.1 (List.mem_cons.not.1 h)
    rw [PerLoad.setAll, PerLoad.setAll_of_not_mem _ other, PerLoad.get_set, if_neg ne]

theorem PerLoad.setAll_of_mem {l : Load} {d : Nat} : ∀ {ds : List (Load × Nat)} (t : PerLoad Nat), (ds.map Prod.fst).Nodup →
    (l, d) ∈ ds → (PerLoad.setAll t ds).get l = d
  | (k, e) :: rest, t, distinct, h => by
    obtain ⟨absent, distinct⟩ := List.nodup_cons.1 distinct
    rw [PerLoad.setAll]
    cases h with
    | head => rw [PerLoad.setAll_of_not_mem _ absent, PerLoad.get_set_self]
    | tail _ h => exact PerLoad.setAll_of_mem _ distinct h

theorem PerLoad.setAll_zero (t : PerLoad Nat) : ∀ (ls : List Load) (l : Load),
    (PerLoad.setAll t (ls.map fun k => (k, 0))).get l = if l ∈ ls then 0 else t.get l := by
  intro ls
  induction ls generalizing t with
  | nil => intro l; rfl
  | cons k ls ih =>
    intro l
    rw [List.map_cons, PerLoad.setAll, ih, PerLoad.get_set]
    by_cases e : l = k <;> by_cases m : l ∈ ls <;> simp [e, m]

theorem Point.mem_loads (l : Load) (p : Point) : l ∈ p.loads ↔ l.point = p := by cases l <;> cases p <;> decide

theorem Point.gas_eq_some (z : Gas) (p : Point) : p.gas = some z ↔ z.point = p := by cases z <;> cases p <;> decide

theorem Point.loads_of_gas {p : Point} {z : Gas} (h : p.gas = some z) : p.loads = [] := by cases p <;> first | rfl | cases h

/-! ## What an operation on demands and gates can touch -/

/-- Demands, reasons, the withdrawals and the pass they bring, and the pending sets; everything else stays. -/
structure DemandFrame (s t : State) : Prop where
  ptc : t.ptc = { s.ptc with gas := t.ptc.gas, duty := t.ptc.duty, reasons := t.ptc.reasons }
  spl : PlannerKept s t
  dru : t.dru = { s.dru with withdrawLoads := t.dru.withdrawLoads, withdrawGas := t.dru.withdrawGas }
  rest : t = { s with ptc := t.ptc, spl := t.spl, dru := t.dru, ports := t.ports }

theorem DemandFrame.refl (s : State) : DemandFrame s s := ⟨rfl, rfl, rfl, rfl⟩

theorem DemandFrame.trans {s t u : State} (h : DemandFrame s t) (k : DemandFrame t u) : DemandFrame s u := by
  obtain ⟨h1, h2, h3, h4⟩ := h
  obtain ⟨k1, k2, k3, k4⟩ := k
  refine ⟨?_, ?_, ?_, ?_⟩
  · rw [k1, h1]
  · unfold PlannerKept at *; rw [k2, h2]
  · rw [k3, h3]
  · rw [k4, h4]

/-- Two operations, the later one first. -/
theorem DemandFrame.after {s t u : State} (k : DemandFrame t u) (h : DemandFrame s t) : DemandFrame s u := h.trans k

theorem GateFrame.demand {s t : State} (h : GateFrame s t) : DemandFrame s t :=
  ⟨by rw [h.ptc], h.spl, h.dru, h.rest⟩

/-- What a pass in flight and the pending sets keep: a pass that builds goes on building, a class pending stays pending. -/
structure Onward (s t : State) : Prop where
  building : (∃ b, s.spl.pending = .building b) → ∃ b, t.spl.pending = .building b
  posts : PostsStay s t

theorem Onward.refl (s : State) : Onward s s := ⟨id, PostsStay.refl s⟩

theorem Onward.trans {s t u : State} (h : Onward s t) (k : Onward t u) : Onward s u :=
  ⟨k.building ∘ h.building, h.posts.trans k.posts⟩

/-- Two operations, the later one first. -/
theorem Onward.after {s t u : State} (k : Onward t u) (h : Onward s t) : Onward s u := h.trans k

theorem Onward.of_same {s t : State} (pending : t.spl.pending = s.spl.pending) (ports : t.ports = s.ports) : Onward s t :=
  ⟨by rw [pending]; exact id, PostsStay.of_ports ports⟩

section
variable (s : State)

theorem setDru_onward (v : Dru) : Onward s (s.setDru v) := .of_same rfl rfl
theorem setStc_onward (v : Stc) : Onward s (s.setStc v) := .of_same rfl rfl
theorem setTme_onward (v : Tme) : Onward s (s.setTme v) := .of_same rfl rfl
theorem setAlc_onward (v : Alc) : Onward s (s.setAlc v) := .of_same rfl rfl
theorem setPmc_onward (v : Pmc) : Onward s (s.setPmc v) := .of_same rfl rfl

theorem startPass_building : ∃ b, s.startPass.spl.pending = .building b := ⟨_, rfl⟩

theorem startPass_onward : Onward s s.startPass := ⟨fun _ => startPass_building s, PostsStay.refl s⟩

theorem postTo_onward (c : EventClass) (who : Port → Bool) : Onward s (s.postTo c who) :=
  ⟨id, (postTo_portsAfter s c who).postsStay⟩

theorem withdrawLoad_onward (l : Load) : Onward s (s.withdrawLoad l) :=
  ⟨fun _ => startPass_building _, PostsStay.refl s⟩

theorem withdrawLoads_onward (ls : List Load) : Onward s (s.withdrawLoads ls) :=
  foldl_keeps Onward Onward.refl Onward.trans withdrawLoad_onward ls s

theorem announceGate_onward (p : Point) (was : Bool) : Onward s (s.announceGate p was) := by
  unfold State.announceGate
  split
  · split
    · exact .of_same rfl rfl
    · exact (withdrawLoads_onward s _).trans (startPass_onward _)
  · split
    · exact startPass_onward s
    · exact Onward.refl s
  · exact Onward.refl s

theorem changeReasons_onward (p : Point) (r : PerReason Bool) : Onward s (s.changeReasons p r) := by
  unfold State.changeReasons
  split
  · exact Onward.refl s
  · exact ((announceGate_onward _ _ _).after (postTo_onward _ _ _)).after (.of_same rfl rfl)

/-! ## A point's demand set to zero (R38, R41) -/

/-- The Point Controller with a point's demand set to zero. -/
def Ptc.zeroed (t : Ptc) (p : Point) : Ptc :=
  { t with
    gas := .of fun z => if z.point = p then false else t.gas.get z
    duty := .of fun l => if l.point = p then 0 else t.duty.get l }

theorem zeroDemand_ptc (p : Point) : (s.zeroDemand p).ptc = s.ptc.zeroed p := by
  unfold State.zeroDemand Ptc.zeroed
  split
  · next z h =>
    have at_z : ∀ y : Gas, y.point = p ↔ y = z := fun y => by
      rw [← Point.gas_eq_some, h]; exact ⟨fun e => (Option.some.inj e).symm, fun e => by rw [e]⟩
    simp only [State.setPtc_ptc, Ptc.mk.injEq, and_true, true_and]
    refine ⟨PerGas.eq_of_get fun y => ?_, PerLoad.eq_of_get fun l => ?_⟩
    · simp [PerGas.get_set, at_z]
    · have : l ∉ p.loads := by rw [Point.loads_of_gas h]; exact List.not_mem_nil
      rw [Point.mem_loads] at this
      simp [this]
  · next h =>
    have no_gas : ∀ y : Gas, ¬ y.point = p := fun y e => by rw [← Point.gas_eq_some, h] at e; cases e
    rw [State.withdrawLoads_ptc]
    simp only [State.setPtc_ptc, Ptc.mk.injEq, and_true, true_and]
    refine ⟨PerGas.eq_of_get fun y => ?_, PerLoad.eq_of_get fun l => ?_⟩
    · simp [no_gas]
    · simp [PerLoad.setAll_zero, Point.mem_loads]

theorem zeroDemand_frame (p : Point) : DemandFrame s (s.zeroDemand p) := by
  unfold State.zeroDemand
  split
  · exact ⟨rfl, rfl, rfl, rfl⟩
  · exact (State.withdrawLoads_gateFrame _ _).demand.after ⟨rfl, rfl, rfl, rfl⟩

theorem zeroDemand_onward (p : Point) : Onward s (s.zeroDemand p) := by
  unfold State.zeroDemand
  split
  · exact .of_same rfl rfl
  · exact (withdrawLoads_onward _ _).after (.of_same rfl rfl)

/-! ## The points at a warm restart (R41) -/

/-- The reasons of a point after a warm restart. -/
def Ptc.warmReasons (t : Ptc) (p : Point) : PerReason Bool :=
  { delay := false, timerOff := false, halted := true, fault := t.attribution.holds p, overtemp := false }

theorem restartPoint_frame (p : Point) : DemandFrame s (s.restartPoint p) := by
  have h := (zeroDemand_frame s p).trans (State.changeReasons_gateFrame _ p (s.ptc.warmReasons p)).demand
  unfold State.restartPoint
  dsimp only
  split
  · exact h
  · exact h.trans (State.postTo_gateFrame _ _ _).demand

theorem restartPoint_onward (p : Point) : Onward s (s.restartPoint p) := by
  have h := (zeroDemand_onward s p).trans (changeReasons_onward _ p (s.ptc.warmReasons p))
  unfold State.restartPoint
  dsimp only
  split
  · exact h
  · exact h.trans (postTo_onward _ _ _)

theorem restartPoint_ptc (p : Point) :
    (s.restartPoint p).ptc = { s.ptc.zeroed p with reasons := s.ptc.reasons.set p (s.ptc.warmReasons p) } := by
  have h : ((s.zeroDemand p).changeReasons p (s.ptc.warmReasons p)).ptc =
      { s.ptc.zeroed p with reasons := s.ptc.reasons.set p (s.ptc.warmReasons p) } := by
    rw [(State.changeReasons_gateFrame _ p _).ptc, State.changeReasons_reasons, zeroDemand_ptc]
    rfl
  unfold State.restartPoint
  dsimp only
  split
  · exact h
  · exact h

/-- The Point Controller after a warm restart of some points. -/
def Ptc.warm (t : Ptc) (ps : List Point) : Ptc :=
  { t with
    gas := .of fun z => if z.point ∈ ps then false else t.gas.get z
    duty := .of fun l => if l.point ∈ ps then 0 else t.duty.get l
    reasons := .of fun p => if p ∈ ps then t.warmReasons p else t.reasons.get p }

theorem restartPoints_fold (ps : List Point) : ∀ s : State, (ps.foldl State.restartPoint s).ptc = s.ptc.warm ps := by
  induction ps with
  | nil =>
    intro s
    have gas : (PerGas.of fun z => s.ptc.gas.get z) = s.ptc.gas := PerGas.eq_of_get fun z => by simp
    have duty : (PerLoad.of fun l => s.ptc.duty.get l) = s.ptc.duty := PerLoad.eq_of_get fun l => by simp
    have reasons : (PerPoint.of fun p => s.ptc.reasons.get p) = s.ptc.reasons := PerPoint.eq_of_get fun p => by simp
    simp only [Ptc.warm, List.foldl_nil, List.not_mem_nil, if_false, gas, duty, reasons]
  | cons p ps ih =>
    intro s
    rw [List.foldl_cons, ih, restartPoint_ptc]
    simp only [Ptc.warm, Ptc.zeroed, Ptc.mk.injEq, and_true, true_and]
    refine ⟨PerGas.eq_of_get fun z => ?_, PerLoad.eq_of_get fun l => ?_, PerPoint.eq_of_get fun q => ?_⟩
    · by_cases e : z.point = p <;> simp [e]
    · by_cases e : l.point = p <;> simp [e]
    · by_cases e : q = p <;> by_cases m : q ∈ ps <;> simp [e, m, PerPoint.get_set, Ptc.warmReasons]

theorem restartPoints_ptc : s.restartPoints.ptc =
    { s.ptc with gas := .of fun _ => false, duty := .of fun _ => 0, reasons := .of s.ptc.warmReasons } := by
  rw [State.restartPoints, restartPoints_fold]
  simp [Ptc.warm, Point.mem_all]

theorem restartPoints_frame : DemandFrame s s.restartPoints :=
  foldl_keeps DemandFrame DemandFrame.refl DemandFrame.trans restartPoint_frame Point.all s

theorem restartPoints_onward : Onward s s.restartPoints :=
  foldl_keeps Onward Onward.refl Onward.trans restartPoint_onward Point.all s

/-! ## The State Controller and the Drive Unit at a warm restart (R142, R177) -/

theorem abortTest_status : s.abortTest.dru.test.status = if s.dru.test.status = .running then .aborted else s.dru.test.status := by
  unfold State.abortTest
  split <;> rfl

theorem restartControl_eq : s.restartControl =
    { s with
      stc := { s.stc with op := .config, enteredAt := s.tbu.seconds, holds := { s.stc.holds with supervisorRequest := false } }
      dru := { s.dru with
        test := { s.dru.test with status := if s.dru.test.status = .running then .aborted else s.dru.test.status }
        gms := false
        ems := false
        burnerOut := .of fun _ => false }
      ports := s.restartControl.ports } := by
  have low : emsOf .config (if s.dru.test.status = .running then .aborted else s.dru.test.status) = false := by
    split
    · rfl
    · next h => simp [emsOf, h]
  obtain ⟨ports, aborted⟩ : ∃ ports, s.abortTest =
      { s with
        dru := { s.dru with
          test := { s.dru.test with status := if s.dru.test.status = .running then .aborted else s.dru.test.status } }
        ports := ports } := ⟨_, by rw [← abortTest_status]; exact abortTest_eq s⟩
  unfold State.restartControl
  dsimp only
  rw [aborted, State.removeHold_eq]
  simp only [State.setMasters, State.setDru_dru, State.setDru_stc, State.postAll_eq, State.postTo_dru, State.postTo_stc,
    State.setStc_stc, State.setStc_dru, low]
  rfl

theorem restartControl_onward : Onward s s.restartControl := by
  have hold : ∀ u : State, Onward u (u.removeHold .supervisorRequest) := fun u => by
    unfold State.removeHold
    split
    · exact (postTo_onward _ _ _).after (.of_same rfl rfl)
    · exact Onward.refl u
  have abort : Onward s s.abortTest := ⟨by rw [abortTest_eq]; exact id, abortTest_postsStay s⟩
  unfold State.restartControl
  dsimp only
  refine (setDru_onward _ _).after ((hold _).after ((setDru_onward _ _).after ?_))
  exact (postTo_onward _ _ _).after ((setStc_onward _ _).after abort)

theorem restartControl_stateChanged (q : Port) : (s.restartControl.ports.get q).posted.get .stateChanged = true := by
  have hold : ∀ u : State, PostsStay u (u.removeHold .supervisorRequest) := fun u => by
    unfold State.removeHold
    split
    · exact (postTo_portsAfter (u.setStc _) _ _).postsStay
    · exact PostsStay.refl u
  refine hold _ q .stateChanged ?_
  simp [State.setMasters, State.postTo_posted]

/-! ## The channels at a warm restart (R75, R76, R95) -/

/-- What emptying channels can touch: the channels, a pass, the pending sets. -/
structure ChannelFrame (s t : State) : Prop where
  spl : t.spl = { s.spl with serial := t.spl.serial, pending := t.spl.pending }
  rest : t = { s with squ := t.squ, spl := t.spl, ports := t.ports }

theorem ChannelFrame.refl (s : State) : ChannelFrame s s := ⟨rfl, rfl⟩

theorem ChannelFrame.trans {s t u : State} (h : ChannelFrame s t) (k : ChannelFrame t u) : ChannelFrame s u :=
  ⟨by rw [k.spl, h.spl], by rw [k.rest, h.rest]⟩

/-- A channel emptied, before the pass it may start. -/
theorem restartChannel_cases (c : SeqChan) : ∃ t, s.restartChannel c = (if (s.squ.get c).engaged then t.startPass else t) ∧
    t.squ = s.squ.set c Channel.reset ∧ ChannelFrame s t ∧ Onward s t ∧
    ((s.squ.get c).state ≠ .empty → (s.squ.get c).state ≠ .loading →
      ∀ q, q = .supervisor ∨ q = (s.ptc.panel.get c.point).port → (t.ports.get q).posted.get .seqChanged = true) := by
  refine ⟨_, rfl, ?_⟩
  split
  · next quiet =>
    refine ⟨rfl, ⟨rfl, rfl⟩, .of_same rfl rfl, fun empty loading => absurd quiet ?_⟩
    simp [Channel.idle, empty, loading]
  · refine ⟨rfl, ⟨rfl, rfl⟩, (postTo_onward _ _ _).after (.of_same rfl rfl), fun _ _ q audience => ?_⟩
    unfold State.changeChannel
    dsimp only
    rw [State.postTo_posted]
    rcases audience with rfl | rfl <;> simp [State.seqAudience]

theorem restartChannel_squ (c : SeqChan) : (s.restartChannel c).squ = s.squ.set c Channel.reset := by
  obtain ⟨t, eq, squ, -⟩ := restartChannel_cases s c
  rw [eq]
  split <;> exact squ

theorem restartChannel_frame (c : SeqChan) : ChannelFrame s (s.restartChannel c) := by
  obtain ⟨t, eq, -, frame, -⟩ := restartChannel_cases s c
  rw [eq]
  split
  · exact frame.trans ⟨rfl, rfl⟩
  · exact frame

theorem restartChannel_onward (c : SeqChan) : Onward s (s.restartChannel c) := by
  obtain ⟨t, eq, -, -, on, -⟩ := restartChannel_cases s c
  rw [eq]
  split
  · exact on.trans (startPass_onward t)
  · exact on

theorem restartChannel_posts (c : SeqChan) (empty : (s.squ.get c).state ≠ .empty) (loading : (s.squ.get c).state ≠ .loading)
    {q : Port} (audience : q = .supervisor ∨ q = (s.ptc.panel.get c.point).port) :
    ((s.restartChannel c).ports.get q).posted.get .seqChanged = true := by
  obtain ⟨t, eq, -, -, -, posts⟩ := restartChannel_cases s c
  rw [eq]
  split <;> exact posts empty loading q audience

theorem restartChannel_building (c : SeqChan) (engaged : (s.squ.get c).engaged = true) :
    ∃ b, (s.restartChannel c).spl.pending = .building b := by
  obtain ⟨t, eq, -⟩ := restartChannel_cases s c
  rw [eq, if_pos engaged]
  exact startPass_building t

/-- All channels emptied. -/
def State.restartChannels (s : State) : State := SeqChan.all.foldl State.restartChannel s

theorem restartChannels_squ (c : SeqChan) : s.restartChannels.squ.get c = Channel.reset := by
  simp only [State.restartChannels, SeqChan.all, List.foldl_cons, List.foldl_nil, restartChannel_squ]
  cases c <;> rfl

theorem restartChannels_frame : ChannelFrame s s.restartChannels :=
  foldl_keeps ChannelFrame ChannelFrame.refl ChannelFrame.trans restartChannel_frame SeqChan.all s

theorem restartChannels_onward : Onward s s.restartChannels :=
  foldl_keeps Onward Onward.refl Onward.trans restartChannel_onward SeqChan.all s

/-- What emptying one of the channels brings, all of them emptied after it. -/
theorem restartChannels_of_one (P : State → Prop) (keeps : ∀ {u v}, Onward u v → P u → P v) (c : SeqChan)
    (one : ∀ u : State, u.squ.get c = s.squ.get c → u.ptc = s.ptc → P (u.restartChannel c)) : P s.restartChannels := by
  have later : P ((s.restartChannel .ov).restartChannel .gr) := by
    cases c with
    | ov => exact keeps (restartChannel_onward _ _) (one s rfl rfl)
    | gr =>
      refine one _ ?_ ?_
      · rw [restartChannel_squ]; rfl
      · rw [(restartChannel_frame s .ov).rest]
  exact later

theorem restartChannels_posts (c : SeqChan) (empty : (s.squ.get c).state ≠ .empty) (loading : (s.squ.get c).state ≠ .loading)
    {q : Port} (audience : q = .supervisor ∨ q = (s.ptc.panel.get c.point).port) :
    (s.restartChannels.ports.get q).posted.get .seqChanged = true := by
  refine restartChannels_of_one s (fun t => (t.ports.get q).posted.get .seqChanged = true) (fun h => h.posts q _) c ?_
  intro u squ ptc
  exact restartChannel_posts u c (squ ▸ empty) (squ ▸ loading) (ptc ▸ audience)

theorem restartChannels_building (c : SeqChan) (engaged : (s.squ.get c).engaged = true) :
    ∃ b, s.restartChannels.spl.pending = .building b :=
  restartChannels_of_one s (fun t => ∃ b, t.spl.pending = .building b) (fun h => h.building) c fun u squ _ =>
    restartChannel_building u c (squ ▸ engaged)

/-! ## The whole warm restart (R177) -/

/-- The state in which the channels are emptied. -/
def State.warmControl (s : State) : State :=
  let a := ((s.setSpl s.spl.restarted).restartControl).restartPoints
  a.setTme a.tme.restarted

theorem warmRestart_eq : s.warmRestart =
    (s.warmControl.restartChannels.setPmc s.warmControl.restartChannels.pmc.restarted).setAlc
      s.warmControl.restartChannels.alc.restarted := rfl

/-- What a warm restart makes of each block. -/
structure Warm (s t : State) : Prop where
  stc : t.stc = { s.stc with op := .config, enteredAt := s.tbu.seconds, holds := { s.stc.holds with supervisorRequest := false } }
  ptc : t.ptc = { s.ptc with gas := .of fun _ => false, duty := .of fun _ => 0, reasons := .of s.ptc.warmReasons }
  tme : t.tme = s.tme.restarted
  squ : ∀ c, t.squ.get c = Channel.reset
  pmc : t.pmc = s.pmc.restarted
  spl : t.spl = { s.spl.restarted with serial := t.spl.serial, pending := t.spl.pending, withdrawals := t.spl.withdrawals }
  dru : t.dru = { s.dru with
    test := { s.dru.test with status := if s.dru.test.status = .running then .aborted else s.dru.test.status }
    gms := false
    ems := false
    burnerOut := .of fun _ => false
    withdrawLoads := t.dru.withdrawLoads
    withdrawGas := t.dru.withdrawGas }
  alc : t.alc = s.alc.restarted
  rest : t = { s with ptc := t.ptc, tme := t.tme, squ := t.squ, pmc := t.pmc, spl := t.spl, dru := t.dru, alc := t.alc
                      stc := t.stc, ports := t.ports }

/-- The parts of a warm restart, one after another. -/
theorem Warm.of_parts {a b ch : State}
    (control : a =
      { s with
        spl := s.spl.restarted
        stc := { s.stc with op := .config, enteredAt := s.tbu.seconds, holds := { s.stc.holds with supervisorRequest := false } }
        dru := { s.dru with
          test := { s.dru.test with status := if s.dru.test.status = .running then .aborted else s.dru.test.status }
          gms := false
          ems := false
          burnerOut := .of fun _ => false }
        ports := a.ports })
    (points : DemandFrame a b)
    (ptc : b.ptc = { a.ptc with gas := .of fun _ => false, duty := .of fun _ => 0, reasons := .of a.ptc.warmReasons })
    (chan : ChannelFrame (b.setTme b.tme.restarted) ch) (squ : ∀ c, ch.squ.get c = Channel.reset) :
    Warm s ((ch.setPmc ch.pmc.restarted).setAlc ch.alc.restarted) := by
  obtain ⟨-, planner, drive, points⟩ := points
  obtain ⟨pass, chan⟩ := chan
  unfold PlannerKept at planner
  have field : ∀ {α : Type} (f : State → α), f ch = f _ := fun f => congrArg f chan
  have atPoints : ∀ {α : Type} (f : State → α), f b = f _ := fun f => congrArg f points
  have atControl : ∀ {α : Type} (f : State → α), f a = f _ := fun f => congrArg f control
  have same : b.spl = { s.spl.restarted with
      serial := b.spl.serial, pending := b.spl.pending, withdrawals := b.spl.withdrawals } := by
    refine planner.trans ?_
    rw [atControl State.spl]
  refine ⟨?_, ?_, ?_, squ, ?_, ?_, ?_, ?_, ?_⟩
  · exact (field State.stc).trans ((atPoints State.stc).trans (atControl State.stc))
  · refine (field State.ptc).trans (ptc.trans ?_)
    rw [atControl State.ptc]
  · refine (field State.tme).trans (congrArg Tme.restarted ?_)
    exact (atPoints State.tme).trans (atControl State.tme)
  · refine congrArg Pmc.restarted ((field State.pmc).trans ?_)
    exact (atPoints State.pmc).trans (atControl State.pmc)
  · change ch.spl = _
    rw [pass]
    have kept : ch.spl.withdrawals = b.spl.withdrawals := by rw [pass]; rfl
    change { b.spl with serial := ch.spl.serial, pending := ch.spl.pending } = _
    rw [same, ← kept]
    rfl
  · have loads : ch.dru.withdrawLoads = b.dru.withdrawLoads := by rw [chan]; rfl
    have gas : ch.dru.withdrawGas = b.dru.withdrawGas := by rw [chan]; rfl
    refine ((field State.dru).trans drive).trans ?_
    rw [atControl State.dru, ← loads, ← gas]
    rfl
  · refine congrArg Alc.restarted ((field State.alc).trans ?_)
    exact (atPoints State.alc).trans (atControl State.alc)
  · rw [chan, points, control]
    rfl

theorem warmRestart_warm : Warm s s.warmRestart :=
  Warm.of_parts s (restartControl_eq (s.setSpl s.spl.restarted)) (restartPoints_frame _) (restartPoints_ptc _)
    (restartChannels_frame _) (restartChannels_squ _)

end

end Sys2Proof.Machine

/-! # A command closed, and the warm restart -/

namespace Sys2Proof.Machine

/-! ## What the end of a command leaves of its effect -/

/-- The pending plan after a command that left `p` with serial number `n`, where the number was `m` before it: the snapshot of a
pass that the command started is the one given (R109). -/
def retaken (m n : BitVec 16) (p : Pending) (shot : BitVec 16 → Snapshot) : Pending :=
  match p with
  | .building b => if n = m then p else .building (shot b.serial)
  | _ => p

theorem retaken_same {m n : BitVec 16} (h : n = m) (p : Pending) (shot : BitVec 16 → Snapshot) : retaken m n p shot = p := by
  cases p with
  | building b => exact if_pos h
  | none | complete => rfl

theorem retaken_building {m n : BitVec 16} (h : n ≠ m) (b : Snapshot) (shot : BitVec 16 → Snapshot) :
    retaken m n (.building b) shot = .building (shot b.serial) := if_neg h

/-- What closing a command makes of its effect `u`, `who` being the port that was answered. -/
structure Closed (who : Option Port) (s u t : State) : Prop where
  tbu : t.tbu = u.tbu
  ptc : t.ptc = u.ptc
  tme : t.tme = u.tme
  squ : t.squ = u.squ
  pmc : t.pmc = u.pmc
  dru : t.dru = u.dru
  snu : t.snu = u.snu
  stc : t.stc = u.stc
  presence : t.presence = u.presence
  watchdog : t.watchdog = u.watchdog
  free : t.free = u.free
  pending : t.pending = u.pending
  pass : t.spl = { u.spl with pending := retaken s.spl.serial u.spl.serial u.spl.pending u.snapshot }
  alerts : t.alc = { u.alc with entries := t.alc.entries }
  lines : t.LinesFollow
  kept : ∀ q, (t.ports.get q).rx = (u.ports.get q).rx ∧ (t.ports.get q).buffer = (u.ports.get q).buffer ∧
    (t.ports.get q).counters = (u.ports.get q).counters ∧ (t.ports.get q).eventMask = (u.ports.get q).eventMask
  silent : ∀ q, who ≠ some q → (t.ports.get q).service = (u.ports.get q).service ∧
    (t.ports.get q).lastReply = (u.ports.get q).lastReply ∧ (t.ports.get q).cutOff = (u.ports.get q).cutOff
  posted : ∀ q c, c ≠ .alertChanged → (t.ports.get q).posted.get c = (u.ports.get q).posted.get c
  asleep : u.stc.op = .selftest → t.alc.entries = u.alc.entries
  followed : u.stc.op ≠ .selftest → t.alc.entries = u.alc.entries.filterMap (followedEntry s u) ++
    (SystemCause.all.filter fun c => u.causePresent c && !s.causePresent c && u.alc.entries.all fun e => !e.forCause c).map
      fun c => systemEntry c u.tbu.seconds
  quiet : (∀ c, u.causePresent c = s.causePresent c) →
    t.alc = u.alc ∧ ∀ q c, (t.ports.get q).posted.get c = (u.ports.get q).posted.get c

/-- Everything of which a snapshot reads, but the pending plan, is as it was. -/
theorem snapshot_congr {s t : State} (ptc : t.ptc = s.ptc) (squ : t.squ = s.squ) (stc : t.stc = s.stc) (loads : t.spl.loads = s.spl.loads)
    (budget : t.spl.budget = s.spl.budget) (active : t.spl.active = s.spl.active) (arrears : t.spl.arrears = s.spl.arrears) :
    t.snapshot = s.snapshot := by
  funext n
  have inputs : t.loadInput = s.loadInput := by
    funext l
    simp only [State.loadInput, State.gateOpen, State.restriction, ptc, squ, loads, active, arrears]
  simp only [State.snapshot, inputs, ptc, stc, budget]

theorem settle_pending_plan (s u : State) :
    (settle s u).spl = { u.spl with pending := retaken s.spl.serial u.spl.serial u.spl.pending u.snapshot } := by
  have frame := (State.followCauses_entryFrame s u).rest
  have spl : (s.followCauses u).spl = u.spl := by rw [frame]
  have shot : (s.followCauses u).snapshot = u.snapshot := by
    refine snapshot_congr ?_ ?_ ?_ ?_ ?_ ?_ ?_ <;> rw [frame]
  change (s.retakeSnapshot (s.followCauses u)).spl = _
  unfold State.retakeSnapshot
  rw [spl, shot]
  cases plan : u.spl.pending with
  | building b =>
    dsimp only
    by_cases same : u.spl.serial = s.spl.serial
    · rw [if_pos same, retaken_same same, spl, ← plan]
    · rw [if_neg same, retaken_building same, State.setSpl_spl]
  | none => exact spl.trans (by change u.spl = { u.spl with pending := .none }; rw [← plan])
  | complete p => exact spl.trans (by change u.spl = { u.spl with pending := .complete p }; rw [← plan])

theorem settle_quietly {s u : State} (h : ∀ c, u.causePresent c = s.causePresent c) :
    (settle s u).alc = u.alc ∧ ∀ q c, ((settle s u).ports.get q).posted.get c = (u.ports.get q).posted.get c := by
  have eq : settle s u = (s.retakeSnapshot u).setLines := by rw [settle, State.followCauses_same h]
  rw [eq, State.retakeSnapshot_frame]
  exact ⟨rfl, fun _ _ => rfl⟩

theorem settle_entries (s u : State) : (settle s u).alc.entries = (s.followCauses u).alc.entries := by
  unfold settle
  rw [State.retakeSnapshot_frame]
  rfl

theorem settle_closed (s u : State) : Closed none s u (settle s u) := by
  have frame := settle_frame s u
  refine ⟨settle_tbu s u, settle_ptc s u, settle_tme s u, settle_squ s u, settle_pmc s u, settle_dru s u, settle_snu s u,
    settle_stc s u, settle_presence s u, settle_watchdog s u, settle_free s u, settle_pending s u, settle_pending_plan s u,
    ?_, settle_lines s u, fun q => ?_, fun q _ => ?_, frame.posted, fun op => ?_, fun op => ?_, settle_quietly⟩
  · rw [frame.rest]
  · rw [frame.units q]; exact ⟨rfl, rfl, rfl, rfl⟩
  · rw [frame.units q]; exact ⟨rfl, rfl, rfl⟩
  · rw [settle_entries, State.followCauses_selftest s u op]
  · rw [settle_entries, State.followCauses_entries s u op]

theorem settle_answer_closed (s u : State) (p : Port) (i : Instr) (r : Reply) :
    Closed (some p) s u (settle s (u.answer p i r)) := by
  have after := answer_portsAfter u p i r
  obtain ⟨tbu, ptc, tme, squ, pmc, dru, snu, stc, presence, watchdog, free, pending, pass, alerts, lines, kept, silent, posted,
    asleep, followed, quiet⟩ := settle_closed s (u.answer p i r)
  have same : ∀ q c, ((u.answer p i r).ports.get q).posted.get c = (u.ports.get q).posted.get c := fun q c => by
    rw [after.posted, noPosts, Bool.or_false]
  refine ⟨tbu, ptc, tme, squ, pmc, dru, snu, stc, presence, watchdog, free, pending, pass, alerts, lines, fun q => ?_,
    fun q other => ?_, fun q c n => ?_, asleep, followed, fun h => ?_⟩
  · obtain ⟨a, b, c, d⟩ := kept q
    obtain ⟨a', b', c', d'⟩ := after.kept q
    exact ⟨a.trans a', b.trans b', c.trans c', d.trans d'⟩
  · obtain ⟨a, b, c⟩ := silent q nofun
    obtain ⟨a', b', c'⟩ := after.silent q other
    exact ⟨a.trans a', b.trans b', c.trans c'⟩
  · rw [posted q c n, same]
  · obtain ⟨alc, posts⟩ := quiet h
    exact ⟨alc, fun q c => by rw [posts, same]⟩

/-- An event, closed. -/
theorem event_closed {i : Instr} (h : asRequest i = none) (n : i ≠ .coldReset) (s : State) :
    ∃ t, exec i s = .next t ∧ Closed none s (s.effect i) t :=
  ⟨_, exec_event h n s, settle_closed s _⟩

/-- A request that R191 lets through, closed and answered. -/
theorem request_closed {s : State} {i : Instr} {code : Byte} {p : Port} {take : Taken} (passed : s.dispatch code p take = take) :
    ∃ t, request i code p s take = .next t ∧ Closed (some p) s take.state t ∧
      t.Replied p (replyCode code) take.status take.data := by
  refine ⟨_, rfl, ?_, ?_⟩
  · rw [passed]; exact settle_answer_closed s _ p i _
  · rw [passed]; exact settle_replied s _ p i _

section
variable {who : Option Port} {s u t : State} (h : Closed who s u t)
include h

theorem Closed.building (b : ∃ b, u.spl.pending = .building b) : ∃ b, t.spl.pending = .building b := by
  obtain ⟨b, e⟩ := b
  rw [h.pass, e]
  unfold retaken
  split
  · split <;> exact ⟨_, rfl⟩
  · next other => exact absurd rfl (other b)

theorem Closed.snapshot : t.snapshot = u.snapshot := by
  refine snapshot_congr h.ptc h.squ h.stc ?_ ?_ ?_ ?_ <;> rw [h.pass]

/-- Where no system cause changes, the port units have what the effect gave them. -/
theorem Closed.portsAfter (same : ∀ c, u.causePresent c = s.causePresent c) : PortsAfter who noPosts u t :=
  ⟨h.kept, h.silent, fun q c => by rw [(h.quiet same).2, noPosts, Bool.or_false]⟩

/-- Where no system cause changes and no pass starts, everything but the port units and the lines is the effect's. -/
theorem Closed.same (same : ∀ c, u.causePresent c = s.causePresent c) (serial : u.spl.serial = s.spl.serial) :
    t = { u with ports := t.ports, pins := t.pins } := by
  have spl : t.spl = u.spl := by rw [h.pass, retaken_same serial]
  obtain ⟨alc, -⟩ := h.quiet same
  rw [← h.tbu, ← h.ptc, ← h.tme, ← h.squ, ← h.pmc, ← spl, ← h.dru, ← h.snu, ← alc, ← h.stc, ← h.presence, ← h.watchdog,
    ← h.free, ← h.pending]

end

/-! ## RESTART (R177) -/

theorem warmRestart_posts (s : State) : (∀ q, (s.warmRestart.ports.get q).posted.get .stateChanged = true) ∧
    (∀ c q, (s.squ.get c).state ≠ .empty → (s.squ.get c).state ≠ .loading →
      q = .supervisor ∨ q = (s.ptc.panel.get c.point).port → (s.warmRestart.ports.get q).posted.get .seqChanged = true) ∧
    ∀ c, (s.squ.get c).engaged = true → ∃ b, s.warmRestart.spl.pending = .building b := by
  have control := restartControl_eq (s.setSpl s.spl.restarted)
  have points := restartPoints_frame (s.setSpl s.spl.restarted).restartControl
  have squ : s.warmControl.squ = s.squ := by
    simp only [State.warmControl, State.setTme_squ]
    rw [points.rest, control]
    rfl
  have panel : s.warmControl.ptc.panel = s.ptc.panel := by
    simp only [State.warmControl, State.setTme_ptc]
    rw [points.ptc, control]
    rfl
  refine ⟨fun q => ?_, fun c q empty loading audience => ?_, fun c engaged => ?_⟩
  · have points : Onward (s.setSpl s.spl.restarted).restartControl s.warmControl := by
      unfold State.warmControl
      exact (setTme_onward _ _).after (restartPoints_onward _)
    have later := points.trans (restartChannels_onward _)
    rw [warmRestart_eq, State.setAlc_ports, State.setPmc_ports]
    exact later.posts q .stateChanged (restartControl_stateChanged _ q)
  · rw [warmRestart_eq, State.setAlc_ports, State.setPmc_ports]
    exact restartChannels_posts s.warmControl c (by rw [squ]; exact empty) (by rw [squ]; exact loading)
      (by rw [panel]; exact audience)
  · rw [warmRestart_eq, State.setAlc_spl, State.setPmc_spl]
    exact restartChannels_building s.warmControl c (by rw [squ]; exact engaged)

/-- Settles O55. -/
theorem restartsAreWarm : Obligations.RestartsAreWarm := by
  intro s op
  have busy : s.stc.op ≠ .selftest := by rcases op with h | h | h <;> simp [h]
  have open_ : s.stc.op ≠ .lockout := by rcases op with h | h | h <;> simp [h]
  have taken : s.takeRestart = s.warmRestart.taken [] := if_neg open_
  obtain ⟨t, eq, closed, replied⟩ := request_closed (i := .restart .supervisor)
    (dispatch_supervisor (code := 0x4C) (take := s.takeRestart) busy)
  rw [taken] at closed replied
  obtain ⟨stateChanged, seqChanged, building⟩ := warmRestart_posts s
  have warm := warmRestart_warm s
  change Closed _ s s.warmRestart t at closed
  generalize s.warmRestart = u at closed warm stateChanged seqChanged building
  have posted : ∀ q c, c ≠ .alertChanged → (u.ports.get q).posted.get c = true → (t.ports.get q).posted.get c = true :=
    fun q c n h => by rw [closed.posted q c n]; exact h
  refine ⟨t, eq, replied, closed.stc.trans warm.stc, ?_⟩
  rw [closed.ptc, closed.tme, closed.squ, closed.pmc, closed.dru, closed.tbu, closed.snu, closed.presence, closed.watchdog,
    closed.free, warm.ptc, warm.tme, warm.pmc]
  refine ⟨fun z => ?_, fun l => ?_, fun x => ?_, rfl, rfl, rfl, rfl, warm.squ, ?_, ?_, rfl, rfl, rfl, rfl, rfl, ?_⟩
  · simp
  · simp
  · simp [Ptc.warmReasons]
  · exact fun c q empty loading audience => posted q .seqChanged nofun (seqChanged c q empty loading audience)
  · intro c engaged
    exact closed.building (building c (by simpa [Channel.engaged] using engaged))
  · have spl : t.spl.active = s.spl.restarted.active ∧ t.spl.arrears = s.spl.restarted.arrears ∧ t.spl.repeats = 0 ∧
        t.spl.loads = s.spl.loads ∧ t.spl.budget = s.spl.budget := by
      rw [closed.pass]
      dsimp only
      rw [warm.spl]
      exact ⟨rfl, rfl, rfl, rfl, rfl⟩
    obtain ⟨active, arrears, repeats, loads, budget⟩ := spl
    have alc : t.alc.notices = [] := by rw [closed.alerts]; dsimp only; rw [warm.alc]; rfl
    have entries : t.alc.entries = [] := by
      have stays : ∀ c, u.causePresent c = true → s.causePresent c = true := by
        have stc := warm.stc
        intro c
        cases c <;> simp [State.causePresent, stc]
      have empty : u.alc.entries = [] := by rw [warm.alc]; rfl
      rw [closed.followed (by rw [warm.stc]; nofun), empty]
      simpa using fun c _ => stays c
    rw [active, arrears, warm.dru]
    refine ⟨fun l => ⟨?_, ?_⟩, repeats, loads, budget, rfl, rfl, fun z => PerGas.get_of _ z, rfl, entries, alc, ?_⟩
    · simp [Spl.restarted, Plan.without, Entry.emptied, Entry.empty]
    · simp [Spl.restarted]
    · have rest := warm.rest
      exact ⟨by rw [rest], by rw [rest], by rw [rest], by rw [rest], by rw [rest], rfl, rfl, rfl,
        fun q => posted q .stateChanged nofun (stateChanged q)⟩

end Sys2Proof.Machine

/-! # What every command keeps: lockout, latched faults, the relations between blocks -/

namespace Sys2Proof.Machine

section
variable (s : State)

/-! ## What the moves leave of the State Controller and the masters -/

theorem setAttribution_frame (a : Attribution) : (s.setAttribution a).stc = s.stc ∧ (s.setAttribution a).tbu = s.tbu ∧
    (s.setAttribution a).tme = s.tme ∧ (s.setAttribution a).dru.gms = s.dru.gms ∧ (s.setAttribution a).dru.ems = s.dru.ems ∧
    (s.setAttribution a).dru.test = s.dru.test := by
  have frame := State.setAttribution_gateFrame s a
  have drive := frame.dru
  have rest := frame.rest
  exact ⟨by rw [rest]; rfl, by rw [rest]; rfl, by rw [rest]; rfl, by rw [drive]; rfl, by rw [drive]; rfl, by rw [drive]; rfl⟩

theorem addHold_stays_or_enters (h : Hold) :
    s.addHold h = s ∨ s.addHold h = s.storeHolds (s.stc.holds.set h true) ∨
      (s.stc.op = .run ∧ s.addHold h = (s.storeHolds (s.stc.holds.set h true)).enterState .hold) := by
  unfold State.addHold
  split
  · exact .inl rfl
  · dsimp only
    split
    · next run => exact .inr (.inr ⟨run.1, rfl⟩)
    · exact .inr (.inl rfl)

theorem addHold_faults (h : Hold) : (s.addHold h).stc.faults = s.stc.faults ∧ (s.addHold h).stc.firstFault = s.stc.firstFault := by
  obtain eq | eq | ⟨-, eq⟩ := addHold_stays_or_enters s h <;> rw [eq]
  · exact ⟨rfl, rfl⟩
  · exact ⟨rfl, rfl⟩
  · rw [State.enterState_stc]; exact ⟨rfl, rfl⟩

theorem removeHold_same (h : Hold) : (s.removeHold h).stc.op = s.stc.op ∧ (s.removeHold h).stc.faults = s.stc.faults ∧
    (s.removeHold h).stc.firstFault = s.stc.firstFault ∧ (s.removeHold h).dru = s.dru ∧ (s.removeHold h).ptc = s.ptc ∧
    (s.removeHold h).tme = s.tme ∧ (s.removeHold h).tbu = s.tbu := by
  rw [State.removeHold_eq]
  exact ⟨rfl, rfl, rfl, rfl, rfl, rfl, rfl⟩

theorem requestLockout_cases : s.requestLockout = s.enterState .lockout ∨
    (s.requestLockout = s ∧ (s.stc.op = .selftest ∨ s.stc.op = .lockout)) := by
  unfold State.requestLockout
  split
  · exact .inl rfl
  · exact .inl rfl
  · exact .inl rfl
  · next h => exact .inr ⟨rfl, .inl h⟩
  · next h => exact .inr ⟨rfl, .inr h⟩

theorem abortTest_rest : s.abortTest.stc = s.stc ∧ s.abortTest.ptc = s.ptc ∧ s.abortTest.tme = s.tme ∧ s.abortTest.tbu = s.tbu := by
  rw [abortTest_eq]
  exact ⟨rfl, rfl, rfl, rfl⟩

theorem enterState_masters_low : (s.enterState .lockout).dru.gms = false ∧ (s.enterState .lockout).dru.ems = false := by
  obtain ⟨gms, ems, -⟩ := enterState_dru s .lockout
  exact ⟨gms, ems⟩

end

/-! ## LOCKOUT (R178) -/

/-- From `s` to `t` a part in LOCKOUT stays there, its master lines low where they were. -/
def Locked (s t : State) : Prop :=
  s.stc.op = .lockout →
    t.stc.op = .lockout ∧ (s.dru.gms = false → s.dru.ems = false → t.dru.gms = false ∧ t.dru.ems = false)

theorem Locked.refl (s : State) : Locked s s := fun op => ⟨op, fun g e => ⟨g, e⟩⟩

theorem Locked.trans {s t u : State} (h : Locked s t) (k : Locked t u) : Locked s u := fun op => by
  obtain ⟨opt, low⟩ := h op
  obtain ⟨opu, low'⟩ := k opt
  refine ⟨opu, fun g e => ?_⟩
  obtain ⟨g', e'⟩ := low g e
  exact low' g' e'

theorem Locked.of_same {s t : State} (op : t.stc.op = s.stc.op) (gms : t.dru.gms = s.dru.gms) (ems : t.dru.ems = s.dru.ems) :
    Locked s t := fun lock => ⟨op.trans lock, fun g e => ⟨gms.trans g, ems.trans e⟩⟩

section
variable (s : State)

theorem latch_locked (i : FaultId) : Locked s (s.latch i) := .of_same (by simp) (by simp) (by simp)

theorem setAttribution_locked (a : Attribution) : Locked s (s.setAttribution a) := by
  obtain ⟨stc, -, -, gms, ems, -⟩ := setAttribution_frame s a
  exact .of_same (by rw [stc]) gms ems

theorem addHold_locked (h : Hold) : Locked s (s.addHold h) := by
  obtain eq | eq | ⟨run, -⟩ := addHold_stays_or_enters s h
  · rw [eq]; exact Locked.refl s
  · rw [eq]; exact .of_same rfl rfl rfl
  · intro lock
    rw [lock] at run
    cases run

theorem removeHold_locked (h : Hold) : Locked s (s.removeHold h) := by
  obtain ⟨op, -, -, dru, -⟩ := removeHold_same s h
  exact .of_same op (by rw [dru]) (by rw [dru])

theorem requestLockout_locked : Locked s s.requestLockout := by
  obtain eq | ⟨eq, -⟩ := requestLockout_cases s
  · intro _
    rw [eq]
    exact ⟨by rw [State.enterState_stc], fun _ _ => enterState_masters_low s⟩
  · rw [eq]; exact Locked.refl s

theorem switchSource_locked (src : Source) : Locked s (s.switchSource src) := by
  have same : Locked s ((s.setTbu (s.tbu.switched src)).postAll .timebaseChanged) := .of_same rfl rfl rfl
  unfold State.switchSource
  dsimp only
  split
  · exact (same.trans (latch_locked _ _)).trans (addHold_locked _ _)
  · exact same.trans (removeHold_locked _ _)

theorem lowerEms_locked : Locked s (s.setDru { s.dru with ems := false }) := fun op => ⟨op, fun g _ => ⟨g, rfl⟩⟩

theorem lowerGms_locked : Locked s (s.setDru { s.dru with gms := false }) := fun op => ⟨op, fun _ e => ⟨rfl, e⟩⟩

theorem latchStuck_locked (l : Load) : Locked s (s.latchStuck l) := by
  unfold State.latchStuck
  split
  · exact Locked.refl s
  · exact (((latch_locked s _).trans (setAttribution_locked _ _)).trans (lowerEms_locked _)).trans (requestLockout_locked _)

theorem latchValve_locked (z : Gas) : Locked s (s.latchValve z) := by
  unfold State.latchValve
  split
  · exact Locked.refl s
  · exact (((latch_locked s _).trans (setAttribution_locked _ _)).trans (lowerGms_locked _)).trans (requestLockout_locked _)

theorem setMasters_locked : Locked s s.setMasters := fun op => by
  refine ⟨op, fun _ _ => ?_⟩
  simp [State.setMasters, op, gmsOf, emsOf]

end

theorem Moves.locked {a b : Nat} {s t : State} (h : Moves a b s t) : Locked s t := by
  induction h with
  | calm h => exact .of_same (congrArg Control.op h.control) (congrArg Control.gms h.control) (congrArg Control.ems h.control)
  | trans _ _ h k => exact h.trans k
  | weaken _ _ _ h => exact h
  | latch s i => exact latch_locked s i
  | attribution s a => exact setAttribution_locked s a
  | hold s _ => exact addHold_locked s _
  | release s _ => exact removeHold_locked s _
  | toRc s => exact switchSource_locked s _
  | fromRc s _ => exact switchSource_locked s _
  | enter free _ =>
    intro lock
    rw [free lock]
    exact ⟨by rw [State.enterState_stc], fun _ _ => enterState_masters_low _⟩
  | stuck s l => exact latchStuck_locked s l
  | valve s z => exact latchValve_locked s z
  | testBegins op _ _ =>
    intro lock
    rw [op] at lock
    cases lock
  | testAborts s =>
    have quiet : Locked s s.abortTest := by
      have dru := abortTest_eq s
      exact .of_same (by rw [(abortTest_rest s).1]) (by rw [dru]) (by rw [dru])
    exact quiet.trans (setMasters_locked _)
  | testEnds s outcome =>
    have recorded : Locked s (s.setDru { s.dru with test := { s.dru.test with status := .complete, outcome := outcome } }) :=
      .of_same rfl rfl rfl
    exact recorded.trans (setMasters_locked _)

theorem Prepared.locked {s t : State} (h : Prepared s t) : Locked s t :=
  .of_same (by rw [h.stc]) (by rw [h.dru]) (by rw [h.dru])

section
variable (s : State)

theorem clearFaults_locked (named : FaultFlag → Bool) : Locked s (s.clearFaults named) := by
  unfold State.clearFaults
  dsimp only
  refine Locked.trans ?_ (setAttribution_locked _ _)
  split <;> exact .of_same rfl rfl rfl

theorem takeFaultClear_locked (f : FlagsField) : Locked s (s.takeFaultClear f).state := by
  unfold State.takeFaultClear
  repeat' split
  all_goals first
    | exact clearFaults_locked s _
    | exact Locked.refl s

theorem takeRestart_locked : Locked s s.takeRestart.state := by
  intro lock
  unfold State.takeRestart
  rw [if_pos lock]
  exact Locked.refl s lock

theorem effect_locked (i : Instr) : Locked s (s.effect i) := by
  by_cases special : i = .coldReset ∨ (∃ p, i = .restart p) ∨ ∃ p f, i = .faultClear p f
  · obtain rfl | ⟨p, rfl⟩ | ⟨p, f, rfl⟩ := special
    · exact Locked.refl s
    · exact takeRestart_locked s
    · exact takeFaultClear_locked s f
  · obtain ⟨cold, restart, clear⟩ : i ≠ .coldReset ∧ (∀ p, i ≠ .restart p) ∧ ∀ p f, i ≠ .faultClear p f := by
      simpa only [not_or, not_exists] using special
    obtain ⟨base, u, ports, prepared, -, moves, eq, -⟩ := (effect_shape s cold restart clear).shape
    rw [eq]
    exact (prepared.locked.trans moves.locked).trans (.of_same rfl rfl rfl)

end

/-- Settles O7. -/
theorem lockoutStays : Obligations.LockoutStays := by
  intro i s t cold lock ran
  refine exec_keeps Locked Locked.refl Locked.trans (fun _ _ _ _ => .of_same rfl rfl rfl) (fun o n => ?_) cold
    (effect_locked s i) ran lock
  exact .of_same (by rw [settle_stc]) (by rw [settle_dru]) (by rw [settle_dru])

end Sys2Proof.Machine

namespace Sys2Proof.Machine

/-! ## Faults latch in the order of R181 (R181, R182) -/

theorem FaultId.mem_all (i : FaultId) : i ∈ FaultId.all := by
  cases i with
  | plain f => cases f <;> decide
  | drive l => cases l <;> decide
  | stuckOn l => cases l <;> decide
  | valve z => cases z <;> decide
  | valveUnexpected z => cases z <;> decide

theorem FaultId.all_nodup : FaultId.all.Nodup := by decide

theorem FaultId.eq_of_rank {i j : FaultId} (h : i.rank = j.rank) : i = j :=
  (List.idxOf_inj (FaultId.mem_all i)).1 h

/-- The first flag or member of a record in the order of R181. -/
theorem FaultId.find_first {p : FaultId → Bool} {g : FaultId} (latched : p g = true)
    (least : ∀ f, p f = true → g.rank ≤ f.rank) : FaultId.all.find? p = some g := by
  have at_g : FaultId.all.idxOf g < FaultId.all.length := List.idxOf_lt_length_iff.2 (FaultId.mem_all g)
  refine List.find?_eq_some_iff_getElem.2 ⟨latched, _, at_g, List.getElem_idxOf at_g, fun j before => ?_⟩
  rw [Bool.not_eq_true', Bool.eq_false_iff]
  intro earlier
  have rank : FaultId.rank FaultId.all[j] = j := List.Nodup.idxOf_getElem FaultId.all_nodup _ _
  have := least _ earlier
  rw [rank] at this
  exact absurd before (Nat.not_lt.2 this)

theorem flagged_iff (t : Faults) (f : FaultFlag) : t.flagged f = true ↔ ∃ i : FaultId, i.flag = f ∧ t.get i = true := by
  constructor
  · intro h
    cases f with
    | drive => obtain ⟨l, -, k⟩ := List.any_eq_true.1 h; exact ⟨.drive l, rfl, k⟩
    | stuckOn => obtain ⟨l, -, k⟩ := List.any_eq_true.1 h; exact ⟨.stuckOn l, rfl, k⟩
    | valve => obtain ⟨z, -, k⟩ := List.any_eq_true.1 h; exact ⟨.valve z, rfl, k⟩
    | valveUnexpected => obtain ⟨z, -, k⟩ := List.any_eq_true.1 h; exact ⟨.valveUnexpected z, rfl, k⟩
    | selftest => exact ⟨.plain .selftest, rfl, h⟩
    | xtal => exact ⟨.plain .xtal, rfl, h⟩
    | timebaseLost => exact ⟨.plain .timebaseLost, rfl, h⟩
    | timebaseSuspect => exact ⟨.plain .timebaseSuspect, rfl, h⟩
    | supervisorSilent => exact ⟨.plain .supervisorSilent, rfl, h⟩
    | boardOvertemp => exact ⟨.plain .boardOvertemp, rfl, h⟩
    | cavOvertemp => exact ⟨.plain .cavOvertemp, rfl, h⟩
    | grlOvertemp => exact ⟨.plain .grlOvertemp, rfl, h⟩
    | sensor => exact ⟨.plain .sensor, rfl, h⟩
    | probe => exact ⟨.plain .probe, rfl, h⟩
    | memory => exact ⟨.plain .memory, rfl, h⟩
  · rintro ⟨i, rfl, h⟩
    cases i with
    | plain f => cases f <;> exact h
    | drive l => exact List.any_eq_true.2 ⟨l, Load.mem_all l, h⟩
    | stuckOn l => exact List.any_eq_true.2 ⟨l, Load.mem_all l, h⟩
    | valve z => exact List.any_eq_true.2 ⟨z, Gas.mem_all z, h⟩
    | valveUnexpected z => exact List.any_eq_true.2 ⟨z, Gas.mem_all z, h⟩

theorem anyFault_iff (t : Faults) : t.any = true ↔ ∃ i, t.get i = true := by
  constructor
  · intro h
    obtain ⟨f, -, k⟩ := List.any_eq_true.1 h
    obtain ⟨i, -, m⟩ := (flagged_iff t f).1 k
    exact ⟨i, m⟩
  · rintro ⟨i, h⟩
    exact List.any_eq_true.2 ⟨i.flag, FaultFlag.mem_all _, (flagged_iff t _).2 ⟨i, rfl, h⟩⟩

theorem anyFault_eq_false_iff (t : Faults) : t.any = false ↔ ∀ i, t.get i = false := by
  simp only [Bool.eq_false_iff, ne_eq, anyFault_iff, not_exists]

/-- From `s` to `t` faults latch with places from `a` on and before `b`: none leaves, first-fault stays where one was latched, and
the first that latches into a clear record is first-fault. -/
structure Latches (a b : Nat) (s t : State) : Prop where
  stays : ∀ f, s.stc.faults.get f = true → t.stc.faults.get f = true ∧ t.stc.firstFault = s.stc.firstFault
  within : ∀ f, t.stc.faults.get f = true → s.stc.faults.get f = true ∨ a ≤ f.rank ∧ f.rank < b
  first : (∀ f, s.stc.faults.get f = false) → (∀ f, t.stc.faults.get f = false) ∨
    ∃ g, t.stc.faults.get g = true ∧ (∀ f, t.stc.faults.get f = true → g.rank ≤ f.rank) ∧
      t.stc.firstFault = some (g, t.tbu.seconds)

section
variable {a b c : Nat} {s t u : State}

theorem Latches.of_same (faults : t.stc.faults = s.stc.faults) (first : t.stc.firstFault = s.stc.firstFault) : Latches a b s t :=
  ⟨fun _ h => ⟨by rw [faults]; exact h, first⟩, fun _ h => .inl (by rw [← faults]; exact h), fun clear => .inl fun f => by
    rw [faults]; exact clear f⟩

theorem Latches.weaken {a' b' : Nat} (low : a' ≤ a) (high : b ≤ b') (h : Latches a b s t) : Latches a' b' s t := by
  obtain ⟨stays, within, first⟩ := h
  refine ⟨stays, fun f latched => ?_, first⟩
  obtain old | ⟨above, below⟩ := within f latched
  · exact .inl old
  · exact .inr ⟨low.trans above, below.trans_le high⟩

theorem Latches.trans (ordered : a ≤ b) (ordered' : b ≤ c) (seconds : u.tbu.seconds = t.tbu.seconds) (h : Latches a b s t)
    (k : Latches b c t u) : Latches a c s u := by
  refine ⟨fun f latched => ?_, fun f latched => ?_, fun clear => ?_⟩
  · obtain ⟨now, same⟩ := h.stays f latched
    obtain ⟨later, same'⟩ := k.stays f now
    exact ⟨later, same'.trans same⟩
  · obtain before | ⟨above, below⟩ := k.within f latched
    · obtain old | ⟨above, below⟩ := h.within f before
      · exact .inl old
      · exact .inr ⟨above, below.trans_le ordered'⟩
    · exact .inr ⟨ordered.trans above, below⟩
  · obtain none_yet | ⟨g, latched, least, first⟩ := h.first clear
    · exact k.first none_yet
    · obtain ⟨later, same⟩ := k.stays g latched
      refine .inr ⟨g, later, fun f now => ?_, by rw [same, first, seconds]⟩
      obtain before | ⟨above, -⟩ := k.within f now
      · exact least f before
      · obtain old | ⟨-, below⟩ := h.within g latched
        · rw [clear g] at old; cases old
        · exact (below.le).trans above

end

section
variable (s : State)

theorem latch_latches (i : FaultId) : Latches i.rank (i.rank + 1) s (s.latch i) := by
  by_cases already : s.stc.faults.get i = true
  · have eq : s.latch i = s := if_pos already
    rw [eq]; exact .of_same rfl rfl
  · have first : (s.latch i).stc.firstFault = if s.stc.faults.any then s.stc.firstFault else some (i, s.tbu.seconds) := by
      unfold State.latch
      rw [if_neg already]
      rfl
    refine ⟨fun f latched => ⟨?_, ?_⟩, fun f now => ?_, fun clear => .inr ⟨i, ?_, fun f now => ?_, ?_⟩⟩
    · rw [State.latch_get, latched]; rfl
    · rw [first, if_pos ((anyFault_iff _).2 ⟨f, latched⟩)]
    · rw [State.latch_get, Bool.or_eq_true, decide_eq_true_iff] at now
      obtain old | rfl := now
      · exact .inl old
      · exact .inr ⟨Nat.le_refl _, Nat.lt_succ_self _⟩
    · rw [State.latch_get]; simp
    · rw [State.latch_get, clear f, Bool.false_or, decide_eq_true_iff] at now
      rw [now]
    · rw [first, if_neg (by simpa [anyFault_iff] using clear), State.latch_tbu]

/-- A latch with the gates, the masters and the operating state that follow it. -/
theorem Latches.followed {i : FaultId} {t : State} (faults : t.stc.faults = (s.latch i).stc.faults)
    (first : t.stc.firstFault = (s.latch i).stc.firstFault) (seconds : t.tbu.seconds = s.tbu.seconds) :
    Latches i.rank (i.rank + 1) s t :=
  Latches.trans (Nat.le_succ _) (Nat.le_refl _) (by rw [seconds, State.latch_tbu]) (latch_latches s i) (.of_same faults first)

theorem requestLockout_faults : s.requestLockout.stc.faults = s.stc.faults ∧ s.requestLockout.stc.firstFault = s.stc.firstFault := by
  obtain eq | ⟨eq, -⟩ := requestLockout_cases s <;> rw [eq]
  · rw [State.enterState_stc]; exact ⟨rfl, rfl⟩
  · exact ⟨rfl, rfl⟩

theorem latchStuck_latches (l : Load) : Latches (FaultId.stuckOn l).rank ((FaultId.stuckOn l).rank + 1) s (s.latchStuck l) := by
  have seconds := (latchStuck_apart s l).seconds
  unfold State.latchStuck at seconds ⊢
  split
  · exact .of_same rfl rfl
  · next new =>
    rw [if_neg new] at seconds
    obtain ⟨faults, first⟩ := requestLockout_faults _
    refine .followed s (faults.trans ?_) (first.trans ?_) seconds <;> rw [State.setDru_stc, (setAttribution_frame _ _).1]

theorem latchValve_latches (z : Gas) : Latches (FaultId.valve z).rank ((FaultId.valve z).rank + 1) s (s.latchValve z) := by
  have seconds := (latchValve_apart s z).seconds
  unfold State.latchValve at seconds ⊢
  split
  · exact .of_same rfl rfl
  · next new =>
    rw [if_neg new] at seconds
    obtain ⟨faults, first⟩ := requestLockout_faults _
    refine .followed s (faults.trans ?_) (first.trans ?_) seconds <;> rw [State.setDru_stc, (setAttribution_frame _ _).1]

theorem switchSource_rc_latches : Latches 2 3 s (s.switchSource .rc) := by
  obtain ⟨faults, first⟩ := addHold_faults
    (((s.setTbu (s.tbu.switched .rc)).postAll .timebaseChanged).latch (.plain .timebaseLost)) .timebase
  have lost := latch_latches ((s.setTbu (s.tbu.switched .rc)).postAll .timebaseChanged) (.plain .timebaseLost)
  have moved : Latches 2 2 s ((s.setTbu (s.tbu.switched .rc)).postAll .timebaseChanged) := .of_same rfl rfl
  have seconds := (switchSource_apart s .rc).seconds
  refine Latches.trans (b := 2) (by decide) (by decide) ?_ moved
    (Latches.trans (b := 3) (by decide) (by decide) ?_ lost (.of_same faults first))
  · exact seconds
  · exact seconds.trans (by rw [State.latch_tbu]; rfl)

theorem switchSource_other {src : Source} (other : src ≠ .rc) :
    (s.switchSource src).stc = { s.stc with holds := s.stc.holds.set .timebase false } ∧
      (s.switchSource src).tbu = s.tbu.switched src ∧ (s.switchSource src).dru = s.dru ∧ (s.switchSource src).ptc = s.ptc ∧
      (s.switchSource src).tme = s.tme := by
  unfold State.switchSource
  rw [if_neg other, State.removeHold_eq]
  exact ⟨rfl, rfl, rfl, rfl, rfl⟩

end

theorem Moves.latches {a b : Nat} {s t : State} (h : Moves a b s t) : Latches a b s t := by
  induction h with
  | calm h => exact .of_same (congrArg Control.faults h.control) (congrArg Control.first h.control)
  | trans h k ih ik => exact Latches.trans h.ordered k.ordered k.apart.seconds ih ik
  | weaken low high _ h => exact h.weaken low high
  | latch s i => exact latch_latches s i
  | attribution s a =>
    have stc := (setAttribution_frame s a).1
    exact .of_same (by rw [stc]) (by rw [stc])
  | hold s _ => exact .of_same (addHold_faults s _).1 (addHold_faults s _).2
  | release s _ => exact .of_same (removeHold_same s _).2.1 (removeHold_same s _).2.2.1
  | toRc s => exact switchSource_rc_latches s
  | fromRc s other =>
    have stc := (switchSource_other s other).1
    exact .of_same (by rw [stc]) (by rw [stc])
  | enter _ _ => exact .of_same (by rw [State.enterState_stc]) (by rw [State.enterState_stc])
  | stuck s l => exact latchStuck_latches s l
  | valve s z => exact latchValve_latches s z
  | testBegins _ _ _ => exact .of_same rfl rfl
  | testAborts s =>
    have stc : s.abortTest.setMasters.stc = s.stc := (abortTest_rest s).1
    exact .of_same (by rw [stc]) (by rw [stc])
  | testEnds s _ => exact .of_same rfl rfl

theorem takeRestart_faults (s : State) : s.takeRestart.state.stc.faults = s.stc.faults ∧
    s.takeRestart.state.stc.firstFault = s.stc.firstFault := by
  unfold State.takeRestart
  split
  · exact ⟨rfl, rfl⟩
  · change s.warmRestart.stc.faults = _ ∧ s.warmRestart.stc.firstFault = _
    rw [(warmRestart_warm s).stc]
    exact ⟨rfl, rfl⟩

theorem effect_latches (s : State) {i : Instr} (cold : i ≠ .coldReset) (clear : ∀ p f, i ≠ .faultClear p f) :
    Latches 0 35 s (s.effect i) := by
  by_cases restart : ∃ p, i = .restart p
  · obtain ⟨p, rfl⟩ := restart
    exact .of_same (takeRestart_faults s).1 (takeRestart_faults s).2
  · obtain ⟨base, u, ports, prepared, -, moves, eq, -⟩ := (effect_shape s cold (by simpa using restart) clear).shape
    rw [eq]
    have before : Latches 0 0 s base := .of_same (by rw [prepared.stc]) (by rw [prepared.stc])
    have chain : Latches 0 35 base u := moves.latches
    exact Latches.trans (b := 0) (Nat.le_refl 0) (Nat.zero_le _) moves.apart.seconds before
      (Latches.trans (b := 35) (t := u) (Nat.zero_le _) (Nat.le_refl _) rfl chain (.of_same rfl rfl))

/-- Settles O8. -/
theorem faultsStayLatched : Obligations.FaultsStayLatched := by
  intro i s t cold clear ran
  have latches : Latches 0 35 s t := by
    have effect := effect_latches s cold clear
    obtain ⟨u, rfl, ⟨-, rfl⟩ | ⟨p, r, v, rfl, eq⟩⟩ := exec_cases cold ran
    · exact Latches.trans (b := 35) (Nat.zero_le _) (Nat.le_refl _) (by rw [settle_tbu]) effect
        (.of_same (by rw [settle_stc]) (by rw [settle_stc]))
    · have kept : Latches 0 35 s v := by
        obtain rfl | rfl := eq
        · exact .of_same rfl rfl
        · exact effect
      refine Latches.trans (b := 35) (Nat.zero_le _) (Nat.le_refl _) ?_ kept ?_
      · rw [settle_tbu]; rfl
      · exact .of_same (by rw [settle_stc]; rfl) (by rw [settle_stc]; rfl)
  refine ⟨latches.stays, fun none_before f now => ?_⟩
  obtain none_now | ⟨g, latched, least, first⟩ := latches.first none_before
  · rw [none_now f] at now; cases now
  · rw [FaultId.find_first latched least, first]
    rfl

end Sys2Proof.Machine

namespace Sys2Proof.Machine

/-! ## Sizes (R42, R103, R166, R189) -/

theorem takeFaultClear_apart (s : State) (f : FlagsField) : Apart s (s.takeFaultClear f).state := by
  have clear : ∀ named, Apart s (s.clearFaults named) := fun named => by
    have faults := setStc_apart s { s.stc with faults := s.clearedFaults named
                                               firstFault := if (s.clearedFaults named).any then s.stc.firstFault else none }
    unfold State.clearFaults
    dsimp only
    refine Apart.trans ?_ (setAttribution_apart _ _)
    split
    · exact faults
    · exact faults.trans (postAll_calm _ _).toApart
  unfold State.takeFaultClear
  repeat' split
  all_goals first
    | exact clear _
    | exact Apart.refl s

theorem restartControl_apart (s : State) : Apart s s.restartControl := by
  have control := (setStc_apart s.abortTest { s.abortTest.stc with op := .config, enteredAt := s.tbu.seconds }).trans
    (postAll_calm _ .stateChanged).toApart
  unfold State.restartControl
  dsimp only
  exact ((((abortTest_apart s).trans control).trans (setMasters_apart _)).trans (removeHold_apart _ _)).trans (setDru_apart _ _)

theorem restartPoint_apart (s : State) (p : Point) : Apart s (s.restartPoint p) := by
  have zero := (zeroDemand_calm s p).toApart.trans (changeReasons_apart _ p (s.ptc.warmReasons p))
  unfold State.restartPoint
  dsimp only
  split
  · exact zero
  · exact zero.trans (postTo_calm _ _ _).toApart

theorem restartChannel_apart (s : State) (c : SeqChan) : Apart s (s.restartChannel c) := by
  have emptied : Calm s (if (s.squ.get c).idle || (s.squ.get c).state = .loading then s.setSqu (s.squ.set c Channel.emptied)
      else s.changeChannel c Channel.emptied) := by
    split
    · exact setSqu_calm s _
    · exact changeChannel_calm s _ _
  unfold State.restartChannel
  dsimp only
  split
  · exact (emptied.trans (startPass_calm _)).toApart
  · exact emptied.toApart

/-- A warm restart brings nothing out of place but the Alert List. -/
theorem warmRestart_apart (s : State) : ∃ u, Apart s u ∧ s.warmRestart = u.setAlc u.alc.restarted := by
  have spl : Calm s (s.setSpl s.spl.restarted) := setSpl_calm s fun _ l => by simp [Spl.restarted]
  have points : Apart (s.setSpl s.spl.restarted).restartControl (s.setSpl s.spl.restarted).restartControl.restartPoints :=
    foldl_keeps Apart Apart.refl Apart.trans restartPoint_apart Point.all _
  have slots : Apart s s.warmControl := by
    unfold State.warmControl
    dsimp only
    exact ((spl.toApart.trans (restartControl_apart _)).trans points).trans (setTme_apart _ (by simp [Tme.restarted]))
  have channels : Apart s.warmControl s.warmControl.restartChannels :=
    foldl_keeps Apart Apart.refl Apart.trans restartChannel_apart SeqChan.all _
  refine ⟨s.warmControl.restartChannels.setPmc s.warmControl.restartChannels.pmc.restarted,
    (slots.trans channels).trans (setPmc_calm _ _).toApart, ?_⟩
  rw [warmRestart_eq, State.setPmc_alc]

/-- What every command keeps of the queue and the sizes, and what every request keeps of the port units. -/
structure Kept (request : Prop) (s t : State) : Prop where
  pending : t.pending = s.pending
  bounded : s.Bounded → t.Bounded
  traffic : request → ∀ p, (t.ports.get p).traffic = (s.ports.get p).traffic

theorem PortUnit.buffer_of_traffic {u v : PortUnit} (h : u.traffic = v.traffic) : u.buffer = v.buffer :=
  congrArg (fun x => x.2.1) h

theorem Apart.kept {req : Prop} {s t : State} (h : Apart s t) : Kept req s t := by
  refine ⟨h.pending, fun ⟨slots, arrears, buffers, notices⟩ => ?_, fun _ => h.traffic⟩
  refine ⟨h.slots.trans slots, h.arrears arrears, fun p => ?_, h.notices notices⟩
  rw [PortUnit.buffer_of_traffic (h.traffic p)]
  exact buffers p

theorem takeRestart_kept {req : Prop} (s : State) : Kept req s s.takeRestart.state := by
  unfold State.takeRestart
  split
  · exact (Apart.refl s).kept
  · obtain ⟨u, apart, eq⟩ := warmRestart_apart s
    change Kept req s s.warmRestart
    obtain ⟨pending, bounded, traffic⟩ := apart.kept (req := req)
    rw [eq]
    refine ⟨pending, fun b => ?_, traffic⟩
    obtain ⟨slots, arrears, buffers, -⟩ := bounded b
    exact ⟨slots, arrears, buffers, Nat.zero_le _⟩

theorem effect_kept (s : State) {i : Instr} (cold : i ≠ .coldReset) : Kept (asRequest i ≠ none) s (s.effect i) := by
  by_cases special : (∃ p, i = .restart p) ∨ ∃ p f, i = .faultClear p f
  · obtain ⟨p, rfl⟩ | ⟨p, f, rfl⟩ := special
    · exact takeRestart_kept s
    · exact (takeFaultClear_apart s f).kept
  · obtain ⟨restart, clear⟩ : (∀ p, i ≠ .restart p) ∧ ∀ p f, i ≠ .faultClear p f := by
      simpa only [not_or, not_exists] using special
    obtain ⟨base, u, ports, prepared, -, moves, eq, buffers, traffic⟩ := (effect_shape s cold restart clear).shape
    obtain ⟨-, -, -, baseports, pending, -, -, slots, arrears, notices⟩ := prepared
    obtain ⟨uPending, uBounded, uTraffic⟩ := moves.apart.kept (req := asRequest i ≠ none)
    rw [eq]
    refine ⟨uPending.trans pending, fun b => ?_, fun req p => ?_⟩
    · have base : base.Bounded := ⟨slots b.slots, arrears b.arrears, by rw [baseports]; exact b.buffers, by
        rw [notices]; exact b.notices⟩
      have bu := uBounded base
      exact ⟨bu.slots, bu.arrears, fun p => buffers p (bu.buffers p), bu.notices⟩
    · rw [State.setPorts_ports, traffic req, uTraffic req p, baseports]

theorem settle_kept (o n : State) : Kept True n (settle o n) := by
  have closed := settle_closed o n
  refine ⟨closed.pending, fun ⟨slots, arrears, buffers, notices⟩ => ⟨?_, ?_, fun p => ?_, ?_⟩, fun _ p => ?_⟩
  · rw [closed.tme]; exact slots
  · rw [closed.pass]; exact arrears
  · rw [(closed.kept p).2.1]; exact buffers p
  · rw [closed.alerts]; exact notices
  · obtain ⟨rx, buffer, -⟩ := closed.kept p
    obtain ⟨service, reply, cut⟩ := closed.silent p nofun
    simp only [PortUnit.traffic, rx, buffer, service, reply, cut]

theorem answer_bounded {s : State} (h : s.Bounded) (p : Port) (i : Instr) (r : Reply) : (s.answer p i r).Bounded := by
  obtain ⟨slots, arrears, buffers, notices⟩ := h
  refine ⟨slots, arrears, fun q => ?_, notices⟩
  rw [((answer_portsAfter s p i r).kept q).2.1]
  exact buffers q

theorem exec_bounded {i : Instr} {s t : State} (ran : exec i s = .next t) (h : s.Bounded) : t.Bounded := by
  by_cases cold : i = .coldReset
  · subst cold
    cases ran
    obtain ⟨-, slots, arrears, buffers, notices⟩ := resetIsSound
    exact ⟨slots, arrears, buffers, notices⟩
  · exact exec_keeps (fun s t => s.Bounded → t.Bounded) (fun _ => id) (fun h k b => k (h b))
      (fun _ p i r b => answer_bounded b p i r) (fun o n => (settle_kept o n).bounded) cold (effect_kept s cold).bounded ran h

theorem idle_same (s : State) : s.idle.tme = s.tme ∧ s.idle.spl = s.spl ∧ s.idle.ports = s.ports ∧ s.idle.alc = s.alc ∧
    s.idle.control = s.control ∧ s.idle.pins = s.pins ∧ s.idle.stc.faultMask = s.stc.faultMask := by
  unfold State.idle State.idleSelftest
  repeat' split
  all_goals exact ⟨rfl, rfl, rfl, rfl, rfl, rfl, rfl⟩

/-- Settles O6. -/
theorem stepKeepsBounded : Obligations.StepKeepsBounded := by
  intro s t bounded ran
  unfold step at ran
  split at ran
  · cases ran
    obtain ⟨tme, spl, ports, alc, -⟩ := idle_same s
    obtain ⟨slots, arrears, buffers, notices⟩ := bounded
    exact ⟨by rw [tme]; exact slots, by rw [spl]; exact arrears, by rw [ports]; exact buffers, by rw [alc]; exact notices⟩
  · obtain ⟨slots, arrears, buffers, notices⟩ := bounded
    exact exec_bounded ran ⟨slots, arrears, buffers, notices⟩

/-! ## Replies (R189, R190, R193) -/

/-- Settles O11. -/
theorem repliesGoOutToTheFrameInService : Obligations.RepliesGoOutToTheFrameInService := by
  intro i p code only s t req ran
  have cold : i ≠ .coldReset := by rintro rfl; cases req
  obtain ⟨c, take, eq, state, rfl, -⟩ := exec_request req s
  rw [eq] at ran
  cases ran
  have traffic : ((s.dispatch c p take).state.ports.get p).traffic = (s.ports.get p).traffic := by
    rw [dispatch_eq]
    split
    · rfl
    · split
      · rfl
      · rw [state]; exact (effect_kept s cold).traffic (by rw [req]; nofun) p
  obtain ⟨-, -, service, -, cut⟩ : _ ∧ _ ∧ _ ∧ _ ∧ _ := by simpa [PortUnit.traffic] using traffic
  obtain ⟨reply, service', cut'⟩ := settle_answer_unit s (s.dispatch c p take).state p i ((s.dispatch c p take).reply c)
  refine ⟨_, reply, rfl, fun kept => ?_, fun cutOff => ?_⟩
  · rw [service', cut', answer_of_not_cutOff (by rw [cut]; exact kept), service, cut]
    exact ⟨rfl, rfl⟩
  · have named : ((s.dispatch c p take).state.ports.get p).cutOff.contains i = true := by
      rw [cut]; exact List.contains_iff_mem.2 cutOff
    rw [service', cut', PortUnit.answer, if_pos named, service, cut]
    exact ⟨rfl, rfl⟩

end Sys2Proof.Machine

/-! # The relations between blocks (R15, R30, R31, R69, R71, R124, R135, R138, R173, R181) -/

namespace Sys2Proof.Machine

/-- The relations between blocks without those of the lines, which the end of every command sets, and of TIMEBASE. -/
structure State.Core (s : State) : Prop where
  masters : s.MastersFollow
  gates : s.GatesFollow
  halt : s.HaltFollows
  run : s.RunIsClear
  test : s.TestInConfig
  first : s.FirstFaultHeld

theorem marks_get (t : Ptc) (p : Point) : t.marks.get p = ((t.reasons.get p).halted, (t.reasons.get p).fault) :=
  PerPoint.get_of _ p

/-- `Core` speaks of the control part alone. -/
theorem State.Core.congr {s t : State} (same : t.control = s.control) (h : s.Core) : t.Core := by
  obtain ⟨masters, gates, halt, run, test, first⟩ := h
  have op : t.stc.op = s.stc.op := congrArg Control.op same
  have holds : t.stc.holds = s.stc.holds := congrArg Control.holds same
  have status : t.dru.test.status = s.dru.test.status := congrArg Control.test same
  refine ⟨?_, fun p => ?_, ?_, ?_, ?_, ?_⟩
  · unfold State.MastersFollow
    rw [op, status, show t.dru.gms = s.dru.gms from congrArg Control.gms same,
      show t.dru.ems = s.dru.ems from congrArg Control.ems same]
    exact masters
  · have marks : t.ptc.marks.get p = s.ptc.marks.get p := congrArg (fun c => c.marks.get p) same
    obtain ⟨halted, fault⟩ := Prod.mk.inj ((marks_get _ _).symm.trans (marks.trans (marks_get _ _)))
    rw [halted, fault, op, show t.ptc.attribution = s.ptc.attribution from congrArg Control.attribution same]
    exact gates p
  · unfold State.HaltFollows
    rw [op, show t.tme.halt = s.tme.halt from congrArg Control.halt same]
    exact halt
  · unfold State.RunIsClear Stc.noHold
    rw [op, holds]
    exact run
  · unfold State.TestInConfig
    rw [op, status]
    exact test
  · unfold State.FirstFaultHeld
    rw [show t.stc.firstFault = s.stc.firstFault from congrArg Control.first same,
      show t.stc.faults = s.stc.faults from congrArg Control.faults same]
    exact first

section
variable {s : State}

/-! ## Faults and attribution -/

theorem latch_core (i : FaultId) (h : s.Core) : (s.latch i).Core := by
  obtain ⟨masters, gates, halt, run, test, first⟩ := h
  refine ⟨?_, ?_, ?_, ?_, ?_, ?_⟩
  · simpa [State.MastersFollow] using masters
  · simpa [State.GatesFollow] using gates
  · simpa [State.HaltFollows] using halt
  · simpa [State.RunIsClear, Stc.noHold] using run
  · simpa [State.TestInConfig] using test
  · unfold State.FirstFaultHeld State.latch
    split
    · exact first
    · next new =>
      have latched : (s.stc.faults.set i true).any = true := (anyFault_iff _).2 ⟨i, by rw [Faults.get_set, if_pos rfl]⟩
      change (if s.stc.faults.any then s.stc.firstFault else some (i, s.tbu.seconds)).isSome = true ↔
        (s.stc.faults.set i true).any = true
      simp only [latched, iff_true]
      split
      · next any => exact first.2 any
      · rfl

/-- One point's FAULT after its attribution set stood at `was`. -/
theorem followAttribution_reasons (t : State) (p : Point) (was : Attribution) :
    (t.followAttribution p was).ptc.reasons =
      if t.ptc.attribution.onPoint p = was then t.ptc.reasons
      else t.ptc.reasons.set p ((t.ptc.reasons.get p).set .fault (t.ptc.attribution.holds p)) := by
  unfold State.followAttribution
  split
  · rfl
  · rw [State.changeReasons_reasons]; rfl

/-- The reasons after the attribution sets were replaced (R31): FAULT of each point whose set changed, and no other reason. -/
theorem setAttribution_reasons (t : State) (a : Attribution) (p : Point) :
    (t.setAttribution a).ptc.reasons.get p =
      if a.onPoint p = t.ptc.attribution.onPoint p then t.ptc.reasons.get p
      else (t.ptc.reasons.get p).set .fault (a.holds p) := by
  have fold : ∀ (ps : List Point), ps.Nodup → ∀ u : State, u.ptc.attribution = a →
      (ps.foldl (fun v q => v.followAttribution q (t.ptc.attribution.onPoint q)) u).ptc.reasons.get p =
        if p ∈ ps ∧ a.onPoint p ≠ t.ptc.attribution.onPoint p then (u.ptc.reasons.get p).set .fault (a.holds p)
        else u.ptc.reasons.get p := by
    intro ps
    induction ps with
    | nil => intro _ u _; simp
    | cons q qs ih =>
      intro distinct u sets
      obtain ⟨absent, distinct⟩ := List.nodup_cons.1 distinct
      have next : (u.followAttribution q (t.ptc.attribution.onPoint q)).ptc.attribution = a := by
        rw [(State.followAttribution_gateFrame u q _).ptc]; exact sets
      rw [List.foldl_cons, ih distinct _ next, followAttribution_reasons, sets]
      by_cases e : p = q
      · subst e
        by_cases same : a.onPoint p = t.ptc.attribution.onPoint p <;> simp [absent, same]
      · by_cases same : a.onPoint q = t.ptc.attribution.onPoint q <;> simp [e, same, PerPoint.get_set]
  have := fold Point.all (by decide) (t.setPtc { t.ptc with attribution := a }) rfl
  rw [State.setAttribution, this]
  by_cases same : a.onPoint p = t.ptc.attribution.onPoint p <;> simp [same, Point.mem_all]

theorem setAttribution_core (a : Attribution) (h : s.Core) : (s.setAttribution a).Core := by
  obtain ⟨masters, gates, halt, run, test, first⟩ := h
  obtain ⟨stc, -, tme, gms, ems, status⟩ := setAttribution_frame s a
  refine ⟨?_, fun p => ?_, ?_, ?_, ?_, ?_⟩
  · unfold State.MastersFollow; rw [stc, gms, ems, status]; exact masters
  · obtain ⟨halted, fault⟩ := gates p
    rw [stc, setAttribution_reasons, State.setAttribution_attribution]
    split
    · next same =>
      have holds : a.holds p = s.ptc.attribution.holds p := by simp only [Attribution.holds, same]
      rw [holds]
      exact ⟨halted, fault⟩
    · exact ⟨halted, Iff.rfl⟩
  · unfold State.HaltFollows; rw [stc, tme]; exact halt
  · unfold State.RunIsClear; rw [stc]; exact run
  · unfold State.TestInConfig; rw [stc, status]; exact test
  · unfold State.FirstFaultHeld; rw [stc]; exact first

/-! ## Operating states and hold causes -/

theorem abortTest_ended (t : State) : t.abortTest.dru.test.status ≠ .running := by
  rw [abortTest_status]
  split
  · nofun
  · assumption

theorem enterState_test (t : State) {op : OpState} (h : op ≠ .config) : (t.enterState op).dru.test.status ≠ .running := by
  have same : (t.enterState op).dru.test.status = (t.stamped op).dru.test.status := by rw [(enterState_gateFrame t op).dru]; rfl
  rw [same, State.stamped]
  dsimp only
  rw [if_neg h]
  exact abortTest_ended _

/-- An entry to an operating state brings its relations with it; it asks only that RUN is entered without hold causes. -/
theorem enterState_core {op : OpState} (clear : op = .run → s.stc.noHold = true)
    (fault : ∀ p, (s.ptc.reasons.get p).fault = true ↔ s.ptc.attribution.holds p = true) (first : s.FirstFaultHeld) :
    (s.enterState op).Core := by
  obtain ⟨stc, tme, gms, ems, reasons, frame, -⟩ := enterState_entered s op
  refine ⟨?_, fun p => ?_, ?_, ?_, ?_, ?_⟩
  · unfold State.MastersFollow; rw [stc]; exact ⟨gms, ems⟩
  · rw [reasons, stc, frame.points.2]
    refine ⟨?_, fault p⟩
    simp [PerReason.set]
  · unfold State.HaltFollows
    rw [tme, stc]
    cases op <;> simp [Tme.halted, Tme.unhalted]
  · unfold State.RunIsClear
    rw [stc]
    exact clear
  · intro running
    rw [stc]
    exact Decidable.byContradiction fun h => enterState_test s h running
  · unfold State.FirstFaultHeld; rw [stc]; exact first

/-- A change of the hold causes, where RUN stays without them. -/
theorem storeHolds_core {holds : PerHold Bool} (clear : s.stc.op = .run → ({ s.stc with holds := holds } : Stc).noHold = true)
    (h : s.Core) : (s.storeHolds holds).Core := by
  obtain ⟨masters, gates, halt, -, test, first⟩ := h
  exact ⟨masters, gates, halt, clear, test, first⟩

theorem addHold_core (c : Hold) (h : s.Core) : (s.addHold c).Core := by
  unfold State.addHold
  split
  · exact h
  · dsimp only
    split
    · exact enterState_core nofun (fun p => (h.gates p).2) h.first
    · next stays => exact storeHolds_core (fun run => absurd ⟨run, h.run run⟩ stays) h

theorem removeHold_core (c : Hold) (h : s.Core) : (s.removeHold c).Core := by
  unfold State.removeHold
  split
  · refine storeHolds_core (fun run => ?_) h
    have clear := (noHold_iff s.stc).1 (h.run run)
    refine (noHold_iff _).2 fun k => ?_
    simp only [PerHold.get_set, clear k, ite_self]
  · exact h

theorem switchSource_core (src : Source) (h : s.Core) : (s.switchSource src).Core := by
  have moved : ((s.setTbu (s.tbu.switched src)).postAll .timebaseChanged).Core := by
    obtain ⟨masters, gates, halt, run, test, first⟩ := h
    exact ⟨masters, gates, halt, run, test, first⟩
  unfold State.switchSource
  dsimp only
  split
  · exact addHold_core _ (latch_core _ moved)
  · exact removeHold_core _ moved

/-- LOCKOUT requested with a master line lowered before it: low already where the part does not enter it. -/
theorem lockout_core {t : State} {dru : Dru} (eq : t = s.setDru dru) (test : dru.test.status = s.dru.test.status)
    (low : s.stc.op = .selftest ∨ s.stc.op = .lockout → dru.gms = s.dru.gms ∧ dru.ems = s.dru.ems) (h : s.Core) :
    t.requestLockout.Core := by
  obtain ⟨masters, gates, halt, run, inConfig, first⟩ := h
  subst eq
  obtain entered | ⟨stays, op⟩ := requestLockout_cases (s.setDru dru)
  · rw [entered]
    exact enterState_core nofun (fun p => (gates p).2) first
  · rw [stays]
    obtain ⟨gms, ems⟩ := low op
    refine ⟨?_, gates, halt, run, ?_, first⟩
    · unfold State.MastersFollow
      rw [State.setDru_dru, State.setDru_stc, gms, ems, test]
      exact masters
    · unfold State.TestInConfig
      rw [State.setDru_dru, State.setDru_stc, test]
      exact inConfig

theorem masters_low (h : s.Core) (op : s.stc.op = .selftest ∨ s.stc.op = .lockout) : s.dru.gms = false ∧ s.dru.ems = false := by
  obtain ⟨gms, ems⟩ := h.masters
  rcases op with op | op <;> simp [gms, ems, op, gmsOf, emsOf]

theorem latchStuck_core (l : Load) (h : s.Core) : (s.latchStuck l).Core := by
  unfold State.latchStuck
  split
  · exact h
  · have marked := setAttribution_core { s.ptc.attribution with stuckOn := s.ptc.attribution.stuckOn.set l true }
      (latch_core (.stuckOn l) h)
    exact lockout_core rfl rfl (fun op => ⟨rfl, (masters_low marked op).2.symm⟩) marked

theorem latchValve_core (z : Gas) (h : s.Core) : (s.latchValve z).Core := by
  unfold State.latchValve
  split
  · exact h
  · have marked := setAttribution_core { s.ptc.attribution with valve := s.ptc.attribution.valve.set z true }
      (latch_core (.valve z) h)
    exact lockout_core rfl rfl (fun op => ⟨(masters_low marked op).1.symm, rfl⟩) marked

/-! ## The drive test -/

/-- The master lines set after the drive test's status changed. -/
theorem setMasters_core {dru : Dru} (test : dru.test.status = .running → s.stc.op = .config) (h : s.Core) :
    (s.setDru dru).setMasters.Core := by
  obtain ⟨-, gates, halt, run, -, first⟩ := h
  exact ⟨⟨rfl, rfl⟩, gates, halt, run, test, first⟩

theorem abortTest_core (h : s.Core) : s.abortTest.setMasters.Core := by
  have ended := abortTest_ended s
  have eq := abortTest_eq s
  obtain ⟨-, gates, halt, run, -, first⟩ := h
  rw [eq] at ended ⊢
  exact ⟨⟨rfl, rfl⟩, gates, halt, run, fun running => absurd running ended, first⟩

end

theorem Moves.core {a b : Nat} {s t : State} (h : Moves a b s t) (core : s.Core) : t.Core := by
  induction h with
  | calm h => exact core.congr h.control
  | trans _ _ h k => exact k (h core)
  | weaken _ _ _ h => exact h core
  | latch s i => exact latch_core i core
  | attribution s a => exact setAttribution_core a core
  | hold s _ => exact addHold_core _ core
  | release s _ => exact removeHold_core _ core
  | toRc s => exact switchSource_core _ core
  | fromRc s _ => exact switchSource_core _ core
  | enter _ clear => exact enterState_core clear (fun p => (core.gates p).2) core.first
  | stuck s l => exact latchStuck_core l core
  | valve s z => exact latchValve_core z core
  | testBegins op _ _ => exact setMasters_core (fun _ => op) core
  | testAborts s => exact abortTest_core core
  | testEnds s _ => exact setMasters_core nofun core

/-! ## TIMEBASE (R15) -/

theorem enterState_timebase (s : State) (op : OpState) : (s.enterState op).stc.holds = s.stc.holds ∧ (s.enterState op).tbu = s.tbu := by
  rw [State.enterState_stc]
  exact ⟨rfl, (s.enterState_rest op).1⟩

theorem State.TimebaseHeld.congr {s t : State} (holds : t.stc.holds.timebase = s.stc.holds.timebase) (source : t.tbu.source = s.tbu.source)
    (h : s.TimebaseHeld) : t.TimebaseHeld := by
  unfold State.TimebaseHeld
  rw [holds, source]
  exact h

theorem set_timebase_of_ne (t : PerHold Bool) {c : Hold} (v : Bool) (h : c ≠ .timebase) : (t.set c v).timebase = t.timebase := by
  cases c <;> first
    | rfl
    | contradiction

theorem addHold_tbu (s : State) (c : Hold) : (s.addHold c).tbu = s.tbu := by
  obtain eq | eq | ⟨-, eq⟩ := addHold_stays_or_enters s c <;> rw [eq]
  · rfl
  · exact (enterState_timebase _ _).2

theorem requestLockout_timebase (s : State) : s.requestLockout.stc.holds = s.stc.holds ∧ s.requestLockout.tbu = s.tbu := by
  obtain eq | ⟨eq, -⟩ := requestLockout_cases s <;> rw [eq]
  · exact enterState_timebase s .lockout
  · exact ⟨rfl, rfl⟩

theorem Moves.timebase {a b : Nat} {s t : State} (h : Moves a b s t) (held : s.TimebaseHeld) : t.TimebaseHeld := by
  induction h with
  | calm h => exact held.congr (congrArg (fun c => c.holds.timebase) h.control) (congrArg Control.source h.control)
  | trans _ _ h k => exact k (h held)
  | weaken _ _ _ h => exact h held
  | latch s i => exact held.congr (by simp) (by simp)
  | attribution s a =>
    obtain ⟨stc, tbu, -⟩ := setAttribution_frame s a
    exact held.congr (by rw [stc]) (by rw [tbu])
  | hold s other =>
    exact held.congr (by rw [State.addHold_holds, set_timebase_of_ne _ _ other]) (by rw [addHold_tbu])
  | release s other =>
    rw [State.removeHold_eq]
    exact held.congr (set_timebase_of_ne _ _ other) rfl
  | toRc s =>
    unfold State.TimebaseHeld State.switchSource
    dsimp only
    rw [if_pos rfl, State.addHold_holds, addHold_tbu, State.latch_tbu]
    exact ⟨fun _ => rfl, fun _ => rfl⟩
  | fromRc s other =>
    obtain ⟨stc, tbu, -⟩ := switchSource_other s other
    unfold State.TimebaseHeld
    rw [stc, tbu]
    exact ⟨nofun, fun rc => absurd rc other⟩
  | enter _ _ =>
    obtain ⟨holds, tbu⟩ := enterState_timebase _ _
    exact held.congr (by rw [holds]) (by rw [tbu])
  | stuck s l =>
    unfold State.latchStuck
    split
    · exact held
    · obtain ⟨holds, tbu⟩ := requestLockout_timebase (((s.latch (.stuckOn l)).setAttribution _).setDru _)
      obtain ⟨stc, tbu', -⟩ := setAttribution_frame (s.latch (.stuckOn l)) _
      exact held.congr (by rw [holds, State.setDru_stc, stc, State.latch_holds]) (by rw [tbu, State.setDru_tbu, tbu', State.latch_tbu])
  | valve s z =>
    unfold State.latchValve
    split
    · exact held
    · obtain ⟨holds, tbu⟩ := requestLockout_timebase (((s.latch (.valve z)).setAttribution _).setDru _)
      obtain ⟨stc, tbu', -⟩ := setAttribution_frame (s.latch (.valve z)) _
      exact held.congr (by rw [holds, State.setDru_stc, stc, State.latch_holds]) (by rw [tbu, State.setDru_tbu, tbu', State.latch_tbu])
  | testBegins _ _ _ => exact held
  | testAborts s =>
    obtain ⟨stc, -, -, tbu⟩ := abortTest_rest s
    exact State.TimebaseHeld.congr (s := s) (congrArg (fun c => c.holds.timebase) stc) (congrArg Tbu.source tbu) held
  | testEnds s _ => exact held

/-! ## Every step -/

theorem Prepared.core {s t : State} (h : Prepared s t) (core : s.Core) : t.Core := by
  obtain ⟨masters, gates, halt, run, test, first⟩ := core
  refine ⟨?_, ?_, ?_, ?_, ?_, ?_⟩
  · unfold State.MastersFollow; rw [h.stc, h.dru]; exact masters
  · unfold State.GatesFollow; rw [h.stc, h.ptc]; exact gates
  · unfold State.HaltFollows
    rw [h.stc]
    obtain same | ⟨op, low⟩ := h.halt
    · rw [same]; exact halt
    · simp [op, low]
  · unfold State.RunIsClear; rw [h.stc]; exact run
  · unfold State.TestInConfig; rw [h.stc, h.dru]; exact test
  · unfold State.FirstFaultHeld; rw [h.stc]; exact first

theorem clearFaults_core {s : State} (named : FaultFlag → Bool) (core : s.Core) : (s.clearFaults named).Core := by
  have cleared : ∀ u : State, u.stc = { s.stc with faults := s.clearedFaults named
                                                   firstFault := if (s.clearedFaults named).any then s.stc.firstFault else none } →
      u.dru = s.dru → u.ptc = s.ptc → u.tme = s.tme → u.Core := by
    intro u stc dru ptc tme
    obtain ⟨masters, gates, halt, run, test, first⟩ := core
    refine ⟨?_, ?_, ?_, ?_, ?_, ?_⟩
    · unfold State.MastersFollow; rw [stc, dru]; exact masters
    · unfold State.GatesFollow; rw [stc, ptc]; exact gates
    · unfold State.HaltFollows; rw [stc, tme]; exact halt
    · unfold State.RunIsClear; rw [stc]; exact run
    · unfold State.TestInConfig; rw [stc, dru]; exact test
    · unfold State.FirstFaultHeld
      rw [stc]
      dsimp only
      split
      · next any =>
        have before : s.stc.faults.any = true := by
          obtain ⟨i, kept⟩ := (anyFault_iff _).1 any
          refine (anyFault_iff _).2 ⟨i, ?_⟩
          have : (s.clearedFaults named).get i = s.keptFault named i := by cases i <;> simp [State.clearedFaults, Faults.get]
          rw [this, State.keptFault, Bool.and_eq_true] at kept
          exact kept.1
        simp only [any, first.2 before]
      · next any => simp [any]
  unfold State.clearFaults
  dsimp only
  refine setAttribution_core _ ?_
  split <;> exact cleared _ rfl rfl rfl rfl

theorem clearFaults_timebase {s : State} (named : FaultFlag → Bool) (held : s.TimebaseHeld) : (s.clearFaults named).TimebaseHeld := by
  unfold State.clearFaults
  dsimp only
  obtain ⟨stc, tbu, -⟩ := setAttribution_frame _ (s.clearedAttribution named)
  refine State.TimebaseHeld.congr (s := s) ?_ ?_ held
  · rw [stc]; split <;> rfl
  · rw [tbu]; split <;> rfl

theorem warmRestart_core {s : State} (core : s.Core) : s.warmRestart.Core := by
  have warm := warmRestart_warm s
  generalize s.warmRestart = u at warm
  have status : u.dru.test.status = if s.dru.test.status = .running then .aborted else s.dru.test.status := by rw [warm.dru]
  have ended : u.dru.test.status ≠ .running := by
    rw [status]
    split
    · nofun
    · assumption
  refine ⟨?_, fun p => ?_, ?_, ?_, fun running => absurd running ended, ?_⟩
  · unfold State.MastersFollow
    refine ⟨?_, ?_⟩
    · rw [warm.stc, warm.dru]; rfl
    · rw [warm.stc, emsOf, decide_eq_false ended, warm.dru]; rfl
  · rw [warm.stc, warm.ptc]
    simp [Ptc.warmReasons]
  · unfold State.HaltFollows
    rw [warm.stc, warm.tme]
    simp [Tme.restarted]
  · unfold State.RunIsClear
    rw [warm.stc]
    nofun
  · unfold State.FirstFaultHeld
    rw [warm.stc]
    exact core.first

theorem effect_core (s : State) {i : Instr} (cold : i ≠ .coldReset) (core : s.Core) (held : s.TimebaseHeld) :
    (s.effect i).Core ∧ (s.effect i).TimebaseHeld := by
  by_cases special : (∃ p, i = .restart p) ∨ ∃ p f, i = .faultClear p f
  · obtain ⟨p, rfl⟩ | ⟨p, f, rfl⟩ := special
    · change s.takeRestart.state.Core ∧ s.takeRestart.state.TimebaseHeld
      unfold State.takeRestart
      split
      · exact ⟨core, held⟩
      · refine ⟨warmRestart_core core, ?_⟩
        have warm := warmRestart_warm s
        change s.warmRestart.TimebaseHeld
        exact State.TimebaseHeld.congr (s := s) (by rw [warm.stc]) (by rw [warm.rest]) held
    · change (s.takeFaultClear f).state.Core ∧ (s.takeFaultClear f).state.TimebaseHeld
      unfold State.takeFaultClear
      repeat' split
      all_goals first
        | exact ⟨core, held⟩
        | exact ⟨clearFaults_core _ core, clearFaults_timebase _ held⟩
  · obtain ⟨restart, clear⟩ : (∀ p, i ≠ .restart p) ∧ ∀ p f, i ≠ .faultClear p f := by
      simpa only [not_or, not_exists] using special
    obtain ⟨base, u, ports, prepared, -, moves, eq, -⟩ := (effect_shape s cold restart clear).shape
    have before : base.TimebaseHeld := State.TimebaseHeld.congr (s := s) (by rw [prepared.stc]) prepared.source held
    have after := moves.core (prepared.core core)
    rw [eq]
    exact ⟨State.Core.congr (s := u) rfl after, moves.timebase before⟩

/-- What closes a command sets the lines and keeps every other relation. -/
theorem settle_sound {o n : State} (core : n.Core) (held : n.TimebaseHeld) : (settle o n).Sound := by
  have control : (settle o n).control = n.control := by
    simp only [State.control, settle_stc, settle_dru, settle_ptc, settle_tme, settle_tbu]
  obtain ⟨masters, gates, halt, run, test, first⟩ := core.congr control
  exact ⟨settle_lines o n, masters, gates, halt, State.TimebaseHeld.congr (by rw [settle_stc]) (by rw [settle_tbu]) held, run, test, first⟩

theorem exec_sound {i : Instr} {s t : State} (ran : exec i s = .next t) (core : s.Core) (held : s.TimebaseHeld) : t.Sound := by
  by_cases cold : i = .coldReset
  · subst cold
    cases ran
    obtain ⟨⟨lines, masters, gates, halt, timebase, run, test, first⟩, -⟩ := resetIsSound
    exact ⟨lines, masters, gates, halt, timebase, run, test, first⟩
  · obtain ⟨effectCore, effectHeld⟩ := effect_core s cold core held
    obtain ⟨u, rfl, ⟨-, rfl⟩ | ⟨p, r, v, rfl, eq⟩⟩ := exec_cases cold ran
    · exact settle_sound effectCore effectHeld
    · have kept : v.Core ∧ v.TimebaseHeld := by
        obtain rfl | rfl := eq
        · exact ⟨core, held⟩
        · exact ⟨effectCore, effectHeld⟩
      exact settle_sound (State.Core.congr (s := v) rfl kept.1) kept.2

/-- Settles O5: the lines by what closes every command, the rest by the moves that a command is made of. -/
theorem stepKeepsSound : Obligations.StepKeepsSound := by
  intro s t ⟨lines, masters, gates, halt, timebase, run, test, first⟩ ran
  have core : s.Core := ⟨masters, gates, halt, run, test, first⟩
  unfold step at ran
  split at ran
  · cases ran
    obtain ⟨-, -, ports, alc, control, pins, mask⟩ := idle_same s
    obtain ⟨masters, gates, halt, run, test, first⟩ := core.congr control
    refine ⟨?_, masters, gates, halt, ?_, run, test, first⟩
    · have faults : s.idle.stc.faults = s.stc.faults := congrArg Control.faults control
      have flt : s.idle.stc.flt = s.stc.flt := by unfold Stc.flt; rw [mask, faults]
      unfold State.LinesFollow State.lines at lines ⊢
      rw [pins, ports, alc, flt]
      exact lines
    · exact State.TimebaseHeld.congr (congrArg (fun c => c.holds.timebase) control) (congrArg Control.source control) timebase
  · exact exec_sound ran (State.Core.congr (s := s) rfl core) timebase

end Sys2Proof.Machine

/-! # The lines and the system entries after every command (R160, R161, R168, R183, R198) -/

namespace Sys2Proof.Machine

theorem exec_lines {i : Instr} {s t : State} (ran : exec i s = .next t) : t.LinesFollow := by
  by_cases cold : i = .coldReset
  · subst cold
    cases ran
    exact resetIsSound.1.lines
  · obtain ⟨u, rfl, -⟩ := exec_cases cold ran
    exact settle_lines s u

theorem exec_pending {i : Instr} {s t : State} (ran : exec i s = .next t) : t.pending = s.pending := by
  by_cases cold : i = .coldReset
  · subst cold
    cases ran
    rfl
  · exact exec_keeps (fun s t => t.pending = s.pending) (fun _ => rfl) (fun h k => k.trans h) (fun _ _ _ _ => rfl)
      (fun o n => (settle_kept o n).pending) cold (effect_kept s cold).pending ran

/-! ## System entries -/

theorem followedEntry_isTimer {s t : State} {e f : Alert} (h : followedEntry s t e = some f) : f.isTimer = e.isTimer := by
  unfold followedEntry at h
  cases source : e.source with
  | timer n => rw [source] at h; rw [← Option.some.inj h]
  | system c b =>
    rw [source] at h
    dsimp only at h
    split at h
    · rw [← Option.some.inj h]
    · split at h
      · rw [← Option.some.inj h]
        simp [Alert.isTimer, source]
      · cases h

theorem followedEntry_timer {s t : State} {e : Alert} (h : e.isTimer = true) : followedEntry s t e = some e := by
  unfold followedEntry
  cases source : e.source with
  | timer n => rfl
  | system c b => simp [Alert.isTimer, source] at h

/-- The system entries of a list that was followed are the system entries, followed. -/
theorem filter_followed (s t : State) (es : List Alert) :
    (es.filterMap (followedEntry s t)).filter (fun e => !e.isTimer) = (es.filter fun e => !e.isTimer).filterMap (followedEntry s t) := by
  induction es with
  | nil => rfl
  | cons e es ih =>
    cases timer : e.isTimer with
    | true => simp [followedEntry_timer timer, timer, ih]
    | false =>
      cases next : followedEntry s t e with
      | none => simp [next, timer, ih]
      | some f =>
        have kind : f.isTimer = false := (followedEntry_isTimer next).trans timer
        simp [next, timer, kind, ih]

/-- Whether a cause has an entry is told by the system entries. -/
theorem all_forCause_system (es : List Alert) (c : SystemCause) :
    es.all (fun e => !e.forCause c) = (es.filter fun e => !e.isTimer).all fun e => !e.forCause c := by
  have timer : ∀ e : Alert, e.isTimer = true → e.forCause c = false := fun e h => by
    cases source : e.source with
    | timer n => simp [Alert.forCause, source]
    | system d b => simp [Alert.isTimer, source] at h
  induction es with
  | nil => rfl
  | cons e es ih =>
    cases k : e.isTimer with
    | true => simp [k, timer e k, ih]
    | false => simp [k, ih]

theorem Alc.system_congr {a b : Alc} (h : a.entries = b.entries) : a.system = b.system := by unfold Alc.system; rw [h]

/-- A change of the Alert List by the causes is heard at every port (R164). -/
theorem followCauses_posts (s u : State) : PostsStay u (s.followCauses u) ∧ ((s.followCauses u).alc.entries = u.alc.entries ∨
    ∀ q, ((s.followCauses u).ports.get q).posted.get .alertChanged = true) := by
  unfold State.followCauses
  split
  · exact ⟨PostsStay.refl u, .inl rfl⟩
  · refine foldl_keeps (fun v w => PostsStay v w ∧ (w.alc.entries = v.alc.entries ∨
      ∀ q, (w.ports.get q).posted.get .alertChanged = true)) (fun v => ⟨PostsStay.refl v, .inl rfl⟩) ?_ (fun v c => ?_) _ u
    · rintro v w x ⟨stay, change⟩ ⟨stay', change'⟩
      refine ⟨stay.trans stay', ?_⟩
      obtain same' | posted' := change'
      · obtain same | posted := change
        · exact .inl (same'.trans same)
        · exact .inr fun q => stay' q _ (posted q)
      · exact .inr posted'
    · have store : ∀ es, PostsStay v (if es = v.alc.entries then v else v.storeAlerts es fun _ => true) ∧
          ((if es = v.alc.entries then v else v.storeAlerts es fun _ => true).alc.entries = v.alc.entries ∨
            ∀ q, ((if es = v.alc.entries then v else v.storeAlerts es fun _ => true).ports.get q).posted.get .alertChanged = true) := by
        intro es
        split
        · exact ⟨PostsStay.refl v, .inl rfl⟩
        · exact ⟨(postTo_portsAfter (v.setAlc _) _ _).postsStay, .inr fun q => by rw [State.storeAlerts_posted]; simp⟩
      split
      · exact ⟨PostsStay.refl v, .inl rfl⟩
      · exact store _

theorem settle_alertChanged (s u : State) (h : (settle s u).alc.entries ≠ u.alc.entries) (q : Port) :
    ((settle s u).ports.get q).posted.get .alertChanged = true := by
  have ports : (settle s u).ports = (s.followCauses u).ports := by
    unfold settle
    rw [State.retakeSnapshot_frame]
    rfl
  rw [settle_entries] at h
  rw [ports]
  obtain same | posted := (followCauses_posts s u).2
  · exact absurd same h
  · exact posted q

/-- No command but COLD_RESET, RESTART and ALERT_ACK touches the system entries in its block. -/
theorem effect_system (s : State) {i : Instr} (cold : i ≠ .coldReset) (restart : ∀ p, i ≠ .restart p)
    (ack : ∀ p d, i ≠ .alertAck p d) : (s.effect i).alc.system = s.alc.system := by
  by_cases clear : ∃ p f, i = .faultClear p f
  · obtain ⟨p, f, rfl⟩ := clear
    exact (takeFaultClear_apart s f).system
  · obtain ⟨base, u, ports, -, entries, moves, eq, -⟩ := (effect_shape s cold restart (by simpa using clear)).shape
    rw [eq]
    exact moves.apart.system.trans (Alc.system_congr (entries (by simpa using ack)))

/-- What the end of a command makes of the system entries, where its block left them. -/
theorem settle_system {s u : State} (left : u.alc.system = s.alc.system) :
    (u.stc.op = .selftest → (settle s u).alc.system = s.alc.system) ∧
    (u.stc.op ≠ .selftest →
      (settle s u).alc.system = s.alc.system.filterMap (followedEntry s (settle s u)) ++ joinedEntries s (settle s u) ∧
        joinedEntries s (settle s u) <:+ (settle s u).alc.entries) ∧
    ((settle s u).alc.system ≠ s.alc.system → ∀ q, ((settle s u).ports.get q).posted.get .alertChanged = true) := by
  have closed := settle_closed s u
  have causes : ∀ c, (settle s u).causePresent c = u.causePresent c := causePresent_of_stc closed.stc
  have followed : followedEntry s (settle s u) = followedEntry s u := by
    funext e
    unfold followedEntry
    simp only [causeStands_eq, causes]
  have joined : joinedEntries s (settle s u) =
      (SystemCause.all.filter fun c => u.causePresent c && !s.causePresent c && u.alc.entries.all fun e => !e.forCause c).map
        fun c => systemEntry c u.tbu.seconds := by
    unfold joinedEntries
    simp only [causeStands_eq, causes, closed.tbu]
    refine congrArg (List.map _) (List.filter_congr fun c _ => ?_)
    rw [all_forCause_system s.alc.entries, all_forCause_system u.alc.entries]
    change _ = (_ && u.alc.system.all _)
    rw [left]
    rfl
  refine ⟨fun op => ?_, fun op => ?_, fun changed => settle_alertChanged s u fun same => changed ?_⟩
  · exact (Alc.system_congr (closed.asleep op)).trans left
  · rw [followed, joined]
    have entries := closed.followed op
    refine ⟨?_, ?_⟩
    · rw [Alc.system, entries, List.filter_append, filter_followed]
      refine congr (congrArg _ (congrArg _ left)) (List.filter_eq_self.2 fun e joins => ?_)
      obtain ⟨c, -, rfl⟩ := List.mem_map.1 joins
      rfl
    · rw [entries]
      exact List.suffix_append _ _
  · exact (Alc.system_congr same).trans left

/-- Settles O3. -/
theorem linesFollowTheirSets : Obligations.LinesFollowTheirSets := by
  intro i s t ran
  have lines : t.pins = t.lines := exec_lines ran
  refine ⟨exec_pending ran, ?_, fun p => ?_, fun x => ?_, fun cold restart ack => ?_⟩
  · rw [lines]
    simp [State.lines, Stc.flt, FaultFlag.mem_all]
  · rw [lines]
    simp [State.lines, PortUnit.atn, EventClass.mem_all]
  · rw [lines]
    simp [State.lines, Alc.ind]
  · have left := effect_system s cold restart ack
    obtain ⟨u, rfl, form⟩ := exec_cases cold ran
    have system : u.alc.system = s.alc.system := by
      obtain ⟨-, rfl⟩ | ⟨p, r, v, rfl, rfl | rfl⟩ := form
      · exact left
      · rfl
      · exact left
    obtain ⟨asleep, awake, posts⟩ := settle_system system
    rw [settle_stc]
    refine ⟨asleep, fun op => ⟨(awake op).1, (awake op).2, fun changed q => posts changed q⟩⟩

end Sys2Proof.Machine

/-! # Requests: what is left of one that changes little, and the reads -/

namespace Sys2Proof.Machine

/-! ## What the lines follow -/

theorem lines_congr {s t : State} (faults : t.stc.faults = s.stc.faults) (mask : t.stc.faultMask = s.stc.faultMask)
    (entries : t.alc.entries = s.alc.entries)
    (ports : ∀ q, (t.ports.get q).posted = (s.ports.get q).posted ∧ (t.ports.get q).eventMask = (s.ports.get q).eventMask) :
    t.lines = s.lines := by
  have atn : ∀ q, (t.ports.get q).atn = (s.ports.get q).atn := fun q => by
    unfold PortUnit.atn
    rw [(ports q).1, (ports q).2]
  have ind : t.alc.ind = s.alc.ind := by funext x; unfold Alc.ind; rw [entries]
  unfold State.lines Stc.flt
  rw [faults, mask, ind]
  simp only [atn]

theorem PortsAfter.unposted {who : Option Port} {s t : State} (h : PortsAfter who noPosts s t) (q : Port) :
    (t.ports.get q).posted = (s.ports.get q).posted ∧ (t.ports.get q).eventMask = (s.ports.get q).eventMask :=
  ⟨PerEvent.eq_of_get fun c => by rw [h.posted, noPosts, Bool.or_false], (h.kept q).2.2.2⟩

/-! ## A request taken by its block -/

theorem dispatch_any {s : State} {code : Byte} (op : s.stc.op ≠ .selftest) (open_ : supervisorCodes.contains code = false)
    (p : Port) (take : Taken) : s.dispatch code p take = take :=
  dispatch_taken (by rw [roleAllowed, open_]; simp) (.inl op)

/-- A request that R191 lets through: `u` is what its block leaves, where no system cause changes and no pass starts. -/
theorem request_taken {s : State} {i : Instr} {code : Byte} {p : Port} {take : Taken} {u : State} {status : Status}
    {data : List Byte} {posts : Port → EventClass → Bool} (passed : s.dispatch code p take = take) (took : take = ⟨u, status, data⟩)
    (causes : ∀ c, u.causePresent c = s.causePresent c) (serial : u.spl.serial = s.spl.serial) (ports : PortsAfter none posts s u) :
    ∃ t, request i code p s take = .next t ∧ t = { u with ports := t.ports, pins := t.pins } ∧ t.LinesFollow ∧
      PortsAfter (some p) posts s t ∧ t.Replied p (replyCode code) status data := by
  subst took
  obtain ⟨t, next, closed, replied⟩ := request_closed (i := i) passed
  refine ⟨t, next, closed.same causes serial, closed.lines, ?_, replied⟩
  exact ((ports.weaken p).trans (closed.portsAfter causes)).congr rfl rfl fun _ _ => (Bool.or_false _).symm

/-- The same where the block posts nothing either, and touches neither the fault record nor the Alert List: no line moves. -/
theorem request_stored {s : State} {i : Instr} {code : Byte} {p : Port} {take : Taken} {u : State} {status : Status}
    {data : List Byte} (lines : s.LinesFollow) (passed : s.dispatch code p take = take) (took : take = ⟨u, status, data⟩)
    (stc : u.stc = s.stc) (serial : u.spl.serial = s.spl.serial) (entries : u.alc.entries = s.alc.entries)
    (ports : u.ports = s.ports) (pins : u.pins = s.pins) :
    ∃ t, request i code p s take = .next t ∧ t = { u with ports := t.ports } ∧ PortsAfter (some p) noPosts s t ∧
      t.Replied p (replyCode code) status data := by
  have after : PortsAfter none noPosts s u := (PortsAfter.refl none s).congr rfl ports fun _ _ => rfl
  obtain ⟨t, next, eq, follow, posted, replied⟩ := request_taken (i := i) passed took (causePresent_of_stc stc) serial after
  refine ⟨t, next, ?_, posted, replied⟩
  have same : t.lines = s.lines := by
    refine lines_congr ?_ ?_ ?_ posted.unposted
    · rw [eq]; exact congrArg Stc.faults stc
    · rw [eq]; exact congrArg Stc.faultMask stc
    · rw [eq]; exact entries
  have still : t.pins = u.pins := (follow.trans same).trans (lines.symm.trans pins.symm)
  rw [still] at eq
  exact eq

/-! ## CFG_RANK, CFG_MEMORY and FAULT_MASK (R37, R87, R183) -/

theorem EPoint.ofCode_code (a : EPoint) : EPoint.ofCode a.point.code = some a := by cases a <;> rfl

/-- Settles O24. -/
theorem configAloneSetsThese : Obligations.ConfigAloneSetsThese := by
  intro a b c d device base mask s lines busy deviceFits baseAligned baseFits maskFits
  have rank : s.takeCfgRank a.point.code b.point.code c.point.code d.point.code =
      if s.stc.op ≠ .config then s.refuse .refusedState else (s.setPtc { s.ptc with rank := ⟨a, b, c, d⟩ }).taken [] := by
    simp only [State.takeCfgRank, EPoint.ofCode_code]
  have memory : s.takeCfgMemory (some device) (some base) =
      if s.stc.op ≠ .config then s.refuse .refusedState
      else (s.setPmc { s.pmc with device := device, base := base }).taken [] := by
    have fits : baseAllowed base = true := by simp [baseAllowed, baseAligned, baseFits]
    by_cases op : s.stc.op = .config <;>
      simp [State.takeCfgMemory, State.checked, firstFailure, op, fits, Nat.not_lt.2 deviceFits]
  have flags : s.takeFaultMask mask =
      if s.stc.op ≠ .config then s.refuse .refusedState
      else (s.setStc { s.stc with faultMask := .of fun f => mask.testBit f.index }).taken
        (encFlags (.of fun f => mask.testBit f.index)) := by
    have small : mask < 2 ^ 15 := maskFits
    simp only [State.takeFaultMask, flagsOfBits, if_pos small]
  by_cases op : s.stc.op = .config
  · rw [if_neg (not_not_intro op)] at rank memory flags
    obtain ⟨t, next, eq, posted, replied⟩ := request_stored (i := .cfgRank .supervisor _ _ _ _) (code := 0x43) lines
      (dispatch_supervisor _ busy) rank rfl rfl rfl rfl rfl
    obtain ⟨t', next', eq', posted', replied'⟩ := request_stored (i := .cfgMemory .supervisor _ _) (code := 0x46) lines
      (dispatch_supervisor _ busy) memory rfl rfl rfl rfl rfl
    obtain ⟨t'', next'', eq'', lines'', posted'', replied''⟩ := request_taken (i := .faultMask .supervisor mask) (code := 0x52)
      (dispatch_supervisor _ busy) flags (fun c => by cases c <;> rfl) rfl
      ((PortsAfter.refl none s).congr rfl rfl fun _ _ => rfl)
    refine ⟨⟨t, next, fun e => absurd op e, fun _ => ⟨eq, posted, replied⟩⟩,
      ⟨t', next', fun e => absurd op e, fun _ => ⟨eq', posted', replied'⟩⟩,
      t'', next'', fun e => absurd op e, fun _ => ⟨eq'', ?_, posted'', ?_⟩⟩
    · have pins : t''.pins = t''.lines := lines''
      rw [pins, eq'']
      simp [State.lines, Stc.flt, FaultFlag.mem_all]
    · have mask : t''.stc.faultMask = .of fun f => mask.testBit f.index := by rw [eq'']; rfl
      rw [mask]
      exact replied''
  · rw [if_pos op] at rank memory flags
    obtain ⟨t, next, only⟩ := request_onlyReplied (i := .cfgRank .supervisor _ _ _ _) (code := 0x43) lines
      ((dispatch_supervisor _ busy).trans rank)
    obtain ⟨t', next', only'⟩ := request_onlyReplied (i := .cfgMemory .supervisor _ _) (code := 0x46) lines
      ((dispatch_supervisor _ busy).trans memory)
    obtain ⟨t'', next'', only''⟩ := request_onlyReplied (i := .faultMask .supervisor mask) (code := 0x52) lines
      ((dispatch_supervisor _ busy).trans flags)
    exact ⟨⟨t, next, fun _ => only, fun e => absurd e op⟩, ⟨t', next', fun _ => only', fun e => absurd e op⟩,
      t'', next'', fun _ => only'', fun e => absurd e op⟩

/-! ## Reads (R18, R39, R66, R86, R94, R118, R140, R155, R169, R184, R185, R194, R200) -/

/-- A read that every role is allowed outside SELFTEST. -/
theorem read_answered {s : State} {i : Instr} {code : Byte} {take : Taken} {data : List Byte} (p : Port)
    (open_ : supervisorCodes.contains code = false) (taken : take = s.taken data) (op : s.stc.op ≠ .selftest) (lines : s.LinesFollow) :
    ∃ t, request i code p s take = .next t ∧ OnlyReplied p (replyCode code) .ok data s t :=
  request_onlyReplied lines ((dispatch_any op open_ p take).trans taken)

/-- A read that reaches its block in SELFTEST too. -/
theorem read_answered_always {s : State} {i : Instr} {code : Byte} {take : Taken} {data : List Byte} (p : Port)
    (open_ : supervisorCodes.contains code = false) (always : selftestCodes.contains code = true) (taken : take = s.taken data)
    (lines : s.LinesFollow) : ∃ t, request i code p s take = .next t ∧ OnlyReplied p (replyCode code) .ok data s t :=
  request_onlyReplied lines ((dispatch_taken (by rw [roleAllowed, open_]; simp) (.inr always)).trans taken)

/-- Settles O12. -/
theorem tableReadsChangeNothing : Obligations.TableReadsChangeNothing := by
  intro p s op lines
  refine ⟨?_, ?_, fun x => ?_, fun h r found => ?_, ?_, fun c => ?_, ?_⟩
  · obtain ⟨t, next, only⟩ := read_answered (i := .clockRead p) (code := 0x02) (data := s.tbu.clockRecord) p (by decide) rfl op lines
    refine ⟨t, next, ?_⟩
    unfold Tbu.clockRecord at only
    cases clock : s.tbu.timeOfDay <;> (rw [clock] at only; exact only)
  · exact read_answered (i := .timebaseRead p) p (by decide) rfl op lines
  · exact read_answered (i := .pointRead p _) (take := s.takePointRead (.point x.code)) p (by decide) (by cases x <;> rfl) op lines
  · exact read_answered (i := .timerRead p h) p (by decide) (onTimer_open found p _) op lines
  · exact read_answered (i := .timerList p none) p (by decide) rfl op lines
  · exact read_answered (i := .seqRead p _) (take := s.takeSeqRead (.channel c.index)) p (by decide) (by cases c <;> rfl) op lines
  · exact read_answered (i := .seqRead p .memory) p (by decide) rfl op lines

/-- Settles O13. -/
theorem unitReadsChangeNothing : Obligations.UnitReadsChangeNothing := by
  intro p s lines
  refine ⟨read_answered_always (i := .stateRead p) p (by decide) (by decide) rfl lines,
    read_answered_always (i := .faultRead p) p (by decide) (by decide) rfl lines, fun op => ⟨?_, ?_, ?_, ?_, ?_, ?_, ?_⟩⟩
  · exact read_answered (i := .planRead p 0) p (by decide) rfl op lines
  · exact read_answered (i := .planRead p 1) p (by decide) rfl op lines
  · exact read_answered (i := .feedbackRead p) p (by decide) rfl op lines
  · exact read_answered (i := .senseRead p) p (by decide) rfl op lines
  · exact read_answered (i := .alertList p) p (by decide) rfl op lines
  · exact read_answered (i := .eventsRead p) p (by decide) rfl op lines
  · exact read_answered (i := .countersRead p none) p (by decide) rfl op lines

end Sys2Proof.Machine

/-! # Layouts (R203 to R206) -/

namespace Sys2Proof.Machine

/-! ## Lengths of fields -/

@[simp] theorem enc1_length (n : Nat) : (enc1 n).length = 1 := rfl
@[simp] theorem enc2_length (n : Nat) : (enc2 n).length = 2 := rfl
@[simp] theorem enc3_length (n : Nat) : (enc3 n).length = 3 := rfl
@[simp] theorem enc4_length (n : Nat) : (enc4 n).length = 4 := rfl
@[simp] theorem encTemp_length (t : Int) : (encTemp t).length = 2 := rfl
@[simp] theorem encHandle_length (h : Handle) : (encHandle h).length = 2 := rfl
@[simp] theorem encYes_length (b : Bool) : (encYes b).length = 1 := rfl
@[simp] theorem encLoads_length (t : PerLoad Bool) : (encLoads t).length = 1 := rfl
@[simp] theorem encPause_length (t : Timer) : (encPause t).length = 1 := rfl
@[simp] theorem encAbsent_length (k : Nat) : (encAbsent k).length = k := List.length_replicate

@[simp] theorem encOpt_length {α : Type} {k : Nat} {f : α → List Byte} (h : ∀ v, (f v).length = k) (o : Option α) :
    (encOpt k f o).length = k := by
  cases o with
  | none => exact encAbsent_length k
  | some v => exact h v

@[simp] theorem encPin_length (p : Option Nat) : (encPin p).length = 1 := encOpt_length enc1_length p
@[simp] theorem encPoint_length (p : Option Point) : (encPoint p).length = 1 := by cases p <;> rfl
@[simp] theorem encEndCause_length (c : Option EndCause) : (encEndCause c).length = 1 := by
  cases c with
  | none => rfl
  | some c => cases c <;> rfl

@[simp] theorem encStop_length (t : Option Int) : (encStop t).length = 3 := by cases t <;> rfl

@[simp] theorem encStart_length (t : Start) : (encStart t).length = 11 := by
  cases t with
  | immediate | atTime | atTemp => rfl
  | afterLeader leader threshold =>
    simp [encStart, encOpt_length encTemp_length, encOpt_length encHandle_length]

@[simp] theorem entryEnc_length (e : Entry) : e.enc.length = 6 := by simp [Entry.enc, encOpt_length enc1_length]

@[simp] theorem encSource_length (t : AlertSource) : (encSource t).length = 3 := by cases t <;> rfl

@[simp] theorem encPresent_length (t : AlertSource) : (encPresent t).length = 1 := by
  unfold encPresent
  split <;> rfl

@[simp] theorem encSlotOwner_length (s : State) (t : AlertSource) : (s.encSlotOwner t).length = 2 := by
  unfold State.encSlotOwner
  split
  · split <;> rfl
  · rfl

/-- A field repeated for each member of a list. -/
theorem flatMap_length {α : Type} {f : α → List Byte} {k : Nat} (h : ∀ x, (f x).length = k) (xs : List α) :
    (xs.flatMap f).length = k * xs.length := by
  induction xs with
  | nil => rfl
  | cons x xs ih => rw [List.flatMap_cons, List.length_append, h, ih, List.length_cons, Nat.mul_succ, Nat.add_comm]

@[simp] theorem stepRecord_length (t : Step) : t.record.length = 6 := rfl

theorem recordBody_length (c : SeqChan) {ts : List Step} (h : ts.length ≤ 8) : (recordBody c ts).length = 62 := by
  have steps := flatMap_length stepRecord_length ts
  simp only [recordBody, List.length_append, List.length_cons, List.length_nil, List.length_replicate, enc1_length, steps]
  omega

/-- Settles O14. -/
theorem layoutsHaveTheirLengths : Obligations.LayoutsHaveTheirLengths := by
  refine ⟨fun h r => ?_, fun t => ?_, fun t p => ?_, fun s e => ?_, fun c ts short => ?_⟩
  · simp [timerRecord, encOpt_length encHandle_length]
  · simp [Spl.header, Load.all]
  · simp [Spl.planRecord, Load.all]
  · simp [State.encAlert]
  · rw [programRecord, List.length_append, recordBody_length c short, enc2_length]

end Sys2Proof.Machine

/-! # The Program Memory Controller (R79, R87 to R93, R206) -/

namespace Sys2Proof.Machine

/-! ## Events that change little -/

/-- An event that touches neither the port units nor what the lines follow, and starts no pass, leaves its effect. -/
theorem event_exact {i : Instr} {s u : State} (lines : s.LinesFollow) (h : asRequest i = none) (n : i ≠ .coldReset)
    (effect : s.effect i = u) (stc : u.stc = s.stc) (serial : u.spl.serial = s.spl.serial) (entries : u.alc.entries = s.alc.entries)
    (ports : u.ports = s.ports) (pins : u.pins = s.pins) : exec i s = .next u := by
  have still : u.lines = u.pins := by
    rw [pins, show s.pins = s.lines from lines]
    exact lines_congr (by rw [stc]) (by rw [stc]) entries fun q => by rw [ports]; exact ⟨rfl, rfl⟩
  rw [exec_event h n s, effect, settle_quiet (causePresent_of_stc stc) serial, State.setLines, still]
  rfl

section
variable {who : Option Port} {s u t : State} (h : Closed who s u t)
include h

/-- Where no pass starts, everything but the Alert List, the port units and the lines is the effect's. -/
theorem Closed.frame (serial : u.spl.serial = s.spl.serial) : t = { u with alc := t.alc, ports := t.ports, pins := t.pins } := by
  have spl : t.spl = u.spl := by rw [h.pass, retaken_same serial]
  rw [← h.tbu, ← h.ptc, ← h.tme, ← h.squ, ← h.pmc, ← spl, ← h.dru, ← h.snu, ← h.stc, ← h.presence, ← h.watchdog, ← h.free,
    ← h.pending]

end

/-- An event that changes no system cause leaves the port units to its effect. -/
theorem Closed.ports {s u t : State} (h : Closed none s u t) (same : ∀ c, u.causePresent c = s.causePresent c) : t.ports = u.ports := by
  refine PerPort.eq_of_get fun q => ?_
  obtain ⟨rx, buffer, counters, mask⟩ := h.kept q
  obtain ⟨service, reply, cut⟩ := h.silent q nofun
  have posted : (t.ports.get q).posted = (u.ports.get q).posted := PerEvent.eq_of_get fun c => (h.quiet same).2 q c
  have all : t.ports.get q = ⟨(t.ports.get q).rx, (t.ports.get q).buffer, (t.ports.get q).service, (t.ports.get q).lastReply,
    (t.ports.get q).cutOff, (t.ports.get q).counters, (t.ports.get q).posted, (t.ports.get q).eventMask⟩ := rfl
  rw [all, rx, buffer, service, reply, cut, counters, posted, mask]

/-! ## A job that goes on (R88, R90, R92) -/

theorem setBus_exact {s : State} {i : Instr} {b : BusState} {g : Progress} (lines : s.LinesFollow) (h : asRequest i = none)
    (n : i ≠ .coldReset) (effect : s.effect i = s.setBus b g) :
    exec i s = .next { s with pmc := { s.pmc with bus := b, progress := g } } :=
  event_exact lines h n effect rfl rfl rfl rfl rfl

section
variable (s : State)

theorem failAttempt_again (h : s.pmc.progress.attempts < 2) :
    s.failAttempt = s.setBus .retryWait { s.pmc.progress with attempts := s.pmc.progress.attempts + 1 } :=
  if_neg (by omega)

theorem failAttempt_third (h : s.pmc.progress.attempts = 2) : s.failAttempt = s.endJob .memNack := if_pos (by omega)

/-- A burst that is in. -/
theorem burstEnd_read {k : Nat} (bus : s.pmc.bus = .transfer) (burst : s.pmc.progress.transfer = .burst k) (d : List Byte) :
    s.burstEnd (.read d) =
      let t := s.setBus .transfer
        { s.pmc.progress with transfer := .burst (k + 1), attempts := 0, bytes := s.pmc.progress.bytes ++ d }
      if k < 3 then t else t.endBursts := by
  simp only [State.burstEnd, bus, burst]

theorem burstEnd_noAck {k : Nat} (bus : s.pmc.bus = .transfer) (burst : s.pmc.progress.transfer = .burst k) :
    s.burstEnd .noAddressAck = s.failAttempt := by
  simp only [State.burstEnd, bus, burst]

theorem pageEnd_eq {k : Nat} (bus : s.pmc.bus = .transfer) (page : s.pmc.progress.transfer = .page k) (r : PageEnd) :
    s.pageEnd r = match r with
      | .written => s.setBus .pollWait { s.pmc.progress with polls := 0 }
      | .noAddressAck => s.failAttempt
      | .noDataAck => s.endJob .memNack := by
  cases r <;> simp only [State.pageEnd, bus, page]

theorem poll_acknowledged {k : Nat} (bus : s.pmc.bus = .pollWait) (page : s.pmc.progress.transfer = .page k) :
    s.poll true = s.setBus .transfer
      { s.pmc.progress with transfer := if k < 3 then .page (k + 1) else .burst 0, attempts := 0, polls := 0 } := by
  simp only [State.poll, bus, page, if_true]

theorem poll_unanswered {k : Nat} (bus : s.pmc.bus = .pollWait) (page : s.pmc.progress.transfer = .page k) :
    s.poll false = if 20 ≤ s.pmc.progress.polls + 1 then s.endJob .memTimeout
      else s.setBus .pollWait { s.pmc.progress with polls := s.pmc.progress.polls + 1 } := by
  simp only [State.poll, bus, page, Bool.false_eq_true, if_false]

end

/-- Settles O40. -/
theorem busEventsMoveTheJob : Obligations.BusEventsMoveTheJob := by
  intro s lines
  refine ⟨fun bus => ?_, fun bus => ?_, fun k d bus burst more => ?_, fun k bus burst again => ?_,
    fun k bus page => ⟨?_, fun again => ?_⟩, fun k bus page => ⟨?_, fun again => ?_⟩⟩
  · exact setBus_exact lines rfl nofun (if_pos bus)
  · exact setBus_exact lines rfl nofun (if_pos bus)
  · exact setBus_exact lines rfl nofun ((burstEnd_read s bus burst d).trans (if_pos more))
  · exact setBus_exact lines rfl nofun ((burstEnd_noAck s bus burst).trans (failAttempt_again s again))
  · exact setBus_exact lines rfl nofun (pageEnd_eq s bus page .written)
  · exact setBus_exact lines rfl nofun ((pageEnd_eq s bus page .noAddressAck).trans (failAttempt_again s again))
  · exact setBus_exact lines rfl nofun (poll_acknowledged s bus page)
  · exact setBus_exact lines rfl nofun ((poll_unanswered s bus page).trans (if_neg (by omega)))

/-! ## The end of a job (R79, R89, R93) -/

/-- What the next job's start leaves of the Program Memory Controller. -/
structure Dropped (s t : State) : Prop where
  rest : t = { s with pmc := t.pmc, free := t.free }
  jobs : t.pmc.jobs = s.pmc.jobs.tail
  results : t.pmc.results = s.pmc.results
  device : t.pmc.device = s.pmc.device
  base : t.pmc.base = s.pmc.base
  last : s.pmc.jobs.tail = [] → t.pmc.bus = .idle ∧ t.free = s.free
  next : ∀ n ns, s.pmc.jobs.tail = n :: ns → (t.pmc.bus = .transfer ∨ t.pmc.bus = .waitFree) ∧
    t.pmc.progress.transfer = n.firstTransfer ∧ t.pmc.progress.attempts = 0

theorem dropJob_dropped (s : State) : Dropped s s.dropJob := by
  unfold State.dropJob State.startJob
  dsimp only [State.setPmc_pmc]
  split
  · next empty => exact ⟨rfl, rfl, rfl, rfl, rfl, fun _ => ⟨rfl, rfl⟩, fun n ns h => by rw [empty] at h; cases h⟩
  · next n ns more =>
    refine ⟨rfl, rfl, rfl, rfl, rfl, fun h => ?_, fun m ms h => ?_⟩
    · rw [more] at h; cases h
    · rw [more] at h
      cases h
      refine ⟨?_, rfl, rfl⟩
      dsimp only [State.setFree_pmc, State.setPmc_pmc]
      split
      · exact .inl rfl
      · exact .inr rfl

/-- What a job's outcome can touch: the fault record, the channels, the port units. -/
structure Outcome (s t : State) : Prop where
  rest : t = { s with stc := { s.stc with faults := t.stc.faults, firstFault := t.stc.firstFault }
                      squ := t.squ, ports := t.ports }
  posts : PostsStay s t

theorem Outcome.refl (s : State) : Outcome s s := ⟨rfl, PostsStay.refl s⟩

theorem Outcome.trans {s t u : State} (h : Outcome s t) (k : Outcome t u) : Outcome s u := by
  refine ⟨?_, h.posts.trans k.posts⟩
  rw [k.rest, h.rest]

/-- Two operations, the later one first. -/
theorem Outcome.after {s t u : State} (k : Outcome t u) (h : Outcome s t) : Outcome s u := h.trans k

section
variable (s : State)

theorem postTo_outcome (c : EventClass) (who : Port → Bool) : Outcome s (s.postTo c who) :=
  ⟨rfl, (postTo_portsAfter s c who).postsStay⟩

theorem changeChannel_outcome (c : SeqChan) (v : Channel) : Outcome s (s.changeChannel c v) :=
  (postTo_outcome _ _ _).after ⟨rfl, PostsStay.refl s⟩

theorem latch_outcome (i : FaultId) : Outcome s (s.latch i) := by
  refine ⟨by rw [State.latch_squ]; exact s.latch_frame i, ?_⟩
  unfold State.latch
  split
  · exact PostsStay.refl s
  · exact (postTo_portsAfter (s.setStc _) _ _).postsStay

theorem changeChannel_seqChanged (c : SeqChan) (v : Channel) :
    ((s.changeChannel c v).ports.get .supervisor).posted.get .seqChanged = true := by
  simp [State.changeChannel, State.postTo_posted, State.seqAudience]

/-- What a load that ends makes of its LOADING channel. -/
structure Loaded (c : SeqChan) (issuer : Port) (v : Channel) (s t : State) : Prop where
  outcome : Outcome s t
  squ : t.squ = s.squ.set c v
  done : (t.ports.get issuer).posted.get .memoryDone = true
  heard : (t.ports.get .supervisor).posted.get .seqChanged = true

theorem Loaded.of_changed {c : SeqChan} {issuer : Port} {v : Channel} {u : State} (later : Outcome (s.changeChannel c v) u)
    (squ : u.squ = (s.changeChannel c v).squ) : Loaded c issuer v s (u.postTo .memoryDone fun q => q = issuer) := by
  refine ⟨((changeChannel_outcome s c v).trans later).trans (postTo_outcome _ _ _), squ, ?_, ?_⟩
  · rw [State.postTo_posted]; simp
  · exact (postTo_outcome u _ _).posts _ _ (later.posts _ _ (changeChannel_seqChanged s c v))

theorem loadResult_failed {c : SeqChan} (loading : (s.squ.get c).state = .loading) (index : Nat) (issuer : Port) {e : JobEnd}
    (failed : e ≠ .ok) (bytes : List Byte) :
    Loaded c issuer ((s.squ.get c).failed (if e = .memNack then .memNack else .memBus)) s (s.loadResult c index issuer e bytes) ∧
      (s.loadResult c index issuer e bytes).stc = s.stc := by
  unfold State.loadResult
  dsimp only
  rw [if_neg (not_not_intro loading)]
  cases e with
  | ok => exact absurd rfl failed
  | memNack | memTimeout | memBus | memVerify => exact ⟨.of_changed s (Outcome.refl _) rfl, rfl⟩

theorem loadResult_invalid {c : SeqChan} (loading : (s.squ.get c).state = .loading) (index : Nat) (issuer : Port)
    {bytes : List Byte} {f : FailCause} (invalid : validateRecord c bytes = .error f) :
    Loaded c issuer ((s.squ.get c).failed f) s (s.loadResult c index issuer .ok bytes) ∧
      (f = .badRecord → (s.loadResult c index issuer .ok bytes).stc.faults.get (.plain .memory) = true) ∧
      (f ≠ .badRecord → (s.loadResult c index issuer .ok bytes).stc = s.stc) := by
  unfold State.loadResult
  dsimp only
  rw [if_neg (not_not_intro loading), invalid]
  cases f with
  | badRecord =>
    refine ⟨.of_changed s (latch_outcome _ _) (by simp), fun _ => ?_, fun n => absurd rfl n⟩
    rw [State.postTo_stc, State.latch_get]
    simp
  | wrongPoint | memNack | memBus => exact ⟨.of_changed s (Outcome.refl _) rfl, nofun, fun _ => rfl⟩

theorem loadResult_valid {c : SeqChan} (loading : (s.squ.get c).state = .loading) (index : Nat) (issuer : Port)
    {bytes : List Byte} {ts : List Step} (valid : validateRecord c bytes = .ok ts) :
    Loaded c issuer ((s.squ.get c).filled ts (.library index)) s (s.loadResult c index issuer .ok bytes) ∧
      (s.loadResult c index issuer .ok bytes).stc = s.stc := by
  unfold State.loadResult
  dsimp only
  rw [if_neg (not_not_intro loading), valid]
  exact ⟨.of_changed s (Outcome.refl _) rfl, rfl⟩

end

/-- The state in which the outcome of the job in flight is handed over: MEMORY latched unless the outcome is OK, the requester's
result stored. -/
def State.concluded (s : State) (j : Job) (e : JobEnd) : State :=
  let a := if e = .ok then s else s.latch (.plain .memory)
  a.setPmc { a.pmc with results := a.pmc.results.set j.requester (some (e, j.index)) }

theorem endJob_eq {s : State} {j : Job} {js : List Job} (jobs : s.pmc.jobs = j :: js) (e : JobEnd) :
    s.endJob e = ((s.concluded j e).handOver j e).dropJob := by
  unfold State.endJob
  rw [jobs]
  rfl

section
variable (s : State) (j : Job) (e : JobEnd)

theorem concluded_rest : s.concluded j e =
    { s with stc := { s.stc with faults := (s.concluded j e).stc.faults, firstFault := (s.concluded j e).stc.firstFault }
             pmc := { s.pmc with results := s.pmc.results.set j.requester (some (e, j.index)) }
             ports := (s.concluded j e).ports } := by
  unfold State.concluded
  split
  · rfl
  · dsimp only
    rw [State.latch_pmc]
    have frame := s.latch_frame (.plain .memory)
    generalize s.latch (.plain .memory) = u at frame
    rw [frame]
    rfl

theorem concluded_stc_ok : (s.concluded j .ok) =
    s.setPmc { s.pmc with results := s.pmc.results.set j.requester (some (.ok, j.index)) } := rfl

theorem concluded_latched (failed : e ≠ .ok) : (s.concluded j e).stc.faults.get (.plain .memory) = true := by
  unfold State.concluded
  rw [if_neg failed]
  change (s.latch (.plain .memory)).stc.faults.get (.plain .memory) = true
  rw [State.latch_get]
  simp

/-- A latch posts FAULT_CHANGED and nothing else. -/
theorem latch_posted_ne (i : FaultId) (q : Port) {c : EventClass} (n : c ≠ .faultChanged) :
    ((s.latch i).ports.get q).posted.get c = (s.ports.get q).posted.get c := by
  unfold State.latch
  split
  · rfl
  · rw [State.postAll_eq, State.postTo_posted]
    simp [n]

theorem concluded_posted (q : Port) {c : EventClass} (n : c ≠ .faultChanged) :
    ((s.concluded j e).ports.get q).posted.get c = (s.ports.get q).posted.get c := by
  unfold State.concluded
  dsimp only [State.setPmc_ports]
  split
  · rfl
  · exact latch_posted_ne s _ q n

end

theorem handOver_write {s : State} {j : Job} {r : List Byte} (kind : j.kind = .write r) (e : JobEnd) :
    s.handOver j e = s.postTo .memoryDone fun q => q = .supervisor := by
  unfold State.handOver
  rw [kind]

theorem handOver_read {s : State} {j : Job} {q : Port} {c : SeqChan} (kind : j.kind = .read q) (requester : j.requester = .channel c)
    (e : JobEnd) : s.handOver j e = if j.discard then s else s.loadResult c j.index q e s.pmc.progress.bytes := by
  unfold State.handOver
  rw [kind, requester]

theorem loadResult_outcome (s : State) (c : SeqChan) (index : Nat) (issuer : Port) (e : JobEnd) (bytes : List Byte) :
    Outcome s (s.loadResult c index issuer e bytes) := by
  by_cases loading : (s.squ.get c).state = .loading
  · by_cases failed : e = .ok
    · subst failed
      cases valid : validateRecord c bytes with
      | error f => exact (loadResult_invalid s loading index issuer valid).1.outcome
      | ok ts => exact (loadResult_valid s loading index issuer valid).1.outcome
    · exact (loadResult_failed s loading index issuer failed bytes).1.outcome
  · unfold State.loadResult
    rw [if_pos loading]
    exact Outcome.refl s

theorem handOver_outcome (s : State) (j : Job) (e : JobEnd) : Outcome s (s.handOver j e) := by
  unfold State.handOver
  split
  · exact postTo_outcome s _ _
  · split
    · exact Outcome.refl s
    · exact loadResult_outcome s _ _ _ _ _
  · exact Outcome.refl s

/-- Where the job in flight ends: the event's effect on the bus, then the outcome. -/
theorem job_ends {i : Instr} {e : JobEnd} {j : Job} {js : List Job} {s : State} (jobs : s.pmc.jobs = j :: js)
    (h : i = .busFreeTimeout ∧ e = .memBus ∧ s.pmc.bus = .waitFree ∨
     i = .clockStretchTimeout ∧ e = .memBus ∧ (s.pmc.bus = .transfer ∨ s.pmc.bus = .pollWait) ∨
     (∃ k, i = .readBurstEnd .noAddressAck ∧ e = .memNack ∧ s.pmc.bus = .transfer ∧
       s.pmc.progress.transfer = .burst k ∧ s.pmc.progress.attempts = 2) ∨
     (∃ k, (i = .pageWriteEnd .noDataAck ∨ i = .pageWriteEnd .noAddressAck ∧ s.pmc.progress.attempts = 2) ∧ e = .memNack ∧
       s.pmc.bus = .transfer ∧ s.pmc.progress.transfer = .page k) ∨
     (∃ k, i = .writePoll false ∧ e = .memTimeout ∧ s.pmc.bus = .pollWait ∧ s.pmc.progress.transfer = .page k ∧
       s.pmc.progress.polls = 19) ∨
     (∃ d, i = .readBurstEnd (.read d) ∧ s.pmc.bus = .transfer ∧ s.pmc.progress.transfer = .burst 3 ∧
       e = match j.kind with
         | .write r => if s.pmc.progress.bytes ++ d = r then .ok else .memVerify
         | .read _ => .ok)) :
    asRequest i = none ∧ i ≠ .coldReset ∧ ∃ b g, s.effect i = (s.setBus b g).endJob e ∧
      ∀ d, i = .readBurstEnd (.read d) → g.bytes = s.pmc.progress.bytes ++ d := by
  obtain ⟨rfl, rfl, bus⟩ | ⟨rfl, rfl, bus⟩ | ⟨k, rfl, rfl, bus, burst, third⟩ | ⟨k, how, rfl, bus, page⟩ |
    ⟨k, rfl, rfl, bus, page, last⟩ | ⟨d, rfl, bus, burst, rfl⟩ := h
  · exact ⟨rfl, nofun, _, s.pmc.progress, if_pos bus, nofun⟩
  · exact ⟨rfl, nofun, _, s.pmc.progress, if_pos bus, nofun⟩
  · exact ⟨rfl, nofun, _, s.pmc.progress, (burstEnd_noAck s bus burst).trans (failAttempt_third s third), nofun⟩
  · obtain rfl | ⟨rfl, third⟩ := how
    · exact ⟨rfl, nofun, _, s.pmc.progress, pageEnd_eq s bus page .noDataAck, nofun⟩
    · exact ⟨rfl, nofun, _, s.pmc.progress, (pageEnd_eq s bus page .noAddressAck).trans (failAttempt_third s third), nofun⟩
  · exact ⟨rfl, nofun, _, s.pmc.progress, (poll_unanswered s bus page).trans (if_pos (by omega)), nofun⟩
  · refine ⟨rfl, nofun, .transfer,
      { s.pmc.progress with transfer := .burst 4, attempts := 0, bytes := s.pmc.progress.bytes ++ d }, ?_, ?_⟩
    · refine (burstEnd_read s bus burst d).trans ?_
      dsimp only
      rw [if_neg (Nat.lt_irrefl 3)]
      unfold State.endBursts
      have kept : (s.setBus .transfer
        { s.pmc.progress with transfer := .burst 4, attempts := 0, bytes := s.pmc.progress.bytes ++ d }).pmc.jobs = j :: js := jobs
      obtain ⟨kind, index, requester, discard⟩ := j
      rw [kept]
      cases kind <;> rfl
    · intro d' same
      cases same
      rfl

/-- What the end of the job in flight leaves, whatever its outcome: `v` is the state the event left, `u` the one in which the
outcome has been handed over. -/
structure JobEnded (j : Job) (e : JobEnd) (js : List Job) (s u t : State) : Prop where
  rest : t = { s with stc := { s.stc with faults := t.stc.faults, firstFault := t.stc.firstFault }
                      squ := t.squ, pmc := t.pmc, alc := t.alc, ports := t.ports, free := t.free, pins := t.pins }
  results : t.pmc.results = s.pmc.results.set j.requester (some (e, j.index))
  jobs : t.pmc.jobs = js
  device : t.pmc.device = s.pmc.device
  base : t.pmc.base = s.pmc.base
  last : js = [] → t.pmc.bus = .idle ∧ t.free = s.free
  next : ∀ n ns, js = n :: ns → (t.pmc.bus = .transfer ∨ t.pmc.bus = .waitFree) ∧
    t.pmc.progress.transfer = n.firstTransfer ∧ t.pmc.progress.attempts = 0
  squ : t.squ = u.squ
  stc : t.stc = u.stc
  posted : ∀ q c, c ≠ .alertChanged → (t.ports.get q).posted.get c = (u.ports.get q).posted.get c
  quiet : u.stc = s.stc → t.alc = s.alc ∧ t.ports = u.ports

theorem endJob_ended {s t : State} {b : BusState} {g : Progress} {j : Job} {js : List Job} {e : JobEnd}
    (jobs : s.pmc.jobs = j :: js) (closed : Closed none s ((s.setBus b g).endJob e) t) :
    JobEnded j e js s (((s.setBus b g).concluded j e).handOver j e) t := by
  have eq := endJob_eq (s := s.setBus b g) (j := j) (js := js) jobs e
  have before := concluded_rest (s.setBus b g) j e
  have handed := (handOver_outcome ((s.setBus b g).concluded j e) j e).rest
  generalize ((s.setBus b g).concluded j e).handOver j e = u at eq handed
  generalize (s.setBus b g).concluded j e = v at before handed
  rw [eq] at closed
  obtain ⟨rest, dropped, results, device, base, last, next⟩ := dropJob_dropped u
  generalize u.dropJob = w at closed rest dropped results device base last next
  have pmc : u.pmc = { (s.setBus b g).pmc with results := s.pmc.results.set j.requester (some (e, j.index)) } := by
    rw [handed, before]
    rfl
  have tail : u.pmc.jobs.tail = js := by
    rw [pmc]
    change s.pmc.jobs.tail = js
    rw [jobs]
    rfl
  have kept : ∀ {α : Type} (f : State → α), f w = f _ := fun f => congrArg f rest
  have serial : w.spl.serial = s.spl.serial := by rw [rest, handed, before]; rfl
  refine ⟨?_, ?_, ?_, ?_, ?_, ?_, ?_, ?_, ?_, ?_, ?_⟩
  · have frame := closed.frame serial
    have whole : w = { s with stc := { s.stc with faults := w.stc.faults, firstFault := w.stc.firstFault }
                              squ := w.squ, pmc := w.pmc, ports := w.ports, free := w.free } := by
      rw [rest, handed, before]
      rfl
    rw [closed.stc, closed.squ, closed.pmc, closed.free]
    exact frame.trans (congrArg (fun x : State => { x with alc := t.alc, ports := t.ports, pins := t.pins }) whole)
  · rw [closed.pmc, results, pmc]
  · rw [closed.pmc, dropped, tail]
  · rw [closed.pmc, device, pmc]; rfl
  · rw [closed.pmc, base, pmc]; rfl
  · intro empty
    obtain ⟨idle, free⟩ := last (tail.trans empty)
    refine ⟨by rw [closed.pmc, idle], ?_⟩
    rw [closed.free, free, handed, before]
    rfl
  · intro n ns more
    rw [closed.pmc]
    exact next n ns (tail.trans more)
  · rw [closed.squ, rest]
  · rw [closed.stc, rest]
  · intro q c n
    rw [closed.posted q c n, rest]
  · intro same
    have causes : ∀ c, w.causePresent c = s.causePresent c := causePresent_of_stc (by rw [rest]; exact same)
    refine ⟨?_, ?_⟩
    · rw [(closed.quiet causes).1, rest, handed, before]; rfl
    · rw [closed.ports causes, rest]

/-- What the state in which the outcome is handed over has of the state before the event. -/
structure Concluded (j : Job) (e : JobEnd) (g : Progress) (s v : State) : Prop where
  squ : v.squ = s.squ
  progress : v.pmc.progress = g
  kept : ∀ q c, c ≠ .faultChanged → (v.ports.get q).posted.get c = (s.ports.get q).posted.get c
  same : e = .ok → v.stc = s.stc ∧ v.ports = s.ports
  latched : e ≠ .ok → v.stc.faults.get (.plain .memory) = true

theorem concluded_facts (s : State) (b : BusState) (g : Progress) (j : Job) (e : JobEnd) :
    Concluded j e g s ((s.setBus b g).concluded j e) := by
  have rest := concluded_rest (s.setBus b g) j e
  refine ⟨by rw [rest]; rfl, by rw [rest]; rfl, fun q c n => concluded_posted (s.setBus b g) j e q n, ?_,
    concluded_latched (s.setBus b g) j e⟩
  rintro rfl
  exact ⟨rfl, rfl⟩

theorem handOver_failed_stc (s : State) (j : Job) {e : JobEnd} (failed : e ≠ .ok) : (s.handOver j e).stc = s.stc := by
  unfold State.handOver
  split
  · rfl
  · split
    · rfl
    · next c _ _ _ =>
      by_cases loading : (s.squ.get c).state = .loading
      · exact (loadResult_failed s loading _ _ failed _).2
      · unfold State.loadResult
        rw [if_pos loading]
  · rfl

/-- Settles O41. -/
theorem jobsFailWithAnOutcome : Obligations.JobsFailWithAnOutcome := by
  intro i e j js s jobs how
  have ends := job_ends (i := i) (e := e) jobs (by
    obtain h | h | h | h | h | ⟨r, d, hi, kind, bus, burst, he⟩ | ⟨q, c, d, f, hi, kind, -, -, -, bus, burst, -, he⟩ |
      ⟨q, c, d, hi, kind, -, -, bus, burst, he⟩ := how
    · exact .inl h
    · exact .inr (.inl h)
    · exact .inr (.inr (.inl h))
    · exact .inr (.inr (.inr (.inl h)))
    · exact .inr (.inr (.inr (.inr (.inl h))))
    · exact .inr (.inr (.inr (.inr (.inr ⟨d, hi, bus, burst, by rw [kind]; exact he⟩))))
    · exact .inr (.inr (.inr (.inr (.inr ⟨d, hi, bus, burst, by rw [kind]; exact he⟩))))
    · exact .inr (.inr (.inr (.inr (.inr ⟨d, hi, bus, burst, by rw [kind]; exact he⟩)))))
  obtain ⟨event, cold, b, g, effect, bytes⟩ := ends
  have invalid : ∀ q c, e = .ok → j.kind = .read q → j.requester = .channel c → j.discard = false →
      ∃ f, validateRecord c g.bytes = .error f := by
    intro q c ok kind requester held
    obtain ⟨-, rfl, -⟩ | ⟨-, rfl, -⟩ | ⟨_, -, rfl, -⟩ | ⟨_, -, rfl, -⟩ | ⟨_, -, rfl, -⟩ | ⟨r, d, hi, write, -⟩ |
      ⟨q', c', d, f, hi, -, requester', -, -, -, -, bad, -⟩ | ⟨_, _, _, -, -, -, gone, -⟩ := how
    · cases ok
    · cases ok
    · cases ok
    · cases ok
    · cases ok
    · rw [kind] at write; cases write
    · rw [requester] at requester'
      cases requester'
      exact ⟨f, by rw [bytes d hi]; exact bad⟩
    · rw [held] at gone; cases gone
  obtain ⟨t, ran, closed⟩ := event_closed event cold s
  rw [effect] at closed
  have ended := endJob_ended jobs closed
  have concluded := concluded_facts s b g j e
  generalize (s.setBus b g).concluded j e = v at ended concluded
  obtain ⟨squ, progress, kept, same, latched⟩ := concluded
  refine ⟨t, ran, fun failed => ?_, fun r kind ok => ?_, ended.results, ended.jobs, ended.device, ended.base, ended.last, ended.next,
    fun r kind => ?_, fun q c kind requester held loading => ?_, fun q c kind requester gone => ?_, ended.rest⟩
  · rw [ended.stc, handOver_failed_stc v j failed]
    exact latched failed
  · rw [ended.stc, handOver_write kind, State.postTo_stc]
    exact (same ok).1
  · rw [ended.squ, handOver_write kind]
    refine ⟨squ, ?_⟩
    have posted := ended.posted .supervisor .memoryDone nofun
    rw [handOver_write kind, State.postTo_posted] at posted
    exact posted.trans (by simp)
  · have hand : v.handOver j e = v.loadResult c j.index q e g.bytes := by rw [handOver_read kind requester, held, progress]; rfl
    rw [hand] at ended
    have loadingV : (v.squ.get c).state = .loading := by rw [squ]; exact loading
    have heard : ∀ {w}, Loaded c q w v (v.loadResult c j.index q e g.bytes) →
        (t.ports.get q).posted.memoryDone = true ∧ (t.ports.get .supervisor).posted.seqChanged = true := fun loaded =>
      ⟨(ended.posted q .memoryDone nofun).trans loaded.done, (ended.posted .supervisor .seqChanged nofun).trans loaded.heard⟩
    have changed : ∀ {f}, Loaded c q ((v.squ.get c).failed f) v (v.loadResult c j.index q e g.bytes) →
        t.squ = s.squ.set c ((s.squ.get c).failed f) := fun loaded => by rw [ended.squ, loaded.squ, squ]
    by_cases ok : e = .ok
    · subst ok
      obtain ⟨f, valid⟩ := invalid q c rfl kind requester held
      obtain ⟨loaded, bad, other⟩ := loadResult_invalid v loadingV j.index q valid
      have fails := changed loaded
      rw [fails]
      simp only [PerSeq.get_set_self, Channel.failed]
      refine ⟨trivial, fun n => absurd rfl n, fun d f' _ hi wrong => ?_, heard loaded⟩
      rw [← bytes d hi, valid] at wrong
      cases wrong
      refine ⟨rfl, fun isBad => ?_, fun notBad => ?_⟩
      · rw [ended.stc]; exact bad isBad
      · rw [ended.stc, other notBad]; exact (same rfl).1
    · obtain ⟨loaded, -⟩ := loadResult_failed v loadingV j.index q ok g.bytes
      have fails := changed loaded
      rw [fails]
      simp only [PerSeq.get_set_self, Channel.failed]
      exact ⟨trivial, fun _ => trivial, fun _ _ n => absurd n ok, heard loaded⟩
  · have hand : v.handOver j e = v := by rw [handOver_read kind requester, gone]; rfl
    rw [hand] at ended
    refine ⟨ended.squ.trans squ, fun ok => ?_, fun p => ?_⟩
    · obtain ⟨stc, ports⟩ := same ok
      obtain ⟨alc, ports'⟩ := ended.quiet stc
      exact ⟨ended.stc.trans stc, alc, ports'.trans ports⟩
    · exact ⟨(ended.posted p .memoryDone nofun).trans (kept p _ nofun), (ended.posted p .seqChanged nofun).trans (kept p _ nofun)⟩

end Sys2Proof.Machine

/-! # Program records read back (R79, R90, R206) -/

namespace Sys2Proof.Machine

/-! ## Bytes -/

theorem byteOf_toNat {n : Nat} (h : n < 256) : (byteOf n).toNat = n := by
  rw [BitVec.toNat_ofNat]; exact Nat.mod_eq_of_lt h

theorem dec3_enc3 {n : Nat} (h : n < 16777216) : dec3 (byteOf (n / 65536)) (byteOf (n / 256)) (byteOf n) = n := by
  simp only [dec3, BitVec.toNat_ofNat]
  omega

theorem dec2_crc (c : BitVec 16) : BitVec.ofNat 16 (dec2 (byteOf (c.toNat / 256)) (byteOf c.toNat)) = c := by
  have small := c.isLt
  refine BitVec.eq_of_toNat_eq ?_
  simp only [dec2, BitVec.toNat_ofNat]
  omega

/-- The fields of one size, one after another, read by field and place. -/
theorem getD_flatMap {α : Type} {f : α → List Byte} {n : Nat} (size : ∀ x, (f x).length = n) {j : Nat} (within : j < n) :
    ∀ (xs : List α) {k : Nat} {x : α}, xs[k]? = some x → (xs.flatMap f).getD (n * k + j) 0 = (f x).getD j 0
  | [], k, x, h => by simp at h
  | y :: ys, 0, x, h => by
    cases h
    rw [List.flatMap_cons, Nat.mul_zero, Nat.zero_add, List.getD_append _ _ _ _ (by rw [size]; exact within)]
  | y :: ys, k + 1, x, h => by
    rw [List.flatMap_cons, List.getD_append_right _ _ _ _ (by rw [size, Nat.mul_succ]; omega), size,
      show n * (k + 1) + j - n = n * k + j by rw [Nat.mul_succ]; omega]
    exact getD_flatMap size within ys h

/-! ## A record and its steps -/

theorem recordBody_eq (c : SeqChan) (ts : List Step) : recordBody c ts =
    [0x5C, recordKind c, byteOf ts.length] ++ (ts.flatMap Step.record ++
      List.replicate (62 - ([0x5C, recordKind c] ++ enc1 ts.length ++ ts.flatMap Step.record).length) 0) := by
  simp only [recordBody, enc1, List.append_assoc]
  rfl

theorem programRecord_head (c : SeqChan) (ts : List Step) :
    (programRecord c ts).getD 0 0 = 0x5C ∧ (programRecord c ts).getD 1 0 = recordKind c ∧
      (programRecord c ts).getD 2 0 = byteOf ts.length := by
  rw [programRecord, recordBody_eq]
  exact ⟨rfl, rfl, rfl⟩

theorem programRecord_step (c : SeqChan) {ts : List Step} {k j : Nat} {t : Step} (found : ts[k]? = some t) (within : j < 6) :
    (programRecord c ts).getD (3 + 6 * k + j) 0 = t.record.getD j 0 := by
  have place : k < ts.length := (List.getElem?_eq_some_iff.1 found).1
  have steps := flatMap_length stepRecord_length ts
  have inside : 6 * k + j < (ts.flatMap Step.record).length := by rw [steps]; omega
  rw [programRecord, recordBody_eq, List.append_assoc, List.getD_append_right _ _ _ _ (by simp; omega),
    show 3 + 6 * k + j - List.length [0x5C, recordKind c, byteOf ts.length] = 6 * k + j by simp; omega, List.append_assoc,
    List.getD_append _ _ _ _ inside]
  exact getD_flatMap stepRecord_length within ts found

/-- A step that SEQ_STORE and LIB_WRITE allow on a channel (R77, R91). -/
def Step.allowed (c : SeqChan) (t : Step) : Prop :=
  1 ≤ t.duration ∧ t.duration ≤ 86399 ∧ t.mask.toNat &&& c.maskBits = t.mask.toNat ∧ t.cap ≤ 100

theorem recordStep_programRecord {c : SeqChan} {ts : List Step} {k : Nat} {t : Step} (found : ts[k]? = some t) (ok : t.allowed c) :
    recordStep c (programRecord c ts) k = some t := by
  obtain ⟨low, high, mask, cap⟩ := ok
  have byte := fun j (h : j < 6) => programRecord_step c found h
  have duration : dec3 ((programRecord c ts).getD (3 + 6 * k + 0) 0) ((programRecord c ts).getD (3 + 6 * k + 1) 0)
      ((programRecord c ts).getD (3 + 6 * k + 2) 0) = t.duration := by
    rw [byte 0 (by omega), byte 1 (by omega), byte 2 (by omega)]
    exact dec3_enc3 (by omega)
  have maskByte : (programRecord c ts).getD (3 + 6 * k + 3) 0 = t.mask := by rw [byte 3 (by omega)]; rfl
  have capByte : ((programRecord c ts).getD (3 + 6 * k + 4) 0).toNat = t.cap := by
    rw [byte 4 (by omega)]; exact byteOf_toNat (by omega)
  have actionByte : EndAction.ofCode ((programRecord c ts).getD (3 + 6 * k + 5) 0).toNat = some t.action := by
    rw [byte 5 (by omega)]
    change EndAction.ofCode (byteOf t.action.code).toNat = _
    cases t.action <;> rfl
  have valid : ¬ (t.duration = 0 ∨ Config.maxSeconds < t.duration ∨ t.mask.toNat &&& c.maskBits ≠ t.mask.toNat ∨ 100 < t.cap) := by
    have : Config.maxSeconds = 86399 := rfl
    simp only [mask, ne_eq, not_true_eq_false, false_or]
    omega
  unfold recordStep
  simp only [duration, maskByte, capByte, actionByte]
  rw [if_neg valid]
  rfl

/-- A list read place by place. -/
theorem mapM_range {α : Type} {f : Nat → Option α} : ∀ {xs : List α}, (∀ k x, xs[k]? = some x → f k = some x) →
    (List.range xs.length).mapM f = some xs := by
  have all : ∀ (ns : List Nat) (g : Nat → α), (∀ n ∈ ns, f n = some (g n)) → ns.mapM f = some (ns.map g) := by
    intro ns g
    induction ns with
    | nil => intro _; rfl
    | cons n ns ih =>
      intro h
      rw [List.mapM_cons, h n (List.mem_cons_self ..), ih fun m hm => h m (List.mem_cons_of_mem _ hm)]
      rfl
  intro xs h
  cases xs with
  | nil => rfl
  | cons y ys =>
    rw [all _ (fun k => ((y :: ys)[k]?).getD y) fun n hn => ?_]
    · refine congrArg some (List.ext_getElem (by simp) fun k h₁ h₂ => ?_)
      simp [List.getElem?_eq_getElem h₂]
    · have inside := List.mem_range.1 hn
      rw [List.getElem?_eq_getElem inside]
      exact h n _ (List.getElem?_eq_getElem inside)

theorem validateRecord_programRecord {c : SeqChan} {ts : List Step} (some_ : 1 ≤ ts.length) (short : ts.length ≤ 8)
    (ok : ∀ t ∈ ts, t.allowed c) : validateRecord c (programRecord c ts) = .ok ts := by
  have length := recordBody_length c short
  have body : (programRecord c ts).take 62 = recordBody c ts := by
    rw [programRecord, List.take_append_of_le_length (by rw [length]), List.take_of_length_le (by rw [length])]
  have hi : (programRecord c ts).getD 62 0 = byteOf ((crc16 (recordBody c ts)).toNat / 256) := by
    rw [programRecord, List.getD_append_right _ _ _ _ (by rw [length]), length]; rfl
  have lo : (programRecord c ts).getD 63 0 = byteOf (crc16 (recordBody c ts)).toNat := by
    rw [programRecord, List.getD_append_right _ _ _ _ (by rw [length]; omega), length]; rfl
  obtain ⟨first, kind, count⟩ := programRecord_head c ts
  have steps : (List.range ts.length).mapM (recordStep c (programRecord c ts)) = some ts :=
    mapM_range fun k t found => recordStep_programRecord found (ok t (List.mem_of_getElem? found))
  unfold validateRecord
  simp only [body, hi, lo, dec2_crc, first, kind, count, byteOf_toNat (show ts.length < 256 by omega), steps]
  rw [if_neg (not_not_intro rfl), if_neg (not_not_intro rfl), if_neg (not_not_intro rfl), if_neg (by omega)]

/-- Settles O42. -/
theorem programsReadBack : Obligations.ProgramsReadBack := by
  intro c ts some_ short ok
  have valid := validateRecord_programRecord some_ short ok
  refine ⟨valid, fun i q js d s jobs bus burst record loading => ?_⟩
  obtain ⟨event, cold, b, g, effect, bytes⟩ := job_ends (i := .readBurstEnd (.read d)) (e := .ok) jobs
    (.inr (.inr (.inr (.inr (.inr ⟨d, rfl, bus, burst, rfl⟩)))))
  obtain ⟨t, ran, closed⟩ := event_closed event cold s
  rw [effect] at closed
  have ended := endJob_ended jobs closed
  have concluded := concluded_facts s b g { kind := .read q, index := i, requester := .channel c, discard := false } .ok
  generalize (s.setBus b g).concluded _ .ok = v at ended concluded
  obtain ⟨squ, progress, -, same, -⟩ := concluded
  rw [handOver_read rfl rfl, progress, bytes d rfl, record] at ended
  have loadingV : (v.squ.get c).state = .loading := by rw [squ]; exact loading
  obtain ⟨loaded, stc⟩ := loadResult_valid v loadingV i q valid
  change JobEnded _ _ _ s (v.loadResult c i q .ok (programRecord c ts)) t at ended
  generalize v.loadResult c i q .ok (programRecord c ts) = u at ended loaded stc
  have stays : u.stc = s.stc := stc.trans (same rfl).1
  refine ⟨t, ran, ?_, ended.results, ended.jobs, (ended.posted q .memoryDone nofun).trans loaded.done,
    (ended.posted .supervisor .seqChanged nofun).trans loaded.heard, ?_⟩
  · rw [ended.squ, loaded.squ, squ]; rfl
  · have rest := ended.rest
    rw [ended.stc, stays, (ended.quiet stays).1] at rest
    exact rest

end Sys2Proof.Machine

/-! # The Timebase Unit (R1 to R19) -/

namespace Sys2Proof.Machine

/-! ## CFG_TIMEBASE (R9, R19) -/

/-- Posting a class where `changed` holds, and nothing else to any port. -/
theorem post_if_portsAfter {s u : State} (c : EventClass) (changed : Bool) (ports : u.ports = s.ports) :
    PortsAfter none (fun _ d => d = c && changed) s (if changed then u.postAll c else u) := by
  cases changed with
  | true =>
    exact (postTo_portsAfter u c fun _ => true).congr ports.symm rfl fun _ _ => rfl
  | false =>
    exact (PortsAfter.refl none s).congr rfl ports fun _ _ => Bool.and_false _

section
variable (s : State)

theorem setOverride_eq (v : Option Nominal) :
    s.setOverride v =
      if (s.tbu.override v).nominal ≠ s.tbu.nominal || (s.tbu.override v).detected ≠ s.tbu.detected then
        (s.setTbu (s.tbu.override v)).postAll .timebaseChanged
      else s.setTbu (s.tbu.override v) := by
  unfold State.setOverride
  dsimp only [State.setTbu_tbu]
  by_cases same : (s.tbu.override v).nominal = s.tbu.nominal <;>
    by_cases still : (s.tbu.override v).detected = s.tbu.detected <;> simp [same, still]

theorem setOverride_rest (v : Option Nominal) :
    s.setOverride v = { s with tbu := s.tbu.override v, ports := (s.setOverride v).ports } := by
  rw [setOverride_eq]
  split <;> rfl

theorem setOverride_portsAfter (v : Option Nominal) :
    PortsAfter none (fun _ c => c = .timebaseChanged &&
      ((s.tbu.override v).nominal ≠ s.tbu.nominal || (s.tbu.override v).detected ≠ s.tbu.detected)) s (s.setOverride v) := by
  rw [setOverride_eq]
  exact post_if_portsAfter .timebaseChanged _ rfl

/-- CFG_TIMEBASE that carries an override and a tolerance, in CONFIG. -/
theorem takeCfgTimebase_override {mode : Nat} {v : Option Nominal} (op : s.stc.op = .config) (code : overrideOfCode mode = some v)
    (w : Nat) : s.takeCfgTimebase (some mode) (some w) =
      ((s.setOverride v).setTbu { s.tbu.override v with tolerance := clampNat 1 60 w }).taken [] := by
  have tbu : (s.setOverride v).tbu = s.tbu.override v := by rw [setOverride_rest]
  simp [State.takeCfgTimebase, State.checked, firstFailure, op, code, State.storeTimebase, tbu]

theorem takeCfgTimebase_tolerance (op : s.stc.op ≠ .lockout) (w : Nat) : s.takeCfgTimebase none (some w) =
    (s.setTbu { s.tbu with tolerance := clampNat 1 60 w }).taken [] := by
  simp [State.takeCfgTimebase, State.checked, firstFailure, op, State.storeTimebase]

theorem takeCfgTimebase_refused {mode : Nat} {v : Option Nominal} (op : s.stc.op ≠ .config) (open_ : s.stc.op ≠ .lockout)
    (code : overrideOfCode mode = some v) (tol : Option Nat) : s.takeCfgTimebase (some mode) tol = s.refuse .refusedState := by
  simp [State.takeCfgTimebase, State.checked, firstFailure, op, open_, code]

end

theorem override_auto (t : Tbu) : t.override none =
    { t with
      forced := none
      detected := if t.source = .mains then t.nominal else none
      window := t.window.map fun v =>
        { v with detect := v.detect && t.ended.isSome, known := v.known && (t.override none).nominal.isSome }
      ended := t.ended.map fun e =>
        (e.1, { e.2 with detect := false, known := e.2.known && (t.override none).nominal.isSome }) } := by
  cases ended : t.ended <;> cases window : t.window <;>
    simp [Tbu.override, Tbu.skipWindow, Tbu.forgetKnown, Tbu.mapWindows, Tbu.nominal, ended, window]

/-- CFG_TIMEBASE that carries an override, taken. -/
theorem cfgTimebase_override {s : State} {mode : Nat} {v : Option Nominal} (busy : s.stc.op ≠ .selftest) (op : s.stc.op = .config)
    (code : overrideOfCode mode = some v) (w : Nat) :
    ∃ t, exec (.cfgTimebase .supervisor (some mode) (some w)) s = .next t ∧
      t = { s with tbu := { s.tbu.override v with tolerance := clampNat 1 60 w }, ports := t.ports, pins := t.pins } ∧
      PortsAfter (some .supervisor) (fun _ c => c = .timebaseChanged &&
        ((s.tbu.override v).nominal ≠ s.tbu.nominal || (s.tbu.override v).detected ≠ s.tbu.detected)) s t ∧
      t.Replied .supervisor 0xC5 .ok [] := by
  have rest := setOverride_rest s v
  obtain ⟨t, next, eq, -, posted, replied⟩ := request_taken (i := .cfgTimebase .supervisor (some mode) (some w)) (code := 0x45)
    (dispatch_supervisor _ busy) (takeCfgTimebase_override s op code w) (causePresent_of_stc (by rw [rest]; rfl))
    (by rw [rest]; rfl) ((setOverride_portsAfter s v).congr rfl rfl fun _ _ => rfl)
  refine ⟨t, next, ?_, posted, replied⟩
  rw [rest] at eq
  exact eq

/-- Settles O16. -/
theorem cfgTimebaseIsTaken : Obligations.CfgTimebaseIsTaken := by
  intro w s lines busy open_
  refine ⟨?_, fun mode modes tol op => ?_, fun op n => ?_, fun op => ?_⟩
  · exact request_stored (i := .cfgTimebase .supervisor none (some w)) (code := 0x45) lines (dispatch_supervisor _ busy)
      (takeCfgTimebase_tolerance s open_ w) rfl rfl rfl rfl rfl
  · have code : ∃ v, overrideOfCode mode = some v := by
      simp only [List.mem_cons, List.not_mem_nil, or_false] at modes
      rcases modes with rfl | rfl | rfl <;> exact ⟨_, rfl⟩
    obtain ⟨v, code⟩ := code
    exact request_onlyReplied (i := .cfgTimebase .supervisor (some mode) tol) (code := 0x45) lines
      ((dispatch_supervisor _ busy).trans (takeCfgTimebase_refused s op open_ code tol))
  · have code : overrideOfCode (if n = .hz50 then 1 else 2) = some (some n) := by cases n <;> rfl
    obtain ⟨t, next, eq, posted, replied⟩ := cfgTimebase_override busy op code w
    refine ⟨t, next, eq, posted.congr rfl rfl fun _ c => ?_, replied⟩
    have nominal : (s.tbu.override (some n)).nominal = some n := rfl
    have detected : (s.tbu.override (some n)).detected = s.tbu.detected := rfl
    rw [nominal, detected]
    simp [eq_comm]
  · obtain ⟨t, next, eq, posted, replied⟩ := cfgTimebase_override (mode := 0) (v := none) busy op rfl w
    have tbu : t.tbu = { s.tbu.override none with tolerance := clampNat 1 60 w } := by rw [eq]
    have nominal : t.tbu.nominal = (s.tbu.override none).nominal := by rw [tbu]; rfl
    have detected : t.tbu.detected = (s.tbu.override none).detected := by rw [tbu]
    refine ⟨t, next, ?_, ?_, replied⟩
    · rw [nominal]
      rw [override_auto] at eq
      exact eq
    · rw [nominal, detected]
      exact posted

end Sys2Proof.Machine

/-! # Hold causes that join, and source switches (R13 to R15, R173) -/

namespace Sys2Proof.Machine

theorem ControlFrame.refl (s : State) : ControlFrame s s := ⟨rfl, ⟨rfl, rfl⟩, rfl, rfl, .inl rfl, rfl⟩

/-- Closing a command keeps a frame. -/
theorem ControlFrame.closed {who : Option Port} {s u v t : State} (h : ControlFrame v u) (closed : Closed who s u t) :
    ControlFrame v t := by
  obtain ⟨planner, points, drive, alerts, timers, rest⟩ := h
  unfold PlannerKept at planner
  have alc : t.alc = { v.alc with entries := t.alc.entries } := by rw [closed.alerts, alerts]
  refine ⟨?_, ?_, ?_, alc, ?_, ?_⟩
  · unfold PlannerKept
    rw [closed.pass]
    dsimp only
    rw [planner]
  · unfold DemandKept; rw [closed.ptc]; exact points
  · unfold DriveKept; rw [closed.dru]; exact drive
  · rw [closed.tme]; exact timers
  · have whole : t = { u with spl := t.spl, alc := t.alc, ports := t.ports, pins := t.pins } := by
      rw [← closed.tbu, ← closed.ptc, ← closed.tme, ← closed.squ, ← closed.pmc, ← closed.dru, ← closed.snu, ← closed.stc,
        ← closed.presence, ← closed.watchdog, ← closed.free, ← closed.pending]
    rw [rest] at whole
    rw [closed.ptc, closed.tme, closed.dru, closed.stc]
    exact whole

/-! ## A hold cause that joins (R173) -/

/-- What the arrival of a hold cause leaves. -/
structure Joined (h : Hold) (s t : State) : Prop where
  holds : t.stc.holds = s.stc.holds.set h true
  faults : t.stc.faults = s.stc.faults ∧ t.stc.firstFault = s.stc.firstFault
  run : s.stc.op = .run → s.stc.noHold = true → t.stc.op = .hold
  frame : ControlFrame s t
  posts : PostsStay s t
  stays : s.stc.op ≠ .run → t = { s with stc := { s.stc with holds := t.stc.holds }, ports := t.ports }

theorem storeHolds_postsStay (s : State) (v : PerHold Bool) : PostsStay s (s.storeHolds v) :=
  (postTo_portsAfter (s.setStc { s.stc with holds := v }) _ _).postsStay

theorem enterState_postsStay (s : State) (op : OpState) : PostsStay s (s.enterState op) := by
  have stamped : PostsStay s (s.stamped op) := by
    have posted : PostsStay s ((s.setStc { s.stc with op := op, enteredAt := s.tbu.seconds }).postAll .stateChanged) :=
      (postTo_portsAfter (s.setStc _) _ _).postsStay
    unfold State.stamped
    dsimp only
    split
    · exact posted
    · exact posted.trans (abortTest_postsStay _)
  have before : (s.enteredBeforeGates op).ports = (s.stamped op).ports := by
    unfold State.enteredBeforeGates State.setMasters
    rw [State.setTme_ports, State.setDru_ports]
  exact (stamped.trans (PostsStay.of_ports before)).trans
    (enterState_keeps s op PostsStay haltGates_postsStay unhaltGates_postsStay)

theorem addHold_joined (s : State) (h : Hold) : Joined h s (s.addHold h) := by
  have holds := State.addHold_holds s h
  have faults := addHold_faults s h
  have run : s.stc.op = .run → s.stc.noHold = true → (s.addHold h).stc.op = .hold := fun op clear => by
    rw [State.addHold_op, if_pos ⟨op, clear, (noHold_iff s.stc).1 clear h⟩]
  obtain eq | eq | ⟨op, eq⟩ := addHold_stays_or_enters s h
  · refine ⟨holds, faults, run, ?_, ?_, fun _ => ?_⟩ <;> rw [eq]
    · exact ControlFrame.refl s
    · exact PostsStay.refl s
  · refine ⟨holds, faults, run, ?_, ?_, fun _ => ?_⟩ <;> rw [eq]
    · exact ⟨rfl, ⟨rfl, rfl⟩, rfl, rfl, .inl rfl, rfl⟩
    · exact storeHolds_postsStay s _
    · rfl
  · refine ⟨holds, faults, run, ?_, ?_, fun other => absurd op other⟩ <;> rw [eq]
    · have stored : s.storeHolds (s.stc.holds.set h true) =
          { s with stc := { s.stc with holds := s.stc.holds.set h true }
                   ports := (s.storeHolds (s.stc.holds.set h true)).ports } := rfl
      have control := enterState_controlFrame (s.storeHolds (s.stc.holds.set h true)) .hold
      generalize (s.storeHolds (s.stc.holds.set h true)).enterState .hold = t at control
      rw [stored] at control
      exact control.of_stc_ports
    · exact (storeHolds_postsStay s _).trans (enterState_postsStay _ _)

/-! ## A source switch (R14, R15) -/

/-- What a source switch leaves. -/
structure Switched (src : Source) (s t : State) : Prop where
  tbu : t.tbu = s.tbu.switched src
  faults : ∀ i, s.stc.faults.get i = true → t.stc.faults.get i = true
  frame : ControlFrame (s.setTbu (s.tbu.switched src)) t
  posts : PostsStay s t
  posted : ∀ q, (t.ports.get q).posted.get .timebaseChanged = true
  lost : src = .rc → t.stc.faults.get (.plain .timebaseLost) = true ∧ t.stc.holds.timebase = true ∧
    (s.stc.op = .run → s.stc.noHold = true → t.stc.op = .hold)
  stays : s.stc.op ≠ .run →
    t = { s with tbu := t.tbu, stc := { t.stc with op := s.stc.op, enteredAt := s.stc.enteredAt }, ports := t.ports }
  other : src ≠ .rc → t.stc = { s.stc with holds := { s.stc.holds with timebase := false } } ∧
    t = { s with tbu := t.tbu, stc := t.stc, ports := t.ports }

theorem removeHold_timebase (s : State) :
    (s.removeHold .timebase) = { s with stc := { s.stc with holds := { s.stc.holds with timebase := false } }
                                        ports := (s.removeHold .timebase).ports } := State.removeHold_eq s .timebase

theorem removeHold_postsStay (s : State) (h : Hold) : PostsStay s (s.removeHold h) := by
  unfold State.removeHold
  split
  · exact storeHolds_postsStay s _
  · exact PostsStay.refl s

theorem latch_postsStay (s : State) (i : FaultId) : PostsStay s (s.latch i) := (latch_outcome s i).posts

theorem switchSource_switched (s : State) (src : Source) : Switched src s (s.switchSource src) := by
  have moved : PostsStay s ((s.setTbu (s.tbu.switched src)).postAll .timebaseChanged) := (postTo_portsAfter (s.setTbu _) _ _).postsStay
  have told : ∀ q, (((s.setTbu (s.tbu.switched src)).postAll .timebaseChanged).ports.get q).posted.get .timebaseChanged = true := by
    simp [State.postTo_posted]
  by_cases rc : src = .rc
  · subst rc
    have eq : s.switchSource .rc =
        (((s.setTbu (s.tbu.switched .rc)).postAll .timebaseChanged).latch (.plain .timebaseLost)).addHold .timebase := by
      unfold State.switchSource
      exact if_pos rfl
    have tbu : (s.switchSource .rc).tbu = s.tbu.switched .rc := by rw [eq, addHold_tbu, State.latch_tbu]; rfl
    have frame := State.latch_frame ((s.setTbu (s.tbu.switched .rc)).postAll .timebaseChanged) (.plain .timebaseLost)
    have later := latch_postsStay ((s.setTbu (s.tbu.switched .rc)).postAll .timebaseChanged) (.plain .timebaseLost)
    have latched := State.latch_get ((s.setTbu (s.tbu.switched .rc)).postAll .timebaseChanged) (.plain .timebaseLost)
    generalize ((s.setTbu (s.tbu.switched .rc)).postAll .timebaseChanged).latch (.plain .timebaseLost) = u at eq frame later latched
    have op : u.stc.op = s.stc.op := by rw [frame]; rfl
    have clear : u.stc.noHold = s.stc.noHold := by rw [frame]; rfl
    obtain ⟨holds, ⟨faults, first⟩, run, control, posts, stays⟩ := addHold_joined u .timebase
    rw [← eq] at holds faults first run control posts stays
    generalize s.switchSource .rc = t at *
    have kept : ∀ i, t.stc.faults.get i = (s.stc.faults.get i || decide (i = .plain .timebaseLost)) := fun i => by
      rw [faults, latched]; rfl
    refine ⟨tbu, fun i h => ?_, ?_, moved.trans (later.trans posts), fun q => posts q _ (later q _ (told q)), fun _ => ⟨?_, ?_, ?_⟩,
      fun stopped => ?_, fun other => absurd rfl other⟩
    · rw [kept, h, Bool.true_or]
    · rw [frame] at control
      exact ControlFrame.of_stc_ports control
    · rw [kept]; simp
    · rw [holds]; rfl
    · rw [op, clear] at run
      exact run
    · have whole := stays (by rw [op]; exact stopped)
      have fields := congrArg State.stc whole
      rw [frame] at whole fields
      rw [tbu, fields]
      exact whole
  · have eq : s.switchSource src = ((s.setTbu (s.tbu.switched src)).postAll .timebaseChanged).removeHold .timebase := if_neg rc
    have gone := removeHold_timebase ((s.setTbu (s.tbu.switched src)).postAll .timebaseChanged)
    have posts := removeHold_postsStay ((s.setTbu (s.tbu.switched src)).postAll .timebaseChanged) .timebase
    rw [← eq] at gone posts
    generalize s.switchSource src = t at gone posts
    have tbu : t.tbu = s.tbu.switched src := by rw [gone]; rfl
    have stc : t.stc = { s.stc with holds := { s.stc.holds with timebase := false } } := by rw [gone]; rfl
    have whole : t = { s with tbu := t.tbu, stc := t.stc, ports := t.ports } := by rw [tbu, stc]; exact gone
    refine ⟨tbu, fun i h => by rw [stc]; exact h, ?_, moved.trans posts, fun q => posts q _ (told q), fun e => absurd e rc,
      fun _ => ?_, fun _ => ⟨stc, whole⟩⟩
    · rw [gone]
      exact ⟨rfl, ⟨rfl, rfl⟩, rfl, rfl, .inl rfl, rfl⟩
    · rw [stc] at whole ⊢
      exact whole

/-- What closes a command keeps of a switch's notice. -/
theorem Closed.keeps {who : Option Port} {s u t : State} (h : Closed who s u t) {q : Port} {c : EventClass} (n : c ≠ .alertChanged)
    (posted : (u.ports.get q).posted.get c = true) : (t.ports.get q).posted.get c = true := by rw [h.posted q c n]; exact posted

/-! ## CRYSTAL_STOP on XTAL (R5, R10, R13) -/

/-- What a failure of the crystal as active source leaves. -/
structure CrystalFailed (s t : State) : Prop where
  tbu : t.tbu = { s.tbu with crystal := .failed }.switched s.tbu.fallback
  xtal : t.stc.faults.get (.plain .xtal) = true
  frame : ControlFrame (s.setTbu ({ s.tbu with crystal := .failed }.switched s.tbu.fallback)) t
  posts : PostsStay s t
  posted : ∀ q, (t.ports.get q).posted.get .timebaseChanged = true
  lost : s.tbu.fallback = .rc → t.stc.faults.get (.plain .timebaseLost) = true ∧ t.stc.holds.timebase = true ∧
    (s.stc.op = .run → s.stc.noHold = true → t.stc.op = .hold)
  stays : s.stc.op ≠ .run →
    t = { s with tbu := t.tbu, stc := { t.stc with op := s.stc.op, enteredAt := s.stc.enteredAt }, ports := t.ports }

theorem failCrystal_failed (s : State) : CrystalFailed s s.failCrystal := by
  have frame := State.latch_frame (s.setTbu { s.tbu with crystal := .failed }) (.plain .xtal)
  have latched := State.latch_get (s.setTbu { s.tbu with crystal := .failed }) (.plain .xtal) (.plain .xtal)
  have posts := latch_postsStay (s.setTbu { s.tbu with crystal := .failed }) (.plain .xtal)
  have eq : s.failCrystal = ((s.setTbu { s.tbu with crystal := .failed }).latch (.plain .xtal)).switchSource s.tbu.fallback := rfl
  generalize (s.setTbu { s.tbu with crystal := .failed }).latch (.plain .xtal) = u at eq frame latched posts
  have tbu : u.tbu = { s.tbu with crystal := .failed } := by rw [frame]; rfl
  have op : u.stc.op = s.stc.op := by rw [frame]; rfl
  have since : u.stc.enteredAt = s.stc.enteredAt := by rw [frame]; rfl
  have clear : u.stc.noHold = s.stc.noHold := by rw [frame]; rfl
  have switched := switchSource_switched u s.tbu.fallback
  rw [← eq] at switched
  generalize s.failCrystal = t at switched
  obtain ⟨tbu', faults, control, later, posted, lost, stays, -⟩ := switched
  rw [tbu] at tbu' control
  refine ⟨tbu', faults _ (by rw [latched]; simp), ?_, PostsStay.trans posts later, posted, fun rc => ?_, fun stopped => ?_⟩
  · rw [frame] at control
    exact ControlFrame.of_stc_ports control
  · rw [op, clear] at lost
    exact lost rc
  · have whole := stays (by rw [op]; exact stopped)
    rw [op, since] at whole
    rw [frame] at whole
    exact whole

/-- The Timebase Unit once a running crystal has stopped. -/
def Tbu.crystalStopped (t : Tbu) : Tbu :=
  { t.mapWindows fun w => { w with crystal := false } with
    crystalRunning := false, qualRun := 0, agreeRun := 0, sliceCrystal := false }

theorem crystalStops_off {s : State} (running : s.tbu.crystalRunning = true) (other : s.tbu.source ≠ .xtal) :
    s.crystalStops = s.setTbu s.tbu.crystalStopped := by
  unfold State.crystalStops
  rw [if_pos running]
  exact if_neg other

theorem crystalStops_xtal {s : State} (running : s.tbu.crystalRunning = true) (xtal : s.tbu.source = .xtal) :
    s.crystalStops = (s.setTbu s.tbu.crystalStopped.leaveSource).failCrystal := by
  unfold State.crystalStops
  rw [if_pos running]
  exact if_pos xtal

/-- Settles O17. -/
theorem crystalStopEndsXtal : Obligations.CrystalStopEndsXtal := by
  intro s xtal running
  obtain ⟨t, ran, closed⟩ := event_closed (i := .crystalStop) rfl nofun s
  have effect : s.effect .crystalStop = s.crystalStops := rfl
  rw [effect, crystalStops_xtal running xtal] at closed
  obtain ⟨tbu, latched, frame, posts, posted, lost, stays⟩ := failCrystal_failed (s.setTbu s.tbu.crystalStopped.leaveSource)
  generalize (s.setTbu s.tbu.crystalStopped.leaveSource).failCrystal = u at *
  rw [State.setTbu_tbu] at tbu
  have ended : t.tbu.ended = (s.tbu.ended.map fun e => (e.1, { e.2 with crystal := false })).filter fun e => e.1 = .rc := by
    rw [closed.tbu, tbu]; rfl
  have serial : s.stc.op ≠ .run → u.spl.serial = s.spl.serial := fun stopped => by rw [stays stopped]; rfl
  have source : t.tbu.source = if s.tbu.mainsPresent && s.tbu.nominal.isSome then .mains else .rc := by
    rw [closed.tbu, tbu]; rfl
  refine ⟨t, ran, ?_⟩
  rw [closed.stc]
  refine ⟨?_, ?_, latched, source, ?_, ?_, ?_, ?_, ?_, ?_, ?_, fun w rc => ?_, fun q => ?_, ?_, fun rc => ?_, fun stopped => ?_⟩
  iterate 9 · rw [closed.tbu, tbu]; rfl
  · rw [ended, rc]; rfl
  · exact closed.keeps (c := .timebaseChanged) nofun (posted q)
  · have control := frame.closed closed
    rw [closed.tbu, tbu]
    exact control
  · exact lost (source.symm.trans rc)
  · have whole := closed.frame (serial stopped)
    rw [stays stopped] at whole
    rw [closed.tbu]
    exact whole

/-! ## The other changes of mains and crystal (R4, R5, R8, log 7) -/

/-- The Timebase Unit once mains has gone. -/
def Tbu.mainsLost (t : Tbu) : Tbu :=
  let marked := fun v : Window => { v with mains := false, known := v.known && t.forced.isSome }
  { t with mainsPresent := false, detected := none, window := t.window.map marked
           ended := t.ended.map fun e => (e.1, marked e.2) }

theorem setDetected_eq (s : State) (n : Option Nominal) : s.setDetected n =
    if decide (s.tbu.detected ≠ n) then (s.setTbu { s.tbu with detected := n }).postAll .timebaseChanged
    else s.setTbu { s.tbu with detected := n } := by
  unfold State.setDetected
  dsimp only
  by_cases same : s.tbu.detected = n <;> simp [same]

theorem setDetected_rest (s : State) (n : Option Nominal) :
    s.setDetected n = { s with tbu := { s.tbu with detected := n }, ports := (s.setDetected n).ports } := by
  rw [setDetected_eq]
  split <;> rfl

theorem setDetected_portsAfter (s : State) (n : Option Nominal) :
    PortsAfter none (fun _ c => c = .timebaseChanged && s.tbu.detected ≠ n) s (s.setDetected n) := by
  rw [setDetected_eq]
  exact post_if_portsAfter .timebaseChanged _ rfl

/-- The state once mains has gone, before a source that it leaves. -/
def State.unpowered (s : State) : State :=
  let a := (s.setTbu { s.tbu.mapWindows fun w => { w with mains := false } with mainsPresent := false }).setDetected none
  a.setTbu a.tbu.forgetKnown

theorem losesMains_eq {s : State} (present : s.tbu.mainsPresent = true) :
    s.losesMains = if s.tbu.source = .mains then (s.unpowered.setTbu s.unpowered.tbu.leaveSource).switchSource .rc else s.unpowered := by
  unfold State.losesMains
  rw [if_pos present]
  rfl

theorem unpowered_rest (s : State) : s.unpowered = { s with tbu := s.tbu.mainsLost, ports := s.unpowered.ports } := by
  unfold State.unpowered
  dsimp only
  rw [setDetected_rest]
  simp [Tbu.mainsLost, Tbu.forgetKnown, Tbu.mapWindows, State.setTbu, Tbu.nominal, Function.comp_def]

theorem unpowered_portsAfter (s : State) :
    PortsAfter none (fun _ c => c = .timebaseChanged && s.tbu.detected ≠ none) s s.unpowered :=
  (setDetected_portsAfter (s.setTbu { s.tbu.mapWindows fun w => { w with mains := false } with mainsPresent := false }) none).congr
    rfl rfl fun _ _ => rfl

/-- Settles O18. -/
theorem mainsAndCrystalMarks : Obligations.MainsAndCrystalMarks := by
  intro s lines
  refine ⟨fun present => ?_, ?_, ?_, fun other running => ?_⟩
  · obtain ⟨t, ran, closed⟩ := event_closed (i := .mainsLost) rfl nofun s
    have effect : s.effect .mainsLost = s.losesMains := rfl
    rw [effect, losesMains_eq present] at closed
    have rest := unpowered_rest s
    have posts := unpowered_portsAfter s
    generalize s.unpowered = v at closed rest posts
    refine ⟨t, ran, fun source => ?_, fun source => ?_⟩
    · rw [if_pos source] at closed
      obtain ⟨tbu, -, frame, -, posted, lost, -, -⟩ := switchSource_switched (v.setTbu v.tbu.leaveSource) .rc
      generalize (v.setTbu v.tbu.leaveSource).switchSource .rc = u at *
      have tbu' : t.tbu = s.tbu.mainsLost.leaveSource.switched .rc := by rw [closed.tbu, tbu, rest]; rfl
      have control := frame.closed closed
      obtain ⟨suspect, held, run⟩ := lost rfl
      refine ⟨?_, ?_, ?_, ?_, ?_, fun q => closed.keeps (c := .timebaseChanged) nofun (posted q)⟩
      · rw [tbu']
        simp [Tbu.switched, Tbu.mainsLost, Tbu.leaveSource, Tbu.nominal]
      · rw [closed.stc]; exact suspect
      · rw [closed.stc]; exact held
      · rw [closed.stc]
        rw [rest] at run
        exact run
      · rw [tbu']
        rw [rest] at control
        exact control.of_stc_ports
    · rw [if_neg source] at closed
      have causes : ∀ c, v.causePresent c = s.causePresent c := causePresent_of_stc (by rw [rest])
      refine ⟨?_, ?_⟩
      · have same := closed.same causes (by rw [rest])
        rw [rest] at same
        exact same
      · exact (posts.trans (closed.portsAfter causes)).congr rfl rfl fun _ _ => (Bool.or_false _).symm
  · exact event_exact lines rfl nofun rfl rfl rfl rfl rfl rfl
  · exact event_exact lines rfl nofun rfl rfl rfl rfl rfl rfl
  · exact event_exact lines rfl nofun (crystalStops_off running other) rfl rfl rfl rfl rfl

end Sys2Proof.Machine

/-! # WINDOW_END (R6 to R12) -/

namespace Sys2Proof.Machine

/-! ## The checks of a window (R7) -/

/-- The gross check as the spec states it. -/
def Window.GrossPasses (w : Window) : Prop :=
  w.crystal = true ∧ 301466 ≤ w.x * 40000000 / w.c ∧ w.x * 40000000 / w.c ≤ 353894

/-- The referenced count lies within the tolerance of the nominal's expected count. -/
def Window.Near (w : Window) (n : Nominal) (tol : Nat) : Prop :=
  (2 * w.m * 327680 + w.x) / (2 * w.x) ≤ (if n = .hz50 then 500 else 600) + tol ∧
    (if n = .hz50 then 500 else 600) ≤ (2 * w.m * 327680 + w.x) / (2 * w.x) + tol

theorem passesGross_iff (w : Window) : w.passesGross = true ↔ w.GrossPasses := by
  simp only [Window.passesGross, Bool.and_eq_true, decide_eq_true_eq, and_assoc]
  exact Iff.rfl

theorem Window.GrossPasses.counted {w : Window} (h : w.GrossPasses) : w.x ≠ 0 := by
  obtain ⟨-, low, -⟩ := h
  intro none
  rw [none] at low
  simp at low

theorem near_iff {w : Window} (counted : w.x ≠ 0) (n : Nominal) (tol : Nat) : w.near n tol = true ↔ w.Near n tol := by
  have referenced : w.referenced = some ((2 * w.m * 327680 + w.x) / (2 * w.x)) := if_neg counted
  unfold Window.near
  rw [referenced]
  simp only [Bool.and_eq_true, decide_eq_true_eq]
  cases n <;> exact Iff.rfl

theorem agreement_untested {t : Tbu} {w : Window} (h : ¬ (w.mains = true ∧ w.known = true) ∨ t.nominal = none) :
    t.agreement w = .notEvaluated := by
  unfold Tbu.agreement
  cases nominal : t.nominal with
  | none => rfl
  | some n =>
    rw [nominal] at h
    simp only [reduceCtorEq, or_false] at h
    simp [h]

theorem agreement_tested {t : Tbu} {w : Window} {n : Nominal} (tested : w.mains = true ∧ w.known = true) (nominal : t.nominal = some n) :
    t.agreement w = if w.near n t.tolerance then .agree else .disagree := by
  unfold Tbu.agreement
  rw [nominal]
  exact if_pos (by simpa using tested)

theorem agreement_near {t : Tbu} {w : Window} {n : Nominal} (tested : w.mains = true ∧ w.known = true) (nominal : t.nominal = some n)
    (passes : w.GrossPasses) (near : w.Near n t.tolerance) : t.agreement w = .agree := by
  rw [agreement_tested tested nominal, if_pos ((near_iff passes.counted n _).2 near)]

theorem agreement_far {t : Tbu} {w : Window} {n : Nominal} (tested : w.mains = true ∧ w.known = true) (nominal : t.nominal = some n)
    (passes : w.GrossPasses) (far : ¬ w.Near n t.tolerance) : t.agreement w = .disagree := by
  rw [agreement_tested tested nominal, if_neg fun h => far ((near_iff passes.counted n _).1 h)]

/-! ## Detection (R8) -/

/-- The nominal that a window on XTAL or RC detects. -/
def Tbu.found (t : Tbu) (w : Window) : Option Nominal :=
  if t.detected = none ∧ w.mains = true ∧ w.detect = true then detectNominal w.m else none

/-- The Timebase Unit once a window has detected what it can. -/
def Tbu.detecting (t : Tbu) (w : Window) : Tbu :=
  match t.found w with
  | some n => { t.knowWindow with detected := some n }
  | none => t

/-- What detection leaves. -/
structure Detected (w : Window) (s t : State) : Prop where
  rest : t = { s with tbu := s.tbu.detecting w, ports := t.ports }
  same : s.tbu.found w = none → t.ports = s.ports
  posted : s.tbu.found w ≠ none → ∀ q, (t.ports.get q).posted.get .timebaseChanged = true

theorem detect_detected (s : State) (w : Window) : Detected w s (s.detect w) := by
  have eq : s.detect w = match s.tbu.found w with
      | some n => (s.setTbu { s.tbu.knowWindow with detected := some n }).postAll .timebaseChanged
      | none => s := by
    unfold State.detect Tbu.found
    by_cases detects : s.tbu.detected = none ∧ w.mains = true ∧ w.detect = true
    · obtain ⟨unknown, mains, detect⟩ := detects
      have unchanged : ∀ n, s.tbu.knowWindow.detected ≠ some n := fun n h => by
        rw [show s.tbu.knowWindow.detected = s.tbu.detected from rfl, unknown] at h; cases h
      simp only [unknown, mains, detect, Option.isNone_none, Bool.and_self, if_true, and_self]
      cases detectNominal w.m <;> simp [State.setDetected, unchanged]
    · rw [if_neg detects, if_neg]
      simpa [and_assoc] using detects
  cases found : s.tbu.found w with
  | none => 
    rw [found] at eq
    rw [eq]
    refine ⟨?_, fun _ => rfl, fun h => absurd found h⟩
    unfold Tbu.detecting
    rw [found]
  | some n =>
    rw [found] at eq
    rw [eq]
    refine ⟨?_, fun h => (by rw [found] at h; cases h), fun _ q => by simp [State.postTo_posted]⟩
    unfold Tbu.detecting
    rw [found]
    rfl

section
variable (t : Tbu) (w : Window)

theorem detecting_rest : t.detecting w = { t with detected := (t.detecting w).detected, window := (t.detecting w).window } := by
  unfold Tbu.detecting
  cases t.found w <;> rfl

theorem detecting_none (found : t.found w = none) : t.detecting w = t := by
  unfold Tbu.detecting
  rw [found]

theorem detecting_some (found : t.found w ≠ none) : (t.detecting w).detected = t.found w ∧
    ∀ v, (t.detecting w).window = some v → v.known = true := by
  obtain ⟨n, found⟩ := Option.ne_none_iff_exists'.1 found
  unfold Tbu.detecting
  rw [found]
  refine ⟨rfl, fun v window => ?_⟩
  have marked : t.window.map (fun w => { w with known := true }) = some v := window
  obtain ⟨w, -, rfl⟩ := Option.map_eq_some_iff.1 marked
  rfl

end

/-- What `detects` says of the state at the end of a command, from what its effect has of the state that detected. -/
theorem Detected.seen {w : Window} {v d t : State} (h : Detected w v d) (detected : t.tbu.detected = d.tbu.detected)
    (window : t.tbu.window = d.tbu.window ∨ t.tbu.window = none)
    (posts : ∀ q, (d.ports.get q).posted.get .timebaseChanged = true → (t.ports.get q).posted.get .timebaseChanged = true) :
    (v.tbu.found w = none → t.tbu.detected = v.tbu.detected) ∧
      (v.tbu.found w ≠ none → t.tbu.detected = v.tbu.found w ∧ (∀ x, t.tbu.window = some x → x.known = true) ∧
        ∀ q, (t.ports.get q).posted.timebaseChanged = true) := by
  have tbu : d.tbu = v.tbu.detecting w := by rw [h.rest]
  refine ⟨fun found => ?_, fun found => ?_⟩
  · rw [detected, tbu, detecting_none _ _ found]
  · obtain ⟨nominal, known⟩ := detecting_some v.tbu w found
    refine ⟨by rw [detected, tbu, nominal], fun x here => ?_, fun q => posts q (h.posted found q)⟩
    obtain same | gone := window
    · rw [same, tbu] at here
      exact known x here
    · rw [gone] at here
      cases here

/-! ## XTAL (R10) -/

/-- TIMEBASE_SUSPECT is part of no system cause (R160). -/
theorem latch_suspect_causes (s : State) (c : SystemCause) : (s.latch (.plain .timebaseSuspect)).causePresent c = s.causePresent c := by
  unfold State.latch
  split
  · rfl
  · cases c <;> rfl

/-- What a window on XTAL that passes the gross check leaves; `d` is the state after detection. -/
structure XtalJudged (w : Window) (r : WindowResult) (d t : State) : Prop where
  tbu : t.tbu = { d.tbu with
    last := some { result := r, m := w.m, r := w.referenced, g := w.gross, offNominal := decide (r = .disagree) }
    disagreeRun := if r = .disagree then min 255 (d.tbu.disagreeRun + 1) else 0 }
  rest : t = { d with tbu := t.tbu, stc := t.stc, ports := t.ports }
  causes : ∀ c, t.causePresent c = d.causePresent c
  posts : PostsStay d t
  calm : r ≠ .disagree → t.stc = d.stc
  posted : r = .disagree → ∀ q, (t.ports.get q).posted.get .timebaseChanged = true
  suspect : r = .disagree → 3 ≤ t.tbu.disagreeRun → t.stc.faults.get (.plain .timebaseSuspect) = true

theorem disagrees_judged (d : State) (w : Window) : XtalJudged w .disagree d (d.recordWindow w .disagree true).disagrees := by
  unfold State.disagrees
  dsimp only
  have posted : ∀ q, ((((d.recordWindow w .disagree true).setTbu { (d.recordWindow w .disagree true).tbu with
      disagreeRun := min 255 (d.tbu.disagreeRun + 1) }).postAll .timebaseChanged).ports.get q).posted.get .timebaseChanged = true := by
    simp [State.postTo_posted]
  have posts : PostsStay d (((d.recordWindow w .disagree true).setTbu { (d.recordWindow w .disagree true).tbu with
      disagreeRun := min 255 (d.tbu.disagreeRun + 1) }).postAll .timebaseChanged) := (postTo_portsAfter (d.setTbu _) _ _).postsStay
  have eq : ((d.recordWindow w .disagree true).setTbu { (d.recordWindow w .disagree true).tbu with
      disagreeRun := min 255 (d.tbu.disagreeRun + 1) }).postAll .timebaseChanged =
      { d with tbu := { d.tbu with
                 last := some { result := .disagree, m := w.m, r := w.referenced, g := w.gross, offNominal := true }
                 disagreeRun := min 255 (d.tbu.disagreeRun + 1) }
               ports := (((d.recordWindow w .disagree true).setTbu { (d.recordWindow w .disagree true).tbu with
                 disagreeRun := min 255 (d.tbu.disagreeRun + 1) }).postAll .timebaseChanged).ports } := rfl
  have run : (d.recordWindow w .disagree true).tbu.disagreeRun = d.tbu.disagreeRun := rfl
  rw [run]
  generalize ((d.recordWindow w .disagree true).setTbu { (d.recordWindow w .disagree true).tbu with
      disagreeRun := min 255 (d.tbu.disagreeRun + 1) }).postAll .timebaseChanged = v at *
  split
  · next third =>
    have frame := v.latch_frame (.plain .timebaseSuspect)
    have causes := latch_suspect_causes v
    have later := latch_postsStay v (.plain .timebaseSuspect)
    have latched := v.latch_get (.plain .timebaseSuspect) (.plain .timebaseSuspect)
    generalize v.latch (.plain .timebaseSuspect) = t at *
    refine ⟨?_, ?_, fun c => (causes c).trans (causePresent_of_stc (by rw [eq]) c), posts.trans later, fun n => absurd rfl n,
      fun _ q => later q _ (posted q), fun _ _ => by rw [latched]; simp⟩
    · rw [frame, eq]; rfl
    · rw [frame, eq]
  · next early =>
    refine ⟨?_, ?_, causePresent_of_stc (by rw [eq]), posts, fun n => absurd rfl n, fun _ => posted, fun _ third => ?_⟩
    · rw [eq]; rfl
    · rw [eq]
    · rw [eq] at third
      exact absurd third early

theorem evalXtal_judged {s : State} {w : Window} (passes : w.passesGross = true) :
    XtalJudged w ((s.tbu.detecting w).agreement w) (s.detect w) (s.evalXtal w) := by
  have tbu : (s.detect w).tbu = s.tbu.detecting w := by rw [(detect_detected s w).rest]
  unfold State.evalXtal
  rw [if_pos passes]
  dsimp only
  rw [tbu]
  by_cases disagree : (s.tbu.detecting w).agreement w = .disagree
  · rw [if_pos disagree, disagree]
    exact disagrees_judged (s.detect w) w
  · rw [if_neg disagree]
    refine ⟨?_, rfl, fun c => by cases c <;> rfl, PostsStay.refl _, fun _ => rfl, fun h => absurd h disagree, fun h => absurd h disagree⟩
    rw [if_neg disagree]
    rfl

/-! ## MAINS (R12) -/

/-- The agreement run after a window on MAINS. -/
def Tbu.nextAgreeRun (t : Tbu) (w : Window) : Nat := if t.mainsResult w = .agree then min 6 (t.agreeRun + 1) else 0

/-- The Timebase Unit once a window on MAINS is recorded. -/
def Tbu.mainsRecorded (t : Tbu) (w : Window) : Tbu :=
  { t with
    last := some { result := t.mainsResult w, m := w.m, r := w.referenced, g := w.gross, offNominal := false }
    agreeRun := t.nextAgreeRun w }

theorem evalMains_eq (s : State) (w : Window) : s.evalMains w =
    if s.tbu.nextAgreeRun w = 6 then (s.setTbu (s.tbu.mainsRecorded w)).qualifyCrystal else s.setTbu (s.tbu.mainsRecorded w) := rfl

/-! ## RC (R11) -/

/-- Whether a window on RC takes the part to MAINS. -/
def Tbu.turnsToMains (t : Tbu) (w : Window) : Prop :=
  t.source = .rc ∧ w.mains = true ∧ w.known = true ∧ t.mainsPresent = true ∧ t.nominal.isSome = true

/-- The state once a window on RC is recorded. -/
def State.rcRecorded (s : State) (w : Window) : State := (s.detect w).recordWindow w .notEvaluated false

theorem evalRc_turns {s : State} {w : Window} (h : (s.rcRecorded w).tbu.turnsToMains w) :
    s.evalRc w = (s.rcRecorded w).switchSource .mains := if_pos h

theorem evalRc_stays {s : State} {w : Window} (h : ¬ (s.rcRecorded w).tbu.turnsToMains w) : s.evalRc w = s.rcRecorded w := if_neg h

/-! ## WINDOW_END -/

/-- The state in which the window that the last boundary ended is evaluated. -/
def State.unended (s : State) : State := s.setTbu { s.tbu with ended := none }

section
variable {s : State} {src : Source} {w : Window} (ended : s.tbu.ended = some (src, w))
include ended

theorem evalWindow_rc (rc : src = .rc) : s.evalWindow = s.unended.evalRc w := by
  unfold State.evalWindow
  rw [ended, rc]
  rfl

theorem evalWindow_xtal (xtal : src = .xtal) (source : s.tbu.source = .xtal) : s.evalWindow = s.unended.evalXtal w := by
  unfold State.evalWindow
  rw [ended, xtal]
  exact if_pos source

theorem evalWindow_mains (mains : src = .mains) (source : s.tbu.source = .mains) : s.evalWindow = s.unended.evalMains w := by
  unfold State.evalWindow
  rw [ended, mains]
  exact if_pos source

theorem evalWindow_dropped (other : src ≠ .rc) (left : s.tbu.source ≠ src) : s.evalWindow = s.unended := by
  unfold State.evalWindow
  rw [ended]
  cases src with
  | rc => exact absurd rfl other
  | xtal => exact if_neg left
  | mains => exact if_neg left

end

/-- What every evaluation keeps of the Timebase Unit. -/
def Tbu.Timed (t u : Tbu) : Prop := u.ended = t.ended ∧ u.slice = t.slice ∧ u.seconds = t.seconds

theorem detecting_timed (t : Tbu) (w : Window) : t.Timed (t.detecting w) := by
  rw [detecting_rest]
  exact ⟨rfl, rfl, rfl⟩

theorem evalXtal_timed (s : State) (w : Window) : s.tbu.Timed (s.evalXtal w).tbu := by
  by_cases passes : w.passesGross = true
  · have tbu : (s.detect w).tbu = s.tbu.detecting w := by rw [(detect_detected s w).rest]
    have timed := detecting_timed s.tbu w
    rw [(evalXtal_judged passes).tbu, tbu]
    exact timed
  · unfold State.evalXtal
    rw [if_neg passes, (failCrystal_failed _).tbu]
    exact ⟨rfl, rfl, rfl⟩

theorem evalMains_timed (s : State) (w : Window) : s.tbu.Timed (s.evalMains w).tbu := by
  rw [evalMains_eq]
  split
  · unfold State.qualifyCrystal
    rw [(switchSource_switched _ _).tbu]
    exact ⟨rfl, rfl, rfl⟩
  · exact ⟨rfl, rfl, rfl⟩

theorem rcRecorded_tbu (s : State) (w : Window) : (s.rcRecorded w).tbu =
    { s.tbu.detecting w with
      last := some { result := .notEvaluated, m := w.m, r := w.referenced, g := w.gross, offNominal := false } } := by
  unfold State.rcRecorded State.recordWindow
  rw [(detect_detected s w).rest]
  rfl

theorem evalRc_timed (s : State) (w : Window) : s.tbu.Timed (s.evalRc w).tbu := by
  have timed := detecting_timed s.tbu w
  by_cases turns : (s.rcRecorded w).tbu.turnsToMains w
  · rw [evalRc_turns turns, (switchSource_switched _ _).tbu, rcRecorded_tbu]
    exact timed
  · rw [evalRc_stays turns, rcRecorded_tbu]
    exact timed

theorem evalWindow_timed {s : State} {src : Source} {w : Window} (ended : s.tbu.ended = some (src, w)) :
    s.evalWindow.tbu.ended = none ∧ s.evalWindow.tbu.slice = s.tbu.slice ∧ s.evalWindow.tbu.seconds = s.tbu.seconds := by
  have timed : s.unended.tbu.Timed s.evalWindow.tbu := by
    by_cases rc : src = .rc
    · rw [evalWindow_rc ended rc]
      exact evalRc_timed _ w
    · by_cases source : s.tbu.source = src
      · cases src with
        | rc => exact absurd rfl rc
        | xtal => rw [evalWindow_xtal ended rfl source]; exact evalXtal_timed _ w
        | mains => rw [evalWindow_mains ended rfl source]; exact evalMains_timed _ w
      · rw [evalWindow_dropped ended rc source]
        exact ⟨rfl, rfl, rfl⟩
  exact timed

theorem referenced_eq (w : Window) : w.referenced = if w.x = 0 then none else some ((2 * w.m * 327680 + w.x) / (2 * w.x)) := rfl

/-- Settles O21. -/
theorem windowEndOnXtal : Obligations.WindowEndOnXtal := by
  intro src w s ended
  obtain ⟨t, ran, closed⟩ := event_closed (i := .windowEnd) rfl nofun s
  change Closed none s s.evalWindow t at closed
  refine ⟨t, ran, ?_⟩
  obtain ⟨gone, slice, seconds⟩ := evalWindow_timed ended
  refine ⟨by rw [closed.tbu, gone], by rw [closed.tbu, slice], by rw [closed.tbu, seconds], ?_⟩
  extract_lets -descend g r passes tested near records found detects
  have keeps : ∀ q, (s.evalWindow.ports.get q).posted.get .timebaseChanged = true →
      (t.ports.get q).posted.get .timebaseChanged = true := fun q => closed.keeps (c := .timebaseChanged) nofun
  refine ⟨fun xtal source fails => ?_, fun xtal source pass => ?_, fun rc => ?_, fun mains source => ?_, fun other left => ?_⟩
  · have eq : s.evalWindow = (s.unended.recordWindow w .grossFail false).failCrystal := by
      rw [evalWindow_xtal ended xtal source]
      exact if_neg fun h => fails ((passesGross_iff w).1 h)
    rw [eq] at closed
    obtain ⟨tbu, latched, frame, -, -, -, -⟩ := failCrystal_failed (s.unended.recordWindow w .grossFail false)
    have control := frame.closed closed
    rw [← tbu] at control
    refine ⟨?_, ?_, ?_, ?_, ?_, ?_⟩
    · simp only [records]; rw [closed.tbu, tbu]; rfl
    · rw [closed.tbu, tbu]; rfl
    · rw [closed.tbu, tbu]; rfl
    · rw [closed.stc]; exact latched
    · rw [closed.tbu, tbu]; rfl
    · rw [closed.tbu]; exact control
  · have passed := (passesGross_iff w).2 pass
    have detected := detect_detected s.unended w
    have judged := evalXtal_judged (s := s.unended) passed
    rw [evalWindow_xtal ended xtal source] at closed keeps
    have rest := detecting_rest s.unended.tbu w
    have since : (s.unended.detect w).tbu = s.unended.tbu.detecting w := by rw [detected.rest]
    have unmoved : (s.unended.detect w).stc = s.stc := by rw [detected.rest]; rfl
    generalize s.unended.detect w = d at *
    generalize s.unended.evalXtal w = u at *
    generalize verdict : (s.unended.tbu.detecting w).agreement w = v at judged
    have tbu : t.tbu = _ := closed.tbu.trans judged.tbu
    have nominal : t.tbu.nominal = (s.unended.tbu.detecting w).nominal := by rw [tbu, since]; rfl
    have last : t.tbu.last =
        some { result := v, m := w.m, r := w.referenced, g := w.gross, offNominal := decide (v = .disagree) } := by rw [tbu]
    have run : t.tbu.disagreeRun = if v = .disagree then min 255 (s.tbu.disagreeRun + 1) else 0 := by rw [tbu, since, rest]; rfl
    have calm : v ≠ .disagree → t.stc = s.stc := fun n => by rw [closed.stc, judged.calm n, unmoved]
    refine ⟨?_, ?_, ?_, fun h => ?_, fun n test known => ⟨fun close => ?_, fun far => ?_⟩⟩
    · rw [tbu, since, rest]; exact source
    · exact detected.seen (by rw [tbu]) (.inl (by rw [tbu])) fun q h => keeps q (judged.posts q _ h)
    · have same := closed.same (fun c => (judged.causes c).trans (causePresent_of_stc unmoved c)) (by rw [judged.rest, detected.rest]; rfl)
      rw [judged.rest, detected.rest] at same
      rw [closed.tbu, closed.stc]
      exact same
    · rw [nominal] at h
      rw [agreement_untested h] at verdict
      subst verdict
      exact ⟨last, run, calm nofun⟩
    · have near' : w.Near n (s.unended.tbu.detecting w).tolerance := by rw [rest]; exact close
      rw [agreement_near test (nominal.symm.trans known) pass near'] at verdict
      subst verdict
      exact ⟨last, run, calm nofun⟩
    · have far' : ¬ w.Near n (s.unended.tbu.detecting w).tolerance := by rw [rest]; exact far
      rw [agreement_far test (nominal.symm.trans known) pass far'] at verdict
      subst verdict
      refine ⟨last, run, fun third => ?_, fun q => keeps q (judged.posted rfl q)⟩
      rw [closed.stc]
      rw [closed.tbu] at third
      exact judged.suspect rfl third
  · have detected := detect_detected s.unended w
    have rest := detecting_rest s.unended.tbu w
    have recorded := rcRecorded_tbu s.unended w
    have whole : s.unended.rcRecorded w =
        { s with tbu := (s.unended.rcRecorded w).tbu, ports := (s.unended.detect w).ports } := by
      rw [recorded]
      unfold State.rcRecorded State.recordWindow
      rw [detected.rest]
      rfl
    have since : (s.unended.rcRecorded w).tbu.detected = (s.unended.detect w).tbu.detected ∧
        (s.unended.rcRecorded w).tbu.window = (s.unended.detect w).tbu.window := ⟨rfl, rfl⟩
    have turns : (s.unended.rcRecorded w).tbu.turnsToMains w ↔ s.tbu.source = .rc ∧ tested ∧ s.tbu.mainsPresent = true ∧
        (s.unended.rcRecorded w).tbu.nominal ≠ none := by
      rw [recorded, rest]
      simp only [Tbu.turnsToMains, tested, Option.isSome_iff_ne_none, and_assoc]
      exact Iff.rfl
    have ports : (s.unended.rcRecorded w).ports = (s.unended.detect w).ports := rfl
    rw [evalWindow_rc ended rc] at closed keeps
    by_cases change : (s.unended.rcRecorded w).tbu.turnsToMains w
    · rw [evalRc_turns change] at closed keeps
      obtain ⟨tbu, -, -, posts, -, -, -, other⟩ := switchSource_switched (s.unended.rcRecorded w) .mains
      obtain ⟨stc, same⟩ := other nofun
      generalize s.unended.rcRecorded w = v at *
      generalize v.switchSource .mains = u at *
      have last : t.tbu.last = v.tbu.last := by rw [closed.tbu, tbu]; rfl
      have nominal : t.tbu.nominal = v.tbu.nominal := by rw [closed.tbu, tbu]; rfl
      obtain ⟨onRc, test, present, known⟩ := turns.1 change
      refine ⟨?_, ?_, fun _ _ _ _ => ⟨?_, ?_, ?_⟩, fun h => ?_⟩
      · simp only [records]; rw [last, recorded]; rfl
      · exact detected.seen (by rw [closed.tbu, tbu]; exact since.1) (.inr (by rw [closed.tbu, tbu]; rfl))
          fun q h => keeps q (posts q _ (by rw [ports]; exact h))
      · rw [closed.tbu, tbu]; rfl
      · rw [closed.stc, stc, whole]
      · have frame := closed.frame (by rw [same, whole])
        rw [same, whole] at frame
        rw [closed.tbu, closed.stc]
        exact frame
      · rw [nominal] at h
        obtain h | h | h | h := h
        · exact absurd onRc h
        · exact absurd test h
        · rw [present] at h; cases h
        · exact absurd h known
    · rw [evalRc_stays change] at closed keeps
      generalize s.unended.rcRecorded w = v at *
      have nominal : t.tbu.nominal = v.tbu.nominal := by rw [closed.tbu]
      refine ⟨?_, ?_, fun a b c d => ?_, fun _ => ⟨?_, ?_⟩⟩
      · simp only [records]; rw [closed.tbu, recorded]; rfl
      · exact detected.seen (by rw [closed.tbu]; exact since.1) (.inl (by rw [closed.tbu]; exact since.2))
          fun q h => keeps q (by rw [ports]; exact h)
      · exact absurd (turns.2 ⟨a, b, c, by rw [← nominal]; exact d⟩) change
      · rw [closed.tbu, recorded, rest]; rfl
      · have same := closed.same (causePresent_of_stc (by rw [whole])) (by rw [whole])
        rw [whole] at same
        rw [closed.tbu]
        exact same
  · intro agrees
    rw [evalWindow_mains ended mains source, evalMains_eq] at closed
    have result : s.unended.tbu.mainsResult w = s.tbu.mainsResult w := rfl
    have next : s.unended.tbu.nextAgreeRun w = if s.tbu.mainsResult w = .agree then min 6 (s.tbu.agreeRun + 1) else 0 := rfl
    have passed : passes → s.tbu.mainsResult w = s.tbu.agreement w := fun pass => if_pos ((passesGross_iff w).2 pass)
    have agreed : s.tbu.mainsResult w = .agree ↔ agrees := by
      refine ⟨fun h => ?_, fun ⟨pass, test, n, known, close⟩ => (passed pass).trans (agreement_near test known pass close)⟩
      have pass : passes := by
        by_contra fails
        rw [show s.tbu.mainsResult w = .grossFail from if_neg fun k => fails ((passesGross_iff w).1 k)] at h
        cases h
      rw [passed pass] at h
      by_cases test : tested
      · cases known : s.tbu.nominal with
        | none => rw [agreement_untested (.inr known)] at h; cases h
        | some n =>
          refine ⟨pass, test, n, known, ?_⟩
          by_contra far
          rw [agreement_far test known pass far] at h
          cases h
      · rw [agreement_untested (.inl test)] at h; cases h
    have last : t.tbu.last = some { result := s.tbu.mainsResult w, m := w.m, r := w.referenced, g := w.gross, offNominal := false } ∧
        t.tbu.detected = s.tbu.detected := by
      rw [closed.tbu]
      split
      · unfold State.qualifyCrystal
        rw [(switchSource_switched _ _).tbu]
        exact ⟨rfl, rfl⟩
      · exact ⟨rfl, rfl⟩
    obtain ⟨last, detected⟩ := last
    refine ⟨detected, fun fails => ?_, fun pass h => ?_, fun n pass test known => ?_, fun agree full => ?_, fun agree more => ?_,
      fun differs => ?_, fun stays => ?_⟩
    · simp only [records]
      rw [last, show s.tbu.mainsResult w = .grossFail from if_neg fun k => fails ((passesGross_iff w).1 k)]
      rfl
    · simp only [records]
      rw [last, passed pass, agreement_untested h]
      rfl
    · simp only [records]
      rw [last, passed pass]
      by_cases close : near n
      · rw [if_pos close, agreement_near test known pass close]; rfl
      · rw [if_neg close, agreement_far test known pass close]; rfl
    · have six : s.unended.tbu.nextAgreeRun w = 6 := by rw [next, if_pos (agreed.2 agree)]; omega
      rw [if_pos six] at closed
      unfold State.qualifyCrystal at closed
      obtain ⟨tbu, -, -, -, -, -, -, rest⟩ := switchSource_switched ((s.unended.setTbu (s.unended.tbu.mainsRecorded w)).setTbu
        { (s.unended.setTbu (s.unended.tbu.mainsRecorded w)).tbu with crystal := .qualified }) .xtal
      obtain ⟨-, same⟩ := rest nofun
      refine ⟨?_, ?_, ?_, ?_⟩
      · rw [closed.tbu, tbu]; rfl
      · rw [closed.tbu, tbu]; rfl
      · rw [closed.tbu, tbu]; rfl
      · have frame := closed.frame (by rw [same]; rfl)
        rw [same] at frame
        rw [closed.tbu, closed.stc]
        exact frame
    · have run : s.unended.tbu.nextAgreeRun w = s.tbu.agreeRun + 1 := by rw [next, if_pos (agreed.2 agree)]; omega
      rw [if_neg (by omega)] at closed
      rw [closed.tbu]
      exact run
    · have run : s.unended.tbu.nextAgreeRun w = 0 := by rw [next, if_neg fun h => differs (agreed.1 h)]
      rw [if_neg (by omega)] at closed
      rw [closed.tbu]
      exact run
    · have short : ¬ s.unended.tbu.nextAgreeRun w = 6 := by
        rw [next]
        split
        · next h => have := stays.resolve_left (not_not_intro (agreed.1 h)); omega
        · omega
      rw [if_neg short] at closed
      have causes : ∀ c, (s.unended.setTbu (s.unended.tbu.mainsRecorded w)).causePresent c = s.causePresent c := causePresent_of_stc rfl
      have same := closed.same causes rfl
      rw [closed.ports causes] at same
      refine ⟨?_, ?_, ?_⟩
      · rw [closed.tbu]; exact source
      · rw [closed.tbu]; rfl
      · rw [closed.tbu]; exact same
  · rw [evalWindow_dropped ended other left] at closed
    have causes : ∀ c, s.unended.causePresent c = s.causePresent c := causePresent_of_stc rfl
    have same := closed.same causes rfl
    rw [closed.ports causes] at same
    exact same

end Sys2Proof.Machine

/-! # Gates, and the demands and panels of the points (R23 to R38) -/

namespace Sys2Proof.Machine

/-! ## What closing a command leaves where no system cause changes -/

section
variable {who : Option Port} {s u t : State} (h : Closed who s u t)
include h

theorem Closed.gated (same : ∀ c, u.causePresent c = s.causePresent c) :
    t = { u with spl := t.spl, ports := t.ports, pins := t.pins } := by
  obtain ⟨alc, -⟩ := h.quiet same
  rw [← h.tbu, ← h.ptc, ← h.tme, ← h.squ, ← h.pmc, ← h.dru, ← h.snu, ← alc, ← h.stc, ← h.presence, ← h.watchdog,
    ← h.free, ← h.pending]

theorem Closed.planner : t.spl = { u.spl with pending := t.spl.pending } := by rw [h.pass]

/-- The pass that a command's effect left building stays in flight; its snapshot is the one that was taken, or one of the state
after the effect (R109). -/
theorem Closed.pending_cases {b : Snapshot} (building : u.spl.pending = .building b) :
    t.spl.pending = .building b ∨ t.spl.pending = .building (u.snapshot b.serial) := by
  rw [h.pass]
  dsimp only
  rw [building]
  unfold retaken
  dsimp only
  split
  · exact .inl rfl
  · exact .inr rfl

end

/-! ## A reason set that changes (R27, R34 to R36) -/

section
variable (s : State) (x : Point) (r : PerReason Bool)

/-- Whether a reason set is empty. -/
def clearReasons (r : PerReason Bool) : Bool := Reason.all.all fun o => !r.get o

theorem gateOpen_eq : s.gateOpen x = clearReasons (s.ptc.reasons.get x) := rfl

theorem gateOpen_congr {s t : State} (h : t.ptc.reasons = s.ptc.reasons) (x : Point) : t.gateOpen x = s.gateOpen x := by
  rw [gateOpen_eq, gateOpen_eq, h]

theorem changeReasons_ptc : (s.changeReasons x r).ptc = { s.ptc with reasons := s.ptc.reasons.set x r } := by
  have reasons := State.changeReasons_reasons s x r
  rw [(State.changeReasons_gateFrame s x r).ptc, reasons]

theorem changeReasons_whole : s.changeReasons x r = { s with
    ptc := { s.ptc with reasons := s.ptc.reasons.set x r }, spl := (s.changeReasons x r).spl, dru := (s.changeReasons x r).dru
    ports := (s.changeReasons x r).ports } := by
  have rest := (State.changeReasons_gateFrame s x r).rest
  rw [changeReasons_ptc] at rest
  exact rest

theorem changeReasons_gateOpen : (s.changeReasons x r).gateOpen x = clearReasons r := by
  rw [gateOpen_eq, changeReasons_ptc, PerPoint.get_set_self]

theorem clearReasons_iff : clearReasons r = true ↔ ∀ o, r.get o = false := by
  simp [clearReasons, Reason.mem_all]

/-- The announcement of a gate reaches the planner and the Drive Unit as R34 has it. -/
theorem changeReasons_announced (changed : r ≠ s.ptc.reasons.get x) : ∃ v : State,
    v = { s with ptc := { s.ptc with reasons := s.ptc.reasons.set x r }, ports := (s.changeReasons x r).ports } ∧
      s.changeReasons x r = v.announceGate x (s.gateOpen x) ∧ v.gateOpen x = clearReasons r := by
  have eq : s.changeReasons x r =
      ((s.storeReasons x r).postTo .pointChanged (s.pointAudience x)).announceGate x (s.gateOpen x) := if_neg changed
  refine ⟨(s.storeReasons x r).postTo .pointChanged (s.pointAudience x), ?_, eq, ?_⟩
  · rw [eq, announceGate_ports]
    rfl
  · rw [gateOpen_eq]
    exact congrArg clearReasons (PerPoint.get_set_self _ _ _)

theorem changeReasons_portsAfter : PortsAfter none
    (fun q c => c = .pointChanged && (decide (r ≠ s.ptc.reasons.get x) && s.pointAudience x q)) s (s.changeReasons x r) := by
  by_cases same : r = s.ptc.reasons.get x
  · have eq : s.changeReasons x r = s := if_pos same
    rw [eq]
    exact (PortsAfter.refl none s).congr rfl rfl fun _ _ => by simp [same, noPosts]
  · have eq : s.changeReasons x r =
        ((s.storeReasons x r).postTo .pointChanged (s.pointAudience x)).announceGate x (s.gateOpen x) := if_neg same
    rw [eq]
    exact (postTo_portsAfter (s.storeReasons x r) .pointChanged (s.pointAudience x)).congr rfl (announceGate_ports _ _ _)
      fun _ _ => by simp [same, toPorts]

/-- A gate that closes withdraws its loads or its permission line. -/
theorem changeReasons_closes (open_ : s.gateOpen x = true) (closed : clearReasons r = false) :
    (∀ l ∈ x.loads, (s.changeReasons x r).spl.withdrawals.get l = true ∧ (s.changeReasons x r).dru.withdrawLoads.get l = true) ∧
      ∀ z, x.gas = some z → (s.changeReasons x r).dru.withdrawGas.get z = true := by
  have changed : r ≠ s.ptc.reasons.get x := fun same => by
    rw [gateOpen_eq, ← same, closed] at open_
    cases open_
  obtain ⟨v, -, eq, now⟩ := changeReasons_announced s x r changed
  rw [eq]
  unfold State.announceGate
  rw [open_, now, closed]
  cases gas : x.gas with
  | some z =>
    refine ⟨fun l h => ?_, fun y same => ?_⟩
    · rw [Point.loads_of_gas gas] at h; cases h
    · cases same
      exact PerGas.get_set_self _ _ _
  | none =>
    refine ⟨fun l h => ⟨?_, ?_⟩, nofun⟩
    · change (v.withdrawLoads x.loads).spl.withdrawals.get l = true
      rw [State.withdrawLoads_spl]; simp [h]
    · change (v.withdrawLoads x.loads).dru.withdrawLoads.get l = true
      rw [State.withdrawLoads_dru]; simp [h]

/-- A gate that does not close withdraws nothing. -/
theorem changeReasons_releases (open_ : s.gateOpen x = true → clearReasons r = true) :
    (s.changeReasons x r).spl.withdrawals = s.spl.withdrawals ∧ (s.changeReasons x r).dru = s.dru := by
  by_cases changed : r = s.ptc.reasons.get x
  · rw [show s.changeReasons x r = s from if_pos changed]
    exact ⟨rfl, rfl⟩
  · obtain ⟨v, rest, eq, now⟩ := changeReasons_announced s x r changed
    rw [eq]
    unfold State.announceGate
    rw [now]
    have same : v.spl = s.spl ∧ v.dru = s.dru := by rw [rest]; exact ⟨rfl, rfl⟩
    obtain ⟨spl, dru⟩ := same
    cases was : s.gateOpen x <;> cases is : clearReasons r
    · exact ⟨by rw [spl], dru⟩
    · dsimp only
      split
      · exact ⟨by change v.spl.withdrawals = _; rw [spl], dru⟩
      · exact ⟨by rw [spl], dru⟩
    · rw [open_ was] at is; cases is
    · exact ⟨by rw [spl], dru⟩

/-- A gate that opens on an electric point starts a pass. -/
theorem changeReasons_opens (shut : s.gateOpen x = false) (clear : clearReasons r = true) (electric : x.electric = true) :
    ∃ b, (s.changeReasons x r).spl.pending = .building b := by
  have changed : r ≠ s.ptc.reasons.get x := fun same => by
    rw [gateOpen_eq, ← same, clear] at shut
    cases shut
  obtain ⟨v, -, eq, now⟩ := changeReasons_announced s x r changed
  rw [eq]
  unfold State.announceGate
  rw [shut, now, clear]
  dsimp only
  rw [if_pos electric]
  exact startPass_building v

/-- A gate on gas starts no pass. -/
theorem changeReasons_gas {z : Gas} (gas : x.gas = some z) : (s.changeReasons x r).spl = s.spl := by
  by_cases changed : r = s.ptc.reasons.get x
  · rw [show s.changeReasons x r = s from if_pos changed]
  · obtain ⟨v, rest, eq, now⟩ := changeReasons_announced s x r changed
    have spl : v.spl = s.spl := by rw [rest]
    have flame : x.electric = false := by
      cases x with
      | z6 | z7 | ov | gr => cases gas
      | _ => rfl
    rw [eq]
    unfold State.announceGate
    rw [gas, flame]
    split <;> exact spl

/-- Removing a reason closes no gate. -/
theorem removeReason_keeps_open (o : Reason) (open_ : s.gateOpen x = true) :
    clearReasons ((s.ptc.reasons.get x).set o false) = true := by
  rw [gateOpen_eq, clearReasons_iff] at open_
  rw [clearReasons_iff]
  intro p
  rw [PerReason.get_set]
  split
  · rfl
  · exact open_ p

theorem removeReason_releases (o : Reason) :
    (s.removeReason x o).spl.withdrawals = s.spl.withdrawals ∧ (s.removeReason x o).dru = s.dru :=
  changeReasons_releases s x _ (removeReason_keeps_open s x o)

theorem removeReason_whole (o : Reason) : s.removeReason x o = { s with
    ptc := { s.ptc with reasons := s.ptc.reasons.set x ((s.ptc.reasons.get x).set o false) }
    spl := (s.removeReason x o).spl, dru := (s.removeReason x o).dru, ports := (s.removeReason x o).ports } :=
  changeReasons_whole s x _

theorem addReason_whole (o : Reason) : s.addReason x o = { s with
    ptc := { s.ptc with reasons := s.ptc.reasons.set x ((s.ptc.reasons.get x).set o true) }
    spl := (s.addReason x o).spl, dru := (s.addReason x o).dru, ports := (s.addReason x o).ports } :=
  changeReasons_whole s x _

/-- A set that gains a reason is not empty. -/
theorem clearReasons_added (o : Reason) : clearReasons (r.set o true) = false := by
  rw [Bool.eq_false_iff]
  intro clear
  have gone := (clearReasons_iff _).1 clear o
  rw [PerReason.get_set_self] at gone
  cases gone

end

/-! ## POINT_DEMAND on gas (R23, R25, R26) -/

theorem Point.ofCode_code (x : Point) : Point.ofCode x.code = some x := by cases x <;> rfl

theorem Gas.point_gas (z : Gas) : z.point.gas = some z := by cases z <;> rfl

theorem takePointDemand_refused {s : State} {p : Port} {x : Point} (other : s.demandSource x ≠ p) (d : DemandField) :
    s.takePointDemand p x.code d = s.refuse .notAssigned := by
  unfold State.takePointDemand
  rw [Point.ofCode_code]
  exact if_neg other

theorem takePointDemand_taken {s : State} {p : Port} {x : Point} (own : s.demandSource x = p) (d : DemandField) :
    s.takePointDemand p x.code d = s.takeDemand x d := by
  unfold State.takePointDemand
  rw [Point.ofCode_code]
  exact if_pos own

theorem demandSource_gas (s : State) (z : Gas) : s.demandSource z.point = (s.ptc.panel.get z.point).port :=
  if_neg (by cases z <;> decide)

theorem takeDemand_gas (s : State) (z : Gas) (v : Nat) : s.takeDemand z.point (.gas v) =
    match onOffOfCode v with
    | some on => (s.demandGas z on).taken []
    | none => s.refuse .badValue := by
  cases z <;> rfl

/-- What a gas demand that is stored leaves. -/
theorem demandGas_whole (s : State) (z : Gas) (on : Bool) : s.demandGas z on = { s with
    ptc := { s.ptc with
      gas := s.ptc.gas.set z on
      reasons := if on then s.ptc.reasons
        else s.ptc.reasons.set z.point { s.ptc.reasons.get z.point with timerOff := false } }
    ports := (s.demandGas z on).ports } := by
  have stored : s.storeGas z on = { s with ptc := { s.ptc with gas := s.ptc.gas.set z on }, ports := (s.storeGas z on).ports } := by
    unfold State.storeGas
    dsimp only
    split <;> rfl
  unfold State.demandGas
  dsimp only
  cases on with
  | true => exact stored
  | false =>
    rw [if_neg nofun]
    generalize s.storeGas z false = v at stored
    have whole := removeReason_whole v z.point .timerOff
    have spl : (v.removeReason z.point .timerOff).spl = v.spl := changeReasons_gas v z.point _ (Gas.point_gas z)
    have dru := (removeReason_releases v z.point .timerOff).2
    generalize v.removeReason z.point .timerOff = u at whole spl dru
    have parts : u = { v with
        ptc := { v.ptc with reasons := v.ptc.reasons.set z.point ((v.ptc.reasons.get z.point).set .timerOff false) }
        ports := u.ports } := by
      rw [spl, dru] at whole
      exact whole
    rw [stored] at parts
    exact parts

theorem demandGas_portsAfter (s : State) (z : Gas) (on : Bool) : PortsAfter none (toPorts .pointChanged fun q =>
    (s.ptc.gas.get z != on || (!on && (s.ptc.reasons.get z.point).timerOff)) && s.pointAudience z.point q) s (s.demandGas z on) := by
  have stored : PortsAfter none (toPorts .pointChanged fun q => (s.ptc.gas.get z != on) && s.pointAudience z.point q) s
      (s.storeGas z on) := by
    unfold State.storeGas
    dsimp only
    split
    · next same => exact (PortsAfter.refl none s).congr rfl rfl fun _ _ => by simp [same, toPorts, noPosts]
    · next differs =>
      have changed : (s.ptc.gas.get z != on) = true := by simpa using differs
      exact (postTo_portsAfter (s.setPtc _) _ _).congr rfl rfl fun _ _ => by simp [changed, toPorts]
  have ptc : (s.storeGas z on).ptc = { s.ptc with gas := s.ptc.gas.set z on } := by
    unfold State.storeGas
    dsimp only
    split <;> rfl
  unfold State.demandGas
  dsimp only
  cases on with
  | true => exact stored.congr rfl rfl fun _ _ => by simp [toPorts]
  | false =>
    rw [if_neg nofun]
    have later := changeReasons_portsAfter (s.storeGas z false) z.point
      (((s.storeGas z false).ptc.reasons.get z.point).set .timerOff false)
    refine (stored.trans later).congr rfl rfl fun q c => ?_
    have audience : (s.storeGas z false).pointAudience z.point q = s.pointAudience z.point q := by
      unfold State.pointAudience; rw [ptc]
    have removed : ∀ r : PerReason Bool, decide (r.set .timerOff false ≠ r) = r.timerOff := by
      intro r
      obtain ⟨a, b, c, d, e⟩ := r
      cases b <;> simp [PerReason.set]
    rw [audience, removed, ptc]
    cases s.ptc.gas.get z <;> cases (s.ptc.reasons.get z.point).timerOff <;> simp [toPorts]

/-- Settles O22. -/
theorem pointDemandOnGas : Obligations.PointDemandOnGas := by
  intro p z v s lines busy
  have source := demandSource_gas s z
  refine ⟨fun other => ?_, fun own beyond => ?_, fun own fits => ?_⟩
  · exact request_onlyReplied (i := .pointDemand p _ _) (code := 0x10) lines
      ((dispatch_any busy (by decide) p _).trans (takePointDemand_refused (by rw [source]; exact Ne.symm other) _))
  · have unknown : onOffOfCode v = none := by
      match v, beyond with
      | v + 2, _ => rfl
    refine request_onlyReplied (i := .pointDemand p _ _) (code := 0x10) lines ((dispatch_any busy (by decide) p _).trans ?_)
    rw [takePointDemand_taken (source.trans own.symm), takeDemand_gas, unknown]
    rfl
  · have code : onOffOfCode v = some (decide (v = 0)) := by
      match v, fits with
      | 0, _ => rfl
      | 1, _ => rfl
    have taken : s.takePointDemand p z.point.code (.gas v) = ⟨s.demandGas z (decide (v = 0)), .ok, []⟩ := by
      rw [takePointDemand_taken (source.trans own.symm), takeDemand_gas, code]
      rfl
    have whole := demandGas_whole s z (decide (v = 0))
    obtain ⟨t, next, eq, -, posted, replied⟩ := request_taken (i := .pointDemand p _ _) (code := 0x10)
      (dispatch_any busy (by decide) p _) taken (causePresent_of_stc (by rw [whole])) (by rw [whole])
      (demandGas_portsAfter s z (decide (v = 0)))
    refine ⟨t, next, ?_, posted.congr rfl rfl fun q c => ?_, replied⟩
    · rw [whole] at eq
      by_cases zero : v = 0 <;> simpa [zero] using eq
    · have one : (decide (v = 1) : Bool) = !decide (v = 0) := by
        match v, fits with
        | 0, _ => rfl
        | 1, _ => rfl
      simp only [toPorts, State.pointAudience, one, own]

end Sys2Proof.Machine

/-! # POINT_DEMAND on electric points, and CFG_ASSIGN (R23 to R38) -/

namespace Sys2Proof.Machine

/-! ## Duties (R25, R26, R35) -/

theorem Point.loads_nodup (x : Point) : x.loads.Nodup := by cases x <;> decide

theorem Point.gas_of_electric {x : Point} (h : x.electric = true) : x.gas = none := by cases x <;> first | rfl | cases h

theorem zip_duties_fst {ls : List Load} {ds : List Nat} (same : ds.length = ls.length) :
    (ls.zip (ds.map fun d => min d 100)).map Prod.fst = ls :=
  List.map_fst_zip (by simp [same])

theorem mem_zip_duties {ls : List Load} {ds : List Nat} {k : Nat} {l : Load} {d : Nat} (load : ls[k]? = some l) (duty : ds[k]? = some d) :
    (l, min d 100) ∈ ls.zip (ds.map fun d => min d 100) := by
  refine List.mem_iff_getElem?.2 ⟨k, ?_⟩
  rw [List.getElem?_zip_eq_some]
  exact ⟨load, by simp [duty]⟩

theorem zip_duties_zero {ls : List Load} {ds : List Nat} (same : ds.length = ls.length) :
    ((ls.zip (ds.map fun d => min d 100)).all fun x => x.2 = 0) = ds.all fun d => d = 0 := by
  have snd : (ls.zip (ds.map fun d => min d 100)).map Prod.snd = ds.map fun d => min d 100 := List.map_snd_zip (by simp [same])
  have all : ((ls.zip (ds.map fun d => min d 100)).all fun x => x.2 = 0) =
      ((ls.zip (ds.map fun d => min d 100)).map Prod.snd).all fun d => d = 0 := by simp [List.all_map, Function.comp_def]
  have zero : ∀ d : Nat, decide (min d 100 = 0) = decide (d = 0) := fun d => decide_eq_decide.2 (by omega)
  rw [all, snd, List.all_map]
  simp only [Function.comp_def, zero]

/-- Withdrawing loads reaches no permission line. -/
theorem withdrawLoads_drive (s : State) (ls : List Load) :
    (s.withdrawLoads ls).dru = { s.dru with withdrawLoads := (s.withdrawLoads ls).dru.withdrawLoads } :=
  foldl_keeps (f := State.withdrawLoad) (fun s t => t.dru = { s.dru with withdrawLoads := t.dru.withdrawLoads }) (fun _ => rfl)
    (fun h k => by rw [k, h]) (fun _ _ => rfl) ls s

section
variable (s : State) (x : Point) (ds : List (Load × Nat))

theorem storeDuties_whole : s.storeDuties x ds =
    { s with ptc := { s.ptc with duty := PerLoad.setAll s.ptc.duty ds }, ports := (s.storeDuties x ds).ports } := by
  unfold State.storeDuties
  dsimp only
  split <;> rfl

/-- What duties that are stored leave. -/
structure DutiesTaken (s t : State) : Prop where
  ptc : t.ptc = { s.ptc with
    duty := PerLoad.setAll s.ptc.duty ds
    reasons := if ds.all (fun x => x.2 = 0) then s.ptc.reasons.set x { s.ptc.reasons.get x with timerOff := false }
      else s.ptc.reasons }
  planner : ∀ l, t.spl.withdrawals.get l = (s.spl.withdrawals.get l ||
    decide (l ∈ x.loads.filter fun l => s.ptc.duty.get l ≠ 0 && t.ptc.duty.get l = 0))
  drive : ∀ l, t.dru.withdrawLoads.get l = (s.dru.withdrawLoads.get l ||
    decide (l ∈ x.loads.filter fun l => s.ptc.duty.get l ≠ 0 && t.ptc.duty.get l = 0))
  pass : t.ptc.duty ≠ s.ptc.duty → ∃ (v : State) (n : BitVec 16), t.spl.pending = .building (v.snapshot n) ∧ v.ptc = t.ptc
  spl : PlannerKept s t
  dru : t.dru = { s.dru with withdrawLoads := t.dru.withdrawLoads }
  rest : t = { s with ptc := t.ptc, spl := t.spl, dru := t.dru, ports := t.ports }

theorem demandDuties_taken : DutiesTaken x ds s (s.demandDuties x ds) := by
  have stored := storeDuties_whole s x ds
  unfold State.demandDuties
  dsimp only
  generalize s.storeDuties x ds = a at stored
  have duty : a.ptc.duty = PerLoad.setAll s.ptc.duty ds := by rw [stored]
  -- the reasons, then the withdrawals
  have released : ∃ b, (if ds.all fun x => x.2 = 0 then a.removeReason x .timerOff else a) = b ∧
      b.ptc = { s.ptc with
        duty := PerLoad.setAll s.ptc.duty ds
        reasons := if ds.all (fun x => x.2 = 0) then s.ptc.reasons.set x { s.ptc.reasons.get x with timerOff := false }
          else s.ptc.reasons } ∧
      b.spl.withdrawals = s.spl.withdrawals ∧ b.dru = s.dru ∧ PlannerKept s b ∧
      b = { s with ptc := b.ptc, spl := b.spl, ports := b.ports } := by
    refine ⟨_, rfl, ?_⟩
    cases ds.all fun x => x.2 = 0 with
    | false =>
      rw [if_neg nofun, if_neg nofun]
      exact ⟨by rw [stored], by rw [stored], by rw [stored], by rw [stored]; rfl, by rw [stored]⟩
    | true =>
      obtain ⟨withdrawals, dru⟩ := removeReason_releases a x .timerOff
      have whole := removeReason_whole a x .timerOff
      have planner := (State.removeReason_gateFrame a x .timerOff).spl
      simp only [if_true]
      generalize a.removeReason x .timerOff = b at withdrawals dru whole planner
      unfold PlannerKept at planner ⊢
      rw [dru] at whole
      rw [stored] at withdrawals dru whole planner
      exact ⟨by rw [whole]; rfl, withdrawals, dru, planner, by rw [whole]⟩
  obtain ⟨b, eq, ptc, withdrawals, dru, planner, rest⟩ := released
  rw [eq]
  have c_ptc := State.withdrawLoads_ptc b (x.loads.filter fun l => s.ptc.duty.get l ≠ 0 && a.ptc.duty.get l = 0)
  have c_spl := State.withdrawLoads_spl b (x.loads.filter fun l => s.ptc.duty.get l ≠ 0 && a.ptc.duty.get l = 0)
  have c_dru := State.withdrawLoads_dru b (x.loads.filter fun l => s.ptc.duty.get l ≠ 0 && a.ptc.duty.get l = 0)
  have c_frame := State.withdrawLoads_gateFrame b (x.loads.filter fun l => s.ptc.duty.get l ≠ 0 && a.ptc.duty.get l = 0)
  have c_gas := withdrawLoads_drive b (x.loads.filter fun l => s.ptc.duty.get l ≠ 0 && a.ptc.duty.get l = 0)
  rw [duty] at *
  generalize (b.withdrawLoads (x.loads.filter fun l => s.ptc.duty.get l ≠ 0 && (PerLoad.setAll s.ptc.duty ds).get l = 0)) = c at *
  rw [withdrawals] at c_spl
  rw [dru] at c_dru c_gas
  obtain ⟨-, kept, -, whole⟩ := c_frame
  unfold PlannerKept at kept planner
  rw [planner] at kept
  rw [rest] at whole
  have parts : c = { s with ptc := c.ptc, spl := c.spl, dru := c.dru, ports := c.ports } := whole
  have same : c.ptc.duty = PerLoad.setAll s.ptc.duty ds := by rw [c_ptc, ptc]
  split
  · next still => exact ⟨c_ptc.trans ptc, by rw [same]; exact c_spl, by rw [same]; exact c_dru,
      fun moved => absurd (same.trans still) moved, kept, c_gas, parts⟩
  · have pending : c.startPass.spl.pending = .building (c.snapshot (c.spl.serial + 1)) := rfl
    have ptc' : c.startPass.ptc = c.ptc := rfl
    have drive : c.startPass.dru = c.dru := rfl
    have set : c.startPass.spl.withdrawals = c.spl.withdrawals := rfl
    obtain ⟨-, after, -, rest'⟩ := State.startPass_gateFrame c
    generalize c.startPass = u at *
    unfold PlannerKept at after
    rw [kept] at after
    rw [parts] at rest'
    exact ⟨ptc'.trans (c_ptc.trans ptc), by rw [ptc', same, set]; exact c_spl, by rw [ptc', same, drive]; exact c_dru,
      fun _ => ⟨c, _, pending, ptc'.symm⟩, after, by rw [drive]; exact c_gas, rest'⟩

end

/-- Settles O23. -/
theorem pointDemandOnElectric : Obligations.PointDemandOnElectric := by
  intro p x ds s busy electric source count
  have taken : s.takePointDemand p x.code (.duties ds) =
      ⟨s.demandDuties x (x.loads.zip (ds.map fun d => min d 100)), .ok, []⟩ := by
    rw [takePointDemand_taken (p := p) source.symm]
    unfold State.takeDemand
    rw [Point.gas_of_electric electric]
    exact if_neg (not_not_intro count)
  have fst := zip_duties_fst count
  have zero := zip_duties_zero count
  have each : ∀ (k : Nat) (l : Load) (d : Nat), x.loads[k]? = some l → ds[k]? = some d →
      (l, min d 100) ∈ x.loads.zip (ds.map fun d => min d 100) := fun _ _ _ => mem_zip_duties
  have done := demandDuties_taken s x (x.loads.zip (ds.map fun d => min d 100))
  obtain ⟨t, next, closed, replied⟩ := request_closed (i := .pointDemand p x.code (.duties ds)) (code := 0x10)
    (dispatch_any busy (by decide) p (s.takePointDemand p x.code (.duties ds)))
  rw [taken] at closed replied
  change Closed _ s (s.demandDuties x _) t at closed
  generalize s.demandDuties x (x.loads.zip (ds.map fun d => min d 100)) = u at closed done
  generalize x.loads.zip (ds.map fun d => min d 100) = zs at done fst zero each
  obtain ⟨ptc, planner, drive, pass, spl, dru, rest⟩ := done
  have duty : t.ptc.duty = PerLoad.setAll s.ptc.duty zs := by rw [closed.ptc, ptc]
  have withdrawals : t.spl.withdrawals = u.spl.withdrawals := by rw [closed.pass]
  have other : ∀ l, l ∉ x.loads → t.ptc.duty.get l = s.ptc.duty.get l := fun l h => by
    rw [duty, PerLoad.setAll_of_not_mem _ (by rw [fst]; exact h)]
  have fell : ∀ l, l ∈ (x.loads.filter fun l => s.ptc.duty.get l ≠ 0 && u.ptc.duty.get l = 0) ↔
      s.ptc.duty.get l ≠ 0 ∧ t.ptc.duty.get l = 0 := fun l => by
    rw [← closed.ptc, List.mem_filter]
    simp only [Bool.and_eq_true, decide_eq_true_eq]
    refine ⟨fun h => h.2, fun h => ⟨?_, h⟩⟩
    by_contra absent
    exact h.1 ((other l absent).symm.trans h.2)
  refine ⟨t, next, replied, fun k l d load given => ?_, other, fun l was is => ?_, fun l stays => ?_, ?_, fun changed => ?_, ?_⟩
  · rw [duty]
    exact PerLoad.setAll_of_mem _ (by rw [fst]; exact Point.loads_nodup x) (each k l d load given)
  · rw [withdrawals, closed.dru, planner, drive, decide_eq_true ((fell l).2 ⟨was, is⟩)]
    simp
  · have absent : ¬ l ∈ (x.loads.filter fun l => s.ptc.duty.get l ≠ 0 && u.ptc.duty.get l = 0) := by
      rw [fell]
      rintro ⟨was, is⟩
      exact stays.elim was fun h => h is
    rw [withdrawals, closed.dru, planner, drive, decide_eq_false absent]
    simp
  · rw [closed.ptc, ptc, zero]
  · rw [closed.ptc] at changed
    obtain ⟨v, n, building, same⟩ := pass changed
    rw [closed.ptc]
    obtain pending | pending := closed.pending_cases building
    · exact ⟨_, pending, fun l => by rw [← same]; exact congrArg LoadInput.duty (PerLoad.get_of _ l)⟩
    · exact ⟨_, pending, fun l => congrArg LoadInput.duty (PerLoad.get_of _ l)⟩
  · have whole := closed.gated (causePresent_of_stc (by rw [rest]))
    have kept := closed.planner
    unfold PlannerKept at spl
    rw [spl] at kept
    rw [rest] at whole
    have spl' : t.spl = { s.spl with pending := t.spl.pending, serial := t.spl.serial, withdrawals := t.spl.withdrawals } := by
      rw [kept]
    rw [← spl', closed.ptc, closed.dru, ← dru]
    exact whole

/-! ## CFG_ASSIGN (R35, R36, R38) -/

theorem zeroDemand_withdrawals (s : State) (x : Point) (l : Load) : (s.zeroDemand x).spl.withdrawals.get l =
    (s.spl.withdrawals.get l || (decide (l.point = x) && decide (s.ptc.duty.get l ≠ 0))) := by
  unfold State.zeroDemand
  split
  · next z gas =>
    have other : l.point ≠ x := fun h => by
      have mem := (Point.mem_loads l x).2 h
      rw [Point.loads_of_gas gas] at mem
      cases mem
    simp [other]
  · rw [State.withdrawLoads_spl]
    simp [Point.mem_loads]

theorem takeCfgAssign_one (s : State) (op : s.stc.op = .config) (x : Point) (q : Panel) :
    s.takeCfgAssign [{ point := x.code, role := if q = .a then 1 else 2 }] = ⟨s.assign (x, q), .ok, []⟩ := by
  have entries : assignEntries [{ point := x.code, role := if q = .a then 1 else 2 }] = some [(x, q)] := by
    cases x <;> cases q <;> rfl
  unfold State.takeCfgAssign
  rw [if_neg (not_not_intro op), entries]
  rfl

/-- What an assignment that moves a point leaves. -/
structure Assigned (x : Point) (q : Panel) (s t : State) : Prop where
  ptc : t.ptc = if x = .ov then { s.ptc with panel := s.ptc.panel.set x q }
    else { s.ptc with panel := s.ptc.panel.set x q }.zeroed x
  withdrawals : ∀ l, t.spl.withdrawals.get l =
    (s.spl.withdrawals.get l || (l.point = x && x ≠ .ov && s.ptc.duty.get l ≠ 0))
  spl : PlannerKept s t
  dru : t.dru = { s.dru with withdrawLoads := t.dru.withdrawLoads, withdrawGas := t.dru.withdrawGas }
  rest : t = { s with ptc := t.ptc, spl := t.spl, dru := t.dru, ports := t.ports }
  ports : PortsAfter none (toAll .pointChanged) s t

theorem zeroDemand_ports (s : State) (x : Point) : (s.zeroDemand x).ports = s.ports := by
  unfold State.zeroDemand
  split
  · rfl
  · exact withdrawLoads_ports _ _

theorem assign_moves (s : State) {x : Point} {q : Panel} (other : s.ptc.panel.get x ≠ q) : Assigned x q s (s.assign (x, q)) := by
  unfold State.assign
  rw [if_neg other]
  dsimp only
  have told : ∀ u : State, u.ports = s.ports → PortsAfter none (toAll .pointChanged) s (u.postAll .pointChanged) := fun u ports =>
    (postTo_portsAfter u .pointChanged fun _ => true).congr ports.symm rfl fun _ _ => (Bool.and_true _).symm
  by_cases ov : x = .ov
  · rw [if_pos ov]
    refine ⟨by rw [if_pos ov]; rfl, fun l => ?_, rfl, rfl, rfl, told _ rfl⟩
    simp [ov]
  · rw [if_neg ov]
    have ptc := zeroDemand_ptc (s.setPtc { s.ptc with panel := s.ptc.panel.set x q }) x
    have withdrawals := zeroDemand_withdrawals (s.setPtc { s.ptc with panel := s.ptc.panel.set x q }) x
    obtain ⟨-, spl, dru, rest⟩ := zeroDemand_frame (s.setPtc { s.ptc with panel := s.ptc.panel.set x q }) x
    have ports := zeroDemand_ports (s.setPtc { s.ptc with panel := s.ptc.panel.set x q }) x
    generalize (s.setPtc { s.ptc with panel := s.ptc.panel.set x q }).zeroDemand x = u at *
    refine ⟨by rw [if_neg ov]; exact ptc, fun l => ?_, spl, dru, ?_, told u ports⟩
    · refine (withdrawals l).trans ?_
      by_cases zero : s.ptc.duty.get l = 0 <;> simp [ov, zero]
    · rw [rest]; rfl

/-- Settles O25. -/
theorem cfgAssignMovesAPoint : Obligations.CfgAssignMovesAPoint := by
  intro x q s lines op
  have busy : s.stc.op ≠ .selftest := by rw [op]; nofun
  have taken := takeCfgAssign_one s op x q
  by_cases same : s.ptc.panel.get x = q
  · have stays : s.assign (x, q) = s := if_pos same
    rw [stays] at taken
    obtain ⟨t, next, eq, posted, replied⟩ := request_onlyReplied (i := .cfgAssign .supervisor _) (code := 0x42) lines
      ((dispatch_supervisor _ busy).trans taken)
    refine ⟨t, next, replied, ?_, by rw [eq], fun _ => ⟨eq, posted⟩, fun other => absurd same other⟩
    rw [eq]
    refine PerPoint.eq_of_get fun y => ?_
    rw [PerPoint.get_set]
    split
    · next e => rw [e]; exact same
    · rfl
  · obtain ⟨t, next, closed, replied⟩ := request_closed (i := .cfgAssign .supervisor _) (code := 0x42)
      (dispatch_supervisor (s.takeCfgAssign [{ point := x.code, role := if q = .a then 1 else 2 }]) busy)
    rw [taken] at closed replied
    have moved := assign_moves s same
    change Closed _ s (s.assign (x, q)) t at closed
    generalize s.assign (x, q) = u at closed moved
    obtain ⟨ptc, withdrawals, spl, dru, rest, ports⟩ := moved
    have causes : ∀ c, u.causePresent c = s.causePresent c := causePresent_of_stc (by rw [rest])
    have kept := closed.planner
    unfold PlannerKept at spl
    rw [spl] at kept
    have whole := closed.gated causes
    refine ⟨t, next, replied, ?_, ?_, fun e => absurd e same, fun _ => ⟨?_, fun z => ?_, fun l => ?_, fun l => ?_, ?_, ?_, ?_, ?_, ?_⟩⟩
    · rw [closed.ptc, ptc]; split <;> rfl
    · rw [closed.ptc, ptc]; split <;> rfl
    · exact ((ports.weaken .supervisor).trans (closed.portsAfter causes)).congr rfl rfl fun _ _ => (Bool.or_false _).symm
    · rw [closed.ptc, ptc]
      split
      · next ov => rw [ov]; cases z <;> simp [Gas.point]
      · by_cases at_x : z.point = x <;> simp [Ptc.zeroed, at_x]
    · rw [closed.ptc, ptc]
      split
      · next ov => rw [if_neg fun h => h.2 ov]
      · next ov => by_cases at_x : l.point = x <;> simp [Ptc.zeroed, at_x, ov]
    · rw [kept]; exact withdrawals l
    · unfold PlannerKept; rw [kept]
    · unfold DriveKept; rw [closed.dru, dru]
    · rw [closed.ptc, ptc]; split <;> rfl
    · rw [closed.ptc, ptc]; split <;> rfl
    · rw [rest] at whole
      rw [closed.ptc, closed.dru]
      exact whole

end Sys2Proof.Machine

/-! # Settings that are stored (R97, R98, R133, R151, R154) -/

namespace Sys2Proof.Machine

/-! ## A request that a condition refuses, and stores otherwise -/

/-- A request that REFUSED_STATE answers where `closed` holds; elsewhere it stores what it carries, and no line moves. -/
theorem request_conditional {s : State} {i : Instr} {code : Byte} {p : Port} {take : Taken} {u : State} {data : List Byte}
    {closed : Prop} [Decidable closed] (lines : s.LinesFollow) (passed : s.dispatch code p take = take)
    (took : take = if closed then s.refuse .refusedState else ⟨u, .ok, data⟩) (stc : u.stc = s.stc)
    (serial : u.spl.serial = s.spl.serial) (entries : u.alc.entries = s.alc.entries) (ports : u.ports = s.ports)
    (pins : u.pins = s.pins) : ∃ t, request i code p s take = .next t ∧
      (closed → OnlyReplied p (replyCode code) .refusedState [] s t) ∧
      (¬ closed → t = { u with ports := t.ports } ∧ PortsAfter (some p) noPosts s t ∧ t.Replied p (replyCode code) .ok data) := by
  by_cases h : closed
  · obtain ⟨t, next, only⟩ := request_onlyReplied (i := i) lines (passed.trans (took.trans (if_pos h)))
    exact ⟨t, next, fun _ => only, fun n => absurd h n⟩
  · obtain ⟨t, next, stored⟩ := request_stored (i := i) lines passed (took.trans (if_neg h)) stc serial entries ports pins
    exact ⟨t, next, fun k => absurd k h, fun _ => stored⟩

/-! ## VERIFY_SET, CFG_LIMITS and SENSE_CONFIG (R133, R151, R154) -/

theorem Load.ofCode_index (l : Load) : Load.ofCode l.index = some l := by cases l <;> rfl

theorem Sensor.ofCode_index (c : Sensor) : Sensor.ofCode c.index = some c := by cases c <;> rfl

section
variable (s : State)

theorem takeVerifySet_fixed (l : Load) (w : Nat) : s.takeVerifySet (some (.fixed l.index)) (some w) none none =
    if s.stc.op = .lockout then s.refuse .refusedState
    else
      let d := { s.dru with verifier := { s.dru.verifier with mode := .fixed l, tolerance := min 10 w } }
      ⟨s.setDru d, .ok, d.settings⟩ := by
  have set : s.dru.verifySet (some (.fixed l.index)) (some w) none none =
      { s.dru with verifier := { s.dru.verifier with mode := .fixed l, tolerance := min 10 w } } := by
    simp [Dru.verifySet, modeOfField, Load.ofCode_index, clampNat]
  have mode : modeOfField (.fixed l.index) = some (.fixed l) := by simp [modeOfField, Load.ofCode_index]
  unfold State.takeVerifySet
  rw [set]
  by_cases op : s.stc.op = .lockout <;> simp [State.checked, firstFailure, mode, op, State.taken]

theorem takeVerifySet_masks {relay valve : Nat} (relayFits : relay < 128) (valveFits : valve < 32) :
    s.takeVerifySet none none (some relay) (some valve) =
    if s.stc.op ≠ .config then s.refuse .refusedState
    else
      let d := { s.dru with
        relay := { s.dru.relay with mask := .of fun l => relay.testBit l.index }
        valve := { s.dru.valve with mask := .of fun z => valve.testBit z.index } }
      ⟨s.setDru d, .ok, d.settings⟩ := by
  have loads : loadsOfBits relay = some (.of fun l => relay.testBit l.index) := if_pos relayFits
  have gas : gasOfBits valve = some (.of fun z => valve.testBit z.index) := if_pos valveFits
  have set : s.dru.verifySet none none (some relay) (some valve) = { s.dru with
      relay := { s.dru.relay with mask := .of fun l => relay.testBit l.index }
      valve := { s.dru.valve with mask := .of fun z => valve.testBit z.index } } := by
    simp [Dru.verifySet, loads, gas]
  unfold State.takeVerifySet
  rw [set]
  by_cases op : s.stc.op = .config <;> simp [State.checked, firstFailure, loads, gas, op, State.taken]

theorem takeCfgLimits_both (a b : Int) : s.takeCfgLimits (some a) (some b) =
    if s.stc.op = .lockout then s.refuse .refusedState
    else ⟨s.setSnu { s.snu with cavLimit := max 100 (min 560 a), grlLimit := max 100 (min 560 b) }, .ok,
      encTemp (max 100 (min 560 a)) ++ encTemp (max 100 (min 560 b))⟩ := by
  by_cases op : s.stc.op = .lockout <;>
    simp [State.takeCfgLimits, State.checked, firstFailure, op, State.taken, clampLimit, clampInt]

theorem averagingOf_eq (n : Nat) : averagingOf n = if n < 4 then 2 else if n < 8 then 4 else if n < 16 then 8 else 16 := by
  unfold averagingOf
  split_ifs <;> omega

theorem takeSenseConfig_calibration (c : Sensor) (n gain : Nat) (offset : Int) :
    s.takeSenseConfig none (some n) (some [⟨c.index, some gain, some offset⟩]) false =
    if s.stc.op = .lockout then s.refuse .refusedState
    else
      let v := { s.snu with
        averaging := if n < 4 then 2 else if n < 8 then 4 else if n < 16 then 8 else 16
        channels := s.snu.channels.set c { s.snu.channels.get c with gain := min gain 255, offset := max (-128) (min 127 offset) } }
      ⟨s.setSnu v, .ok, v.settings⟩ := by
  have set : s.snu.configured none (some n) (some [⟨c.index, some gain, some offset⟩]) false = { s.snu with
      averaging := if n < 4 then 2 else if n < 8 then 4 else if n < 16 then 8 else 16
      channels := s.snu.channels.set c
        { s.snu.channels.get c with gain := min gain 255, offset := max (-128) (min 127 offset) } } := by
    simp [Snu.configured, averagingOf_eq, applyCals, Sensor.ofCode_index, SensorRecord.calibrated, clampInt]
  have allowed : calsAllowed [⟨c.index, some gain, some offset⟩] = true := by simp [calsAllowed, calAllowed, Sensor.ofCode_index]
  unfold State.takeSenseConfig
  rw [set]
  by_cases op : s.stc.op = .lockout <;> simp [State.checked, firstFailure, allowed, op, State.taken]

theorem takeSenseConfig_restore {mask : Nat} (fits : mask < 16) : s.takeSenseConfig (some mask) none none true =
    if s.stc.op ≠ .config then s.refuse .refusedState
    else
      let v := { s.snu with
        mask := .of fun c => mask.testBit c.index
        channels := .of fun c => { s.snu.channels.get c with gain := 64, offset := 0 } }
      ⟨s.setSnu v, .ok, v.settings⟩ := by
  have sensors : sensorsOfBits mask = some (.of fun c => mask.testBit c.index) := if_pos fits
  have set : s.snu.configured (some mask) none none true = { s.snu with
      mask := .of fun c => mask.testBit c.index
      channels := .of fun c => { s.snu.channels.get c with gain := 64, offset := 0 } } := by
    simp [Snu.configured, sensors, SensorRecord.restored]
  unfold State.takeSenseConfig
  rw [set]
  by_cases op : s.stc.op = .config <;> simp [State.checked, firstFailure, sensors, op, State.taken]

end

/-- Settles O49. -/
theorem settingsAreStored : Obligations.SettingsAreStored := by
  intro s lines busy
  refine ⟨fun l w => ?_, fun relay valve relayFits valveFits => ?_, fun a b => ?_, fun c n gain offset => ?_, fun mask fits => ?_⟩
  · obtain ⟨t, next, refused, stored⟩ := request_conditional (i := .verifySet .supervisor (some (.fixed l.index)) (some w) none none)
      (code := 0x32) lines (dispatch_supervisor _ busy) (takeVerifySet_fixed s l w) rfl rfl rfl rfl rfl
    refine ⟨t, next, refused, fun open_ => ?_⟩
    obtain ⟨eq, posted, replied⟩ := stored open_
    exact ⟨eq, posted, by rw [eq]; exact replied⟩
  · obtain ⟨t, next, refused, stored⟩ := request_conditional (i := .verifySet .supervisor none none (some relay) (some valve))
      (code := 0x32) lines (dispatch_supervisor _ busy) (takeVerifySet_masks s relayFits valveFits) rfl rfl rfl rfl rfl
    refine ⟨t, next, refused, fun op => ?_⟩
    obtain ⟨eq, posted, replied⟩ := stored (not_not_intro op)
    exact ⟨eq, posted, by rw [eq]; exact replied⟩
  · obtain ⟨t, next, refused, stored⟩ := request_conditional (i := .cfgLimits .supervisor (some a) (some b)) (code := 0x44) lines
      (dispatch_supervisor _ busy) (takeCfgLimits_both s a b) rfl rfl rfl rfl rfl
    refine ⟨t, next, refused, fun open_ => ?_⟩
    obtain ⟨eq, posted, replied⟩ := stored open_
    exact ⟨eq, posted, by rw [eq]; exact replied⟩
  · obtain ⟨t, next, refused, stored⟩ := request_conditional
      (i := .senseConfig .supervisor none (some n) (some [⟨c.index, some gain, some offset⟩]) false) (code := 0x39) lines
      (dispatch_supervisor _ busy) (takeSenseConfig_calibration s c n gain offset) rfl rfl rfl rfl rfl
    refine ⟨t, next, refused, fun open_ => ?_⟩
    obtain ⟨eq, posted, replied⟩ := stored open_
    exact ⟨eq, posted, by rw [eq]; exact replied⟩
  · obtain ⟨t, next, refused, stored⟩ := request_conditional (i := .senseConfig .supervisor (some mask) none none true) (code := 0x39)
      lines (dispatch_supervisor _ busy) (takeSenseConfig_restore s fits) rfl rfl rfl rfl rfl
    refine ⟨t, next, refused, fun op => ?_⟩
    obtain ⟨eq, posted, replied⟩ := stored (not_not_intro op)
    exact ⟨eq, posted, by rw [eq]; exact replied⟩

/-! ## A pass that a command starts (R108, R109) -/

theorem serial_moves (n : BitVec 16) : n + 1 ≠ n := by bv_omega

/-- Everything a snapshot reads is left alone by the start of the pass itself. -/
theorem startPass_snapshot (s : State) : s.startPass.snapshot = s.snapshot := snapshot_congr rfl rfl rfl rfl rfl rfl rfl

/-- The planner after a command whose last act was to start its one pass. -/
theorem Closed.passed {who : Option Port} {s v t : State} (h : Closed who s v.startPass t) (serial : v.spl.serial = s.spl.serial) :
    t.spl = { v.spl with serial := s.spl.serial + 1, pending := .building (v.snapshot (s.spl.serial + 1)) } := by
  have pass := h.pass
  rw [startPass_snapshot] at pass
  have building : v.startPass.spl =
      { v.spl with serial := s.spl.serial + 1, pending := .building (v.snapshot (s.spl.serial + 1)) } := by
    rw [← serial]; rfl
  rw [building] at pass
  rw [pass]
  dsimp only
  rw [retaken_building (serial_moves _)]
  rfl

/-- A request that stores what it carries and starts a pass: no line moves. -/
theorem request_passed {s : State} {i : Instr} {code : Byte} {p : Port} {take : Taken} {v : State} {data : List Byte}
    (lines : s.LinesFollow) (passed : s.dispatch code p take = take) (took : take = ⟨v.startPass, .ok, data⟩)
    (stc : v.stc = s.stc) (serial : v.spl.serial = s.spl.serial) (alc : v.alc = s.alc) (ports : v.ports = s.ports) (pins : v.pins = s.pins) :
    ∃ t, request i code p s take = .next t ∧
      t = { v with spl := { v.spl with serial := s.spl.serial + 1, pending := .building (v.snapshot (s.spl.serial + 1)) }
                   ports := t.ports } ∧
      PortsAfter (some p) noPosts s t ∧ t.Replied p (replyCode code) .ok data := by
  subst took
  obtain ⟨t, next, closed, replied⟩ := request_closed (i := i) passed
  have causes : ∀ c, v.startPass.causePresent c = s.causePresent c := causePresent_of_stc stc
  have posted : PortsAfter (some p) noPosts s t := (closed.portsAfter causes).congr ports.symm rfl fun _ _ => rfl
  have whole := closed.gated causes
  rw [closed.passed serial] at whole
  refine ⟨t, next, ?_, posted, replied⟩
  have same : t.lines = s.lines := by
    refine lines_congr ?_ ?_ ?_ posted.unposted
    · rw [closed.stc]; exact congrArg Stc.faults stc
    · rw [closed.stc]; exact congrArg Stc.faultMask stc
    · rw [(closed.quiet causes).1]; exact congrArg Alc.entries alc
  have still : t.pins = v.pins := (closed.lines.trans same).trans (lines.symm.trans pins.symm)
  rw [still] at whole
  exact whole

/-! ## CFG_BUDGET and CFG_LOADS (R97, R98, R103) -/

section
variable (s : State)

theorem takeCfgBudget_testing (op : s.stc.op = .config) (running : s.dru.test.status = .running) (w : Nat) :
    s.takeCfgBudget w = s.refuse .busy := by
  simp [State.takeCfgBudget, State.checked, firstFailure, State.testing, op, running]

theorem takeCfgBudget_lockout (op : s.stc.op = .lockout) (w : Nat) : s.takeCfgBudget w = s.refuse .refusedState := by
  simp [State.takeCfgBudget, State.checked, firstFailure, State.testing, op]

theorem takeCfgBudget_taken (idle : ¬ (s.stc.op = .config ∧ s.dru.test.status = .running)) (open_ : s.stc.op ≠ .lockout) (w : Nat) :
    s.takeCfgBudget w = ⟨(s.setSpl { s.spl with budget := budgetOf w }).startPass, .ok, enc2 (budgetOf w)⟩ := by
  have idle' : s.testing = false := by simpa [State.testing] using idle
  simp [State.takeCfgBudget, State.checked, firstFailure, idle', open_, State.taken]

theorem takeCfgLoads_refused (op : s.stc.op ≠ .config) (fs : List LoadField) : s.takeCfgLoads fs = s.refuse .refusedState := by
  simp [State.takeCfgLoads, State.checked, firstFailure, op]

theorem takeCfgLoads_testing (op : s.stc.op = .config) (running : s.dru.test.status = .running) (fs : List LoadField) :
    s.takeCfgLoads fs = s.refuse .busy := by
  simp [State.takeCfgLoads, State.checked, firstFailure, State.testing, op, running]

theorem takeCfgLoads_one (op : s.stc.op = .config) (idle : s.dru.test.status ≠ .running) {l : Load} {w o : Nat} {on : Bool}
    (power : w = 0 ∨ w % 10 = 0 ∧ 10 ≤ w ∧ w ≤ 3000) (pin : o < 40) :
    s.takeCfgLoads [⟨l.index, some w, some (if on then 0 else 1), some o⟩] =
      ⟨(s.setSpl { s.spl with
        loads := s.spl.loads.set l ⟨w, on, some o⟩
        arrears := if on then s.spl.arrears else s.spl.arrears.set l 0 }).startPass, .ok, []⟩ := by
  have code : onOffOfCode (if on then 0 else 1) = some on := by cases on <;> rfl
  have pinCode : pinOfCode o = some (some o) := if_pos pin
  have powerFits : powerAllowed w = true := by simpa [powerAllowed, and_assoc] using power
  have allowed : loadFieldsAllowed [⟨l.index, some w, some (if on then 0 else 1), some o⟩] = true := by
    simp [loadFieldsAllowed, loadFieldAllowed, Load.ofCode_index, powerFits, code, pinCode]
  have applied : s.spl.applyLoad ⟨l.index, some w, some (if on then 0 else 1), some o⟩ = { s.spl with
      loads := s.spl.loads.set l ⟨w, on, some o⟩
      arrears := if on then s.spl.arrears else s.spl.arrears.set l 0 } := by
    cases on <;> simp [Spl.applyLoad, Load.ofCode_index, LoadRecord.updated, pinCode, onOffOfCode]
  simp [State.takeCfgLoads, State.checked, firstFailure, State.testing, op, idle, allowed, applied, State.taken]

end

/-- Settles O44. -/
theorem loadsAndBudgetAreStored : Obligations.LoadsAndBudgetAreStored := by
  intro s lines busy
  refine ⟨fun w => ?_, fun l w o on power pin => ?_⟩
  · by_cases testing : s.stc.op = .config ∧ s.dru.test.status = .running
    · obtain ⟨op, running⟩ := testing
      obtain ⟨t, next, only⟩ := request_onlyReplied (i := .cfgBudget .supervisor w) (code := 0x41) lines
        ((dispatch_supervisor _ busy).trans (takeCfgBudget_testing s op running w))
      refine ⟨t, next, fun h => ?_, fun _ _ => only, fun h => ?_⟩
      · rw [op] at h; cases h
      · simp [op, running] at h
    · by_cases closed : s.stc.op = .lockout
      · obtain ⟨t, next, only⟩ := request_onlyReplied (i := .cfgBudget .supervisor w) (code := 0x41) lines
          ((dispatch_supervisor _ busy).trans (takeCfgBudget_lockout s closed w))
        exact ⟨t, next, fun _ => only, fun op running => absurd ⟨op, running⟩ testing, fun h => by simp [closed] at h⟩
      · obtain ⟨t, next, eq, posted, replied⟩ := request_passed (i := .cfgBudget .supervisor w) (code := 0x41) lines
          (dispatch_supervisor _ busy) (takeCfgBudget_taken s testing closed w) rfl rfl rfl rfl rfl
        refine ⟨t, next, fun h => absurd h closed, fun op running => absurd ⟨op, running⟩ testing, fun _ => ⟨?_, posted, ?_⟩⟩
        · exact ⟨(s.setSpl { s.spl with budget := budgetOf w }).snapshot (s.spl.serial + 1), rfl, rfl, eq⟩
        · rw [eq]; exact replied
  · by_cases op : s.stc.op = .config
    · by_cases running : s.dru.test.status = .running
      · obtain ⟨t, next, only⟩ := request_onlyReplied (i := .cfgLoads .supervisor _) (code := 0x40) lines
          ((dispatch_supervisor _ busy).trans (takeCfgLoads_testing s op running _))
        exact ⟨t, next, fun h => absurd op h, fun _ _ => only, fun _ h => absurd running h⟩
      · obtain ⟨t, next, eq, posted, replied⟩ := request_passed (i := .cfgLoads .supervisor _) (code := 0x40) lines
          (dispatch_supervisor _ busy) (takeCfgLoads_one s op running power pin) rfl rfl rfl rfl rfl
        refine ⟨t, next, fun h => absurd op h, fun _ h => absurd h running, fun _ _ => ⟨⟨_, rfl, ?_, eq⟩, posted, replied⟩⟩
        have record : (s.spl.loads.set l ⟨w, on, some o⟩).get l = ⟨w, on, some o⟩ := PerLoad.get_set_self _ _ _
        simp [State.snapshot, State.loadInput, record]
    · obtain ⟨t, next, only⟩ := request_onlyReplied (i := .cfgLoads .supervisor _) (code := 0x40) lines
        ((dispatch_supervisor _ busy).trans (takeCfgLoads_refused s op _))
      exact ⟨t, next, fun _ => only, fun h => absurd h op, fun h => absurd h op⟩

end Sys2Proof.Machine

/-! # What a frame spells (R191, R192) -/

namespace Sys2Proof.Machine

/-- Every value that a reader can give meets a predicate. -/
def Yields {α : Type} (P : α → Prop) (f : Field α) : Prop := ∀ bs v rest, f bs = some (v, rest) → P v

theorem Yields.pure {α : Type} {P : α → Prop} {v : α} (h : P v) : Yields P (pure v : Field α) := by
  intro bs w rest read
  cases read
  exact h

theorem Yields.bind {α β : Type} {P : β → Prop} {f : Field α} {g : α → Field β} (h : ∀ v, Yields P (g v)) : Yields P (f >>= g) := by
  intro bs w rest read
  obtain ⟨⟨v, left⟩, -, read⟩ := Option.bind_eq_some_iff.1 read
  exact h v left w rest read

/-- A request read under a code: from the port, with that code's reply code, the supervisor's alone as R192 has it, and one of the
two that reach their block in SELFTEST exactly where its code is (R191 to R193). -/
structure Spells (p : Port) (n : Nat) (i : Instr) : Prop where
  request : asRequest i = some (p, replyCode (BitVec.ofNat 8 n), supervisorCodes.contains (BitVec.ofNat 8 n))
  always : selftestCodes.contains (BitVec.ofNat 8 n) = true ↔ i = .stateRead p ∨ i = .faultRead p

section
variable (p : Port) {n : Nat} {f : Field Instr}

theorem timerPayload_spells (h : timerPayload p n = some f) : Yields (Spells p n) f := by
  unfold timerPayload at h
  split at h <;> cases h
  all_goals
    repeat' refine Yields.bind fun _ => ?_
    exact .pure ⟨rfl, by simp [selftestCodes]⟩

theorem seqPayload_spells (h : seqPayload p n = some f) : Yields (Spells p n) f := by
  unfold seqPayload at h
  split at h <;> cases h
  all_goals
    repeat' refine Yields.bind fun _ => ?_
    exact .pure ⟨rfl, by simp [selftestCodes]⟩

theorem drivePayload_spells (h : drivePayload p n = some f) : Yields (Spells p n) f := by
  unfold drivePayload at h
  split at h <;> cases h
  all_goals
    repeat' refine Yields.bind fun _ => ?_
    exact .pure ⟨rfl, by simp [selftestCodes]⟩

theorem configPayload_spells (h : configPayload p n = some f) : Yields (Spells p n) f := by
  unfold configPayload at h
  split at h <;> cases h
  all_goals
    repeat' refine Yields.bind fun _ => ?_
    exact .pure ⟨rfl, by simp [selftestCodes]⟩

theorem reportPayload_spells (h : reportPayload p n = some f) : Yields (Spells p n) f := by
  unfold reportPayload at h
  split at h <;> cases h
  all_goals
    repeat' refine Yields.bind fun _ => ?_
    exact .pure ⟨rfl, by simp [selftestCodes]⟩

theorem payloadOf_spells (h : payloadOf p n = some f) : Yields (Spells p n) f := by
  unfold payloadOf at h
  rw [Option.or_eq_some_iff, Option.or_eq_some_iff, Option.or_eq_some_iff, Option.or_eq_some_iff] at h
  obtain h | ⟨-, h | ⟨-, h | ⟨-, h | ⟨-, h⟩⟩⟩⟩ := h
  · exact timerPayload_spells p h
  · exact seqPayload_spells p h
  · exact drivePayload_spells p h
  · exact configPayload_spells p h
  · exact reportPayload_spells p h

theorem decodeRequest_spells {code : Byte} {payload : List Byte} {i : Instr} (h : decodeRequest p code payload = .ok i) :
    Spells p code.toNat i := by
  unfold decodeRequest at h
  split at h
  · cases h
  · next f known =>
    split at h
    · next i' read =>
      cases h
      exact payloadOf_spells p known payload i [] read
    · cases h

end

/-- The checks of R191 that a port unit makes last, on a request that its frame spells. -/
theorem portRefusal_spelled {p : Port} {code c : Byte} {payload : List Byte} {i : Instr} {only : Bool} (op : OpState)
    (h : decodeRequest p code payload = .ok i) (request : asRequest i = some (p, c, only)) : replyCode code = c ∧
      portRefusal op code p =
        if only = true ∧ p ≠ .supervisor then some .notPermitted
        else if op = .selftest ∧ i ≠ .stateRead p ∧ i ≠ .faultRead p then some .busy else none := by
  obtain ⟨same, always⟩ := decodeRequest_spells p h
  rw [BitVec.ofNat_toNat, BitVec.setWidth_eq] at same always
  rw [same] at request
  cases request
  refine ⟨rfl, ?_⟩
  have barred : roleAllowed code p = false ↔ supervisorCodes.contains code = true ∧ p ≠ .supervisor := by
    simp [roleAllowed, and_comm]
  have closed : selftestCodes.contains code = false ↔ i ≠ .stateRead p ∧ i ≠ .faultRead p := by
    rw [← not_or, ← always, Bool.not_eq_true]
  simp only [portRefusal, barred, closed]

end Sys2Proof.Machine

/-! # The receivers and the dispatch of frames (R188 to R194) -/

namespace Sys2Proof.Machine

theorem PerPort.set_same {α : Type} (t : PerPort α) (p : Port) : t.set p (t.get p) = t :=
  PerPort.eq_of_get fun q => by
    rw [PerPort.get_set]
    split
    · next e => rw [e]
    · rfl

/-- An event at one port unit that posts nothing changes that port unit, and no line moves. -/
theorem port_exact {i : Instr} {s : State} {p : Port} {v : PortUnit} (lines : s.LinesFollow) (h : asRequest i = none) (n : i ≠ .coldReset)
    (effect : s.effect i = s.setPorts (s.ports.set p v)) (posted : v.posted = (s.ports.get p).posted)
    (mask : v.eventMask = (s.ports.get p).eventMask) : exec i s = .next { s with ports := s.ports.set p v } := by
  have same : (s.setPorts (s.ports.set p v)).lines = s.lines := lines_congr rfl rfl rfl fun q => by
    rw [State.setPorts_ports, PerPort.get_set]
    split
    · next e => rw [e]; exact ⟨posted, mask⟩
    · exact ⟨rfl, rfl⟩
  have pins : s.pins = s.lines := lines
  have quiet : settle s (s.setPorts (s.ports.set p v)) = (s.setPorts (s.ports.set p v)).setLines :=
    settle_quiet (causePresent_of_stc rfl) rfl
  rw [exec_event h n s, effect, quiet, State.setLines, same, ← pins]
  rfl

/-- An event that a port unit takes no notice of. -/
theorem port_ignores {i : Instr} {s : State} (p : Port) (lines : s.LinesFollow) (h : asRequest i = none) (n : i ≠ .coldReset)
    (effect : s.effect i = s) : exec i s = .next { s with ports := s.ports.set p (s.ports.get p) } :=
  port_exact lines h n (by rw [effect, PerPort.set_same]; rfl) rfl rfl

/-- A port unit that dispatches its oldest frame, a request (R189, R191). -/
theorem dispatch_spelled {u : PortUnit} {p : Port} {op : OpState} {g : Frame} {rest : List Frame} {i : Instr} {code : Byte} {only : Bool}
    (buffer : u.buffer = g :: rest) (spelled : decodeRequest p g.code g.payload = .ok i) (request : asRequest i = some (p, code, only)) :
    u.dispatch p op =
      if only = true ∧ p ≠ .supervisor then u.reply { code := code, status := .notPermitted, data := [] }
      else if op = .selftest ∧ i ≠ .stateRead p ∧ i ≠ .faultRead p then u.reply { code := code, status := .busy, data := [] }
      else { u with service := .handed i } := by
  obtain ⟨same, refusal⟩ := portRefusal_spelled op spelled request
  unfold PortUnit.dispatch
  rw [buffer]
  dsimp only
  rw [spelled]
  dsimp only
  rw [refusal, same]
  by_cases barred : only = true ∧ p ≠ .supervisor
  · rw [if_pos barred, if_pos barred]
  · rw [if_neg barred, if_neg barred]
    by_cases early : op = .selftest ∧ i ≠ .stateRead p ∧ i ≠ .faultRead p
    · rw [if_pos early, if_pos early]
    · rw [if_neg early, if_neg early]

/-- Settles O57. -/
theorem receiversFollowTheLine : Obligations.ReceiversFollowTheLine := by
  intro p b s lines u goes
  have byte : ∀ f : PortUnit → PortUnit, s.takeByte p b = s.onPort p f → (f u).posted = u.posted → (f u).eventMask = u.eventMask →
      goes (.byteReceived p b) (f u) := fun f effect posted mask => port_exact lines rfl nofun effect posted mask
  refine ⟨fun hunt => ?_, fun length low high => ?_, fun length wrong => ?_, fun bs n body more => ?_, fun bs body => ⟨?_, fun wrong => ?_⟩,
    fun frame => ?_, fun hunt => ?_, fun alive => ⟨?_, ?_⟩, fun rest => ⟨?_, ?_⟩, fun fs f replying => ⟨fun last => ?_, ?_⟩⟩
  · by_cases start : b = 0xC3
    · rw [if_pos start]
      refine byte (fun u => u.receiver .length) ?_ rfl rfl
      unfold State.takeByte
      rw [show (s.ports.get p).rx = .hunt from hunt]
      exact if_pos start
    · rw [if_neg start, ← hunt]
      refine port_ignores p lines rfl nofun ?_
      change s.takeByte p b = s
      unfold State.takeByte
      rw [show (s.ports.get p).rx = .hunt from hunt]
      exact if_neg start
  · have taken : u.takeLength b = u.receiver (.body [b] (b.toNat + 1)) := if_pos ⟨low, high⟩
    have go := byte (fun u => u.takeLength b) (by unfold State.takeByte; rw [show (s.ports.get p).rx = .length from length])
    rw [taken] at go
    exact go rfl rfl
  · have taken : u.takeLength b = (u.receiver .hunt).countFrameErr := if_neg (by omega)
    have go := byte (fun u => u.takeLength b) (by unfold State.takeByte; rw [show (s.ports.get p).rx = .length from length])
    rw [taken] at go
    exact go rfl rfl
  · refine byte (fun u => u.receiver (.body (bs ++ [b]) (n - 1))) ?_ rfl rfl
    unfold State.takeByte
    rw [show (s.ports.get p).rx = .body bs n from body]
    exact if_neg (by omega)
  · have effects : s.effect (.byteReceived p b) = s.effect (.frameReceived p b) := by
      change s.takeByte p b = s.takeCrc p b
      unfold State.takeByte State.takeCrc
      rw [show (s.ports.get p).rx = .body bs 1 from body]
      exact if_pos (Nat.le_refl 1)
    rw [exec_event (i := .byteReceived p b) rfl nofun s, exec_event (i := .frameReceived p b) rfl nofun s, effects]
  · refine port_exact (v := (u.receiver .hunt).countCrc) lines rfl nofun ?_ rfl rfl
    change s.takeCrc p b = _
    unfold State.takeCrc
    rw [show (s.ports.get p).rx = .body bs 1 from body]
    exact if_neg wrong
  · have gapped : u.gapped = (u.receiver .hunt).countGap := by
      unfold PortUnit.gapped
      obtain length | ⟨bs, n, body⟩ := frame
      · rw [length]
      · rw [body]
    exact port_exact lines rfl nofun (congrArg (fun v => s.setPorts (s.ports.set p v)) gapped) rfl rfl
  · have gapped : u.gapped = u := by unfold PortUnit.gapped; rw [hunt]
    exact port_exact lines rfl nofun (congrArg (fun v => s.setPorts (s.ports.set p v)) gapped) rfl rfl
  · have misframed : u.misframed = (u.receiver .hunt).countFrameErr := if_neg alive
    exact port_exact lines rfl nofun (congrArg (fun v => s.setPorts (s.ports.set p v)) misframed) rfl rfl
  · have broken : u.broken = { (u.receiver .rest).countBreak with buffer := [], service := .idle, cutOff := u.cut } := if_neg alive
    exact port_exact lines rfl nofun (congrArg (fun v => s.setPorts (s.ports.set p v)) broken) rfl rfl
  · refine port_ignores p lines rfl nofun ?_
    change s.takeByte p b = s
    unfold State.takeByte
    rw [show (s.ports.get p).rx = .rest from rest]
  · have revived : u.revived = u.receiver .hunt := if_pos rest
    exact port_exact lines rfl nofun (congrArg (fun v => s.setPorts (s.ports.set p v)) revived) rfl rfl
  · have sent : u.sent p s.stc.op = { u with buffer := [], service := .idle } := by
      unfold PortUnit.sent
      rw [replying, last]
      rfl
    exact port_exact lines rfl nofun (congrArg (fun v => s.setPorts (s.ports.set p v)) sent) rfl rfl
  · intro g i code only waiting spelled request answered
    have dispatched := dispatch_spelled (u := { u with buffer := [g] }) (op := s.stc.op) (rest := []) rfl spelled request
    have sent : u.sent p s.stc.op = PortUnit.dispatch { u with buffer := [g] } p s.stc.op := by
      unfold PortUnit.sent
      rw [replying, waiting]
      rfl
    have next : ∀ v : PortUnit, u.sent p s.stc.op = v → v.posted = u.posted → v.eventMask = u.eventMask → goes (.replySent p) v :=
      fun v eq => port_exact lines rfl nofun (congrArg (fun v => s.setPorts (s.ports.set p v)) eq)
    rw [dispatched] at sent
    refine ⟨fun barred => ?_, fun allowed early => ?_, fun allowed open_ => ?_⟩
    · exact next _ (sent.trans (if_pos barred)) rfl rfl
    · exact next _ (sent.trans ((if_neg allowed).trans (if_pos early))) rfl rfl
    · exact next _ (sent.trans ((if_neg allowed).trans (if_neg open_))) rfl rfl

end Sys2Proof.Machine

/-! # Frames received, presence and the watchdog (R188, R189, R191, R195, R196) -/

namespace Sys2Proof.Machine

/-! ## What a valid frame brings its sender (R195, R196) -/

/-- What hearing the sender of a frame leaves. -/
structure Heard (s t : State) : Prop where
  op : t.stc.op = s.stc.op
  faults : t.stc.faults = s.stc.faults
  holds : t.stc.holds = s.stc.holds ∨ t.stc.holds = s.stc.holds.set .supervisorSilent false
  serial : t.spl.serial = s.spl.serial
  kept : ∀ q, (t.ports.get q).buffer = (s.ports.get q).buffer ∧ (t.ports.get q).service = (s.ports.get q).service ∧
    (t.ports.get q).lastReply = (s.ports.get q).lastReply ∧ (t.ports.get q).counters = (s.ports.get q).counters

theorem storeHolds_portsAfter (s : State) (v : PerHold Bool) : PortsAfter none (toAll .stateChanged) s (s.storeHolds v) :=
  (postTo_portsAfter (s.setStc { s.stc with holds := v }) .stateChanged fun _ => true).congr rfl rfl fun q c => by
    simp [toAll, toPorts]

theorem removeHold_kept (s : State) (h : Hold) : ∃ posts, PortsAfter none posts s (s.removeHold h) := by
  unfold State.removeHold
  split
  · exact ⟨_, storeHolds_portsAfter s _⟩
  · exact ⟨_, PortsAfter.refl none s⟩

theorem hear_heard (s : State) (p : Port) : Heard s (s.hear p) := by
  unfold State.hear
  split
  · exact ⟨rfl, rfl, .inl rfl, rfl, fun _ => ⟨rfl, rfl, rfl, rfl⟩⟩
  · unfold State.hearSupervisor
    split
    · obtain ⟨posts, after⟩ := removeHold_kept s .supervisorSilent
      have eq := State.removeHold_eq s .supervisorSilent
      generalize s.removeHold .supervisorSilent = u at after eq
      refine ⟨?_, ?_, .inr ?_, ?_, fun q => ?_⟩
      iterate 4 · rw [eq]; rfl
      · obtain ⟨-, buffer, counters, -⟩ := after.kept q
        obtain ⟨service, reply, -⟩ := after.silent q nofun
        exact ⟨buffer, service, reply, counters⟩
    · exact ⟨rfl, rfl, .inl rfl, rfl, fun _ => ⟨rfl, rfl, rfl, rfl⟩⟩

theorem Heard.causes {s t : State} (h : Heard s t) (c : SystemCause) : t.causePresent c = s.causePresent c := by
  have timebase : t.stc.holds.timebase = s.stc.holds.timebase := by
    obtain holds | holds := h.holds <;> rw [holds]
    rfl
  cases c <;> simp only [State.causePresent, h.op, h.faults, timebase]

/-! ## The port unit that takes the frame (R189, R191) -/

theorem dispatch_rx (u : PortUnit) (p : Port) (op : OpState) : (u.dispatch p op).rx = u.rx := by
  unfold PortUnit.dispatch
  split
  · rfl
  · split
    · rfl
    · rfl
    · split <;> rfl

theorem place_rx (u : PortUnit) (p : Port) (op : OpState) (f : Frame) : (u.place p op f).rx = u.rx := by
  unfold PortUnit.place
  split
  · exact dispatch_rx _ p op
  · rfl
  · rfl

theorem dispatch_buffer (u : PortUnit) (p : Port) (op : OpState) : (u.dispatch p op).buffer = u.buffer := by
  unfold PortUnit.dispatch
  split
  · rfl
  · split
    · rfl
    · rfl
    · split <;> rfl

theorem dispatch_unknown {u : PortUnit} {p : Port} {g : Frame} {rest : List Frame} (op : OpState) (buffer : u.buffer = g :: rest)
    (spelled : decodeRequest p g.code g.payload = .unknownRequest) :
    u.dispatch p op = u.reply { code := replyCode g.code, status := .unknownRequest, data := [] } := by
  unfold PortUnit.dispatch
  rw [buffer]
  dsimp only
  rw [spelled]

theorem dispatch_badLength {u : PortUnit} {p : Port} {g : Frame} {rest : List Frame} (op : OpState) (buffer : u.buffer = g :: rest)
    (spelled : decodeRequest p g.code g.payload = .badLength) :
    u.dispatch p op = u.reply { code := replyCode g.code, status := .badLength, data := [] } := by
  unfold PortUnit.dispatch
  rw [buffer]
  dsimp only
  rw [spelled]

/-- Settles O58. -/
theorem framesAreServed : Obligations.FramesAreServed := by
  intro p bs s body u f
  obtain ⟨t, ran, closed⟩ := event_closed (i := .frameReceived p (crc8 bs)) rfl nofun s
  have effect : s.effect (.frameReceived p (crc8 bs)) =
      (s.hear p).onPort p fun w => (w.receiver .hunt).place p (s.hear p).stc.op f := by
    change s.takeCrc p (crc8 bs) = _
    unfold State.takeCrc
    rw [body]
    exact if_pos rfl
  have heard := hear_heard s p
  have causes := heard.causes
  obtain ⟨buffer, service, reply, counters⟩ := heard.kept p
  rw [heard.op] at effect
  rw [effect] at closed
  obtain ⟨rx', buffer', counters', -⟩ := closed.kept p
  obtain ⟨service', reply', -⟩ := closed.silent p nofun
  simp only [State.onPort, State.setPorts_ports, PerPort.get_set, if_true] at rx' buffer' counters' service' reply'
  have whole := closed.same causes heard.serial
  generalize hear : s.hear p = h at *
  generalize unit : (h.ports.get p).receiver .hunt = r at *
  have held : r.buffer = u.buffer ∧ r.service = u.service ∧ r.lastReply = u.lastReply ∧ r.counters = u.counters := by
    rw [← unit]; exact ⟨buffer, service, reply, counters⟩
  obtain ⟨buffered, serving, replied, counted⟩ := held
  have first : u.buffer = [] → r.place p s.stc.op f = PortUnit.dispatch { r with buffer := [f] } p s.stc.op := fun empty => by
    unfold PortUnit.place
    rw [buffered, empty]
  refine ⟨t, ran, ?_, fun empty => ⟨?_, fun i code only spelled request => ?_, fun spelled => ?_, fun spelled => ?_⟩,
    fun g one => ?_, fun g h two => ?_, fun x panel => ?_, fun supervisor => ?_⟩
  · rw [rx', place_rx, ← unit]; rfl
  · rw [buffer', first empty, dispatch_buffer]
  · have served := dispatch_spelled (u := { r with buffer := [f] }) (op := s.stc.op) rfl spelled request
    rw [first empty, served] at service' reply'
    refine ⟨fun barred => ?_, fun allowed early => ?_, fun allowed open_ => ?_⟩
    · rw [if_pos barred] at service' reply'
      exact ⟨reply', _, service'⟩
    · rw [if_neg allowed, if_pos early] at service' reply'
      exact ⟨reply', _, service'⟩
    · rw [if_neg allowed, if_neg open_] at service' reply'
      exact ⟨service', reply'.trans replied⟩
  · rw [first empty, dispatch_unknown _ rfl spelled] at service' reply'
    exact ⟨reply', _, service'⟩
  · rw [first empty, dispatch_badLength _ rfl spelled] at service' reply'
    exact ⟨reply', _, service'⟩
  · have second : r.place p s.stc.op f = { r with buffer := [g, f] } := by
      unfold PortUnit.place
      rw [buffered, one]
    rw [second] at buffer' service' counters'
    exact ⟨buffer', service'.trans serving, counters'.trans counted⟩
  · have third : r.place p s.stc.op f = r.countOverrun := by
      unfold PortUnit.place
      rw [buffered, two]
    rw [third] at buffer' service' counters'
    refine ⟨buffer'.trans (buffered.trans two), service'.trans serving, counters'.trans ?_⟩
    rw [← counted]
    rfl
  · have panels : s.hear p = s.hearPanel x := by unfold State.hear; rw [panel]
    rw [← hear, panels] at whole
    exact whole
  · subst supervisor
    have supervised : h = s.hearSupervisor := hear.symm
    have eq : ∃ ports, h = { s with stc := { s.stc with holds := { s.stc.holds with
          supervisorSilent := s.stc.holds.supervisorSilent && s.watchdog.state ≠ .expired } }
                                    watchdog := { s.watchdog with state := .running }, ports := ports } := by
      rw [supervised, State.hearSupervisor]
      by_cases expired : s.watchdog.state = .expired
      · rw [if_pos expired, State.removeHold_eq]
        exact ⟨_, by simp [expired]; rfl⟩
      · rw [if_neg expired]
        exact ⟨_, by simp [expired]; rfl⟩
    obtain ⟨ports, eq⟩ := eq
    rw [closed.stc, closed.watchdog]
    subst eq
    exact ⟨rfl, rfl, rfl, rfl, whole⟩

end Sys2Proof.Machine

/-! # Panels that fall silent, and the watchdog (R67, R75, R173, R195, R196) -/

namespace Sys2Proof.Machine

/-! ## A panel declared absent (R67, R75, R195) -/

/-- A channel without its controlling port where that is an absent panel (R75). -/
def Channel.orphaned (p : Panel) (c : Channel) : Channel := if c.control = some p.port then { c with control := none } else c

/-- What the absence of a panel makes of one channel. -/
structure Uncontrolled (p : Panel) (c : SeqChan) (s t : State) : Prop where
  squ : ∀ d, t.squ.get d = if d = c then (s.squ.get c).orphaned p else s.squ.get d
  posts : PostsStay s t
  told : (s.squ.get c).control = some p.port → ∀ q, q ≠ p.port → (t.ports.get q).posted.get .seqChanged = true
  rest : t = { s with squ := t.squ, ports := t.ports }

theorem orphanChannel_uncontrolled (s : State) (p : Panel) (c : SeqChan) : Uncontrolled p c s (s.orphanChannel p c) := by
  unfold State.orphanChannel
  split
  · next controlled =>
    have orphaned : (s.squ.get c).orphaned p = { s.squ.get c with control := none } := if_pos controlled
    refine ⟨fun d => ?_, ?_, fun _ q other => ?_, rfl⟩
    · rw [orphaned]
      exact PerSeq.get_set s.squ c d _
    · exact (changeChannel_outcome s c _).posts.trans (postTo_outcome _ _ _).posts
    · have audience : q = .supervisor ∨ q = p.other.port := by
        cases p <;> cases q <;> simp_all [Panel.port, Panel.other]
      obtain rfl | rfl := audience <;> simp [State.changeChannel, State.postTo_posted, State.seqAudience]
  · next free =>
    refine ⟨fun d => ?_, PostsStay.refl s, fun h => absurd h free, rfl⟩
    split
    · next e => rw [e]; exact (if_neg free).symm
    · rfl

/-- The timers of an absent panel orphaned, from a state that differs in its presence record alone. -/
theorem orphanTimers_orphaned (s : State) (p : Panel) (v : PerPanel Presence) :
    (s.tme.held (.role p.port) ≠ 0 → ∀ q, q ≠ p.port →
      (((s.setPresence v).orphanTimers p).ports.get q).posted.get .timerOrphaned = true) ∧
    (s.setPresence v).orphanTimers p = { s with
      presence := v, tme := s.tme.mapTimers (Timer.orphaned p), ports := ((s.setPresence v).orphanTimers p).ports } := by
  by_cases nobody : s.tme.held (.role p.port) = 0
  · have eq : (s.setPresence v).orphanTimers p = (s.setPresence v).setTme (s.tme.mapTimers (Timer.orphaned p)) := if_pos nobody
    rw [eq]
    exact ⟨fun h => absurd nobody h, rfl⟩
  · have eq : (s.setPresence v).orphanTimers p = ((s.setPresence v).setTme (s.tme.mapTimers (Timer.orphaned p))).postTo
        .timerOrphaned fun q => q ≠ p.port := if_neg nobody
    rw [eq]
    refine ⟨fun _ q other => ?_, rfl⟩
    simp [State.postTo_posted, other]

/-- What the absence of a panel leaves. -/
structure Absented (p : Panel) (s t : State) : Prop where
  presence : t.presence = s.presence.set p { s.presence.get p with present := false }
  tme : t.tme = s.tme.mapTimers (Timer.orphaned p)
  squ : ∀ c, t.squ.get c = (s.squ.get c).orphaned p
  timers : s.tme.held (.role p.port) ≠ 0 → ∀ q, q ≠ p.port → (t.ports.get q).posted.get .timerOrphaned = true
  channels : ∀ c, (s.squ.get c).control = some p.port → ∀ q, q ≠ p.port → (t.ports.get q).posted.get .seqChanged = true
  rest : t = { s with presence := t.presence, tme := t.tme, squ := t.squ, ports := t.ports }

theorem declareAbsent_absented (s : State) (p : Panel) : Absented p s (s.declareAbsent p) := by
  have eq : s.declareAbsent p = (((s.setPresence (s.presence.set p { s.presence.get p with present := false })).orphanTimers p).orphanChannel
      p .ov).orphanChannel p .gr := rfl
  obtain ⟨posted, whole⟩ := orphanTimers_orphaned s p (s.presence.set p { s.presence.get p with present := false })
  generalize (s.setPresence (s.presence.set p { s.presence.get p with present := false })).orphanTimers p = u at *
  have squ : u.squ = s.squ := by rw [whole]
  obtain ⟨squ₁, posts₁, told₁, rest₁⟩ := orphanChannel_uncontrolled u p .ov
  generalize u.orphanChannel p .ov = v at *
  obtain ⟨squ₂, posts₂, told₂, rest₂⟩ := orphanChannel_uncontrolled v p .gr
  rw [← eq] at squ₂ posts₂ told₂ rest₂
  generalize s.declareAbsent p = t at *
  have gr : v.squ.get .gr = s.squ.get .gr := by rw [squ₁, squ]; exact if_neg nofun
  have ov : v.squ.get .ov = (s.squ.get .ov).orphaned p := by rw [squ₁, squ]; exact if_pos rfl
  have frame : t = { s with presence := s.presence.set p { s.presence.get p with present := false }
                            tme := s.tme.mapTimers (Timer.orphaned p), squ := t.squ, ports := t.ports } := by
    rw [rest₁] at rest₂
    rw [whole] at rest₂
    exact rest₂
  refine ⟨by rw [frame], by rw [frame], fun c => ?_, fun some q other => ?_, fun c controlled q other => ?_, ?_⟩
  · cases c with
    | ov => rw [squ₂, if_neg nofun, ov]
    | gr => rw [squ₂, if_pos rfl, gr]
  · exact posts₂ q _ (posts₁ q _ (posted some q other))
  · cases c with
    | ov => exact posts₂ q _ (told₁ (by rw [squ]; exact controlled) q other)
    | gr => exact told₂ (by rw [gr]; exact controlled) q other
  · have presence : t.presence = s.presence.set p { s.presence.get p with present := false } := by rw [frame]
    have tme : t.tme = s.tme.mapTimers (Timer.orphaned p) := by rw [frame]
    rw [presence, tme]
    exact frame

/-! ## The watchdog (R173, R196) -/

theorem latch_told (s : State) (i : FaultId) (q : Port) :
    ((s.latch i).ports.get q).posted.get .faultChanged = true ∨ s.stc.faults.get i = true := by
  unfold State.latch
  split
  · next latched => exact .inr latched
  · exact .inl (by simp [State.postTo_posted])

theorem addHold_since {s : State} {h : Hold} (run : s.stc.op = .run) (clear : s.stc.noHold = true) :
    (s.addHold h).stc.enteredAt = s.tbu.seconds := by
  have absent : s.stc.holds.get h = false := (noHold_iff s.stc).1 clear h
  have eq : s.addHold h = (s.storeHolds (s.stc.holds.set h true)).enterState .hold := by
    unfold State.addHold
    rw [if_neg (by rw [absent]; nofun)]
    exact if_pos ⟨run, clear⟩
  rw [eq, State.enterState_stc]
  rfl

/-- Settles O59. -/
theorem silenceIsNoticed : Obligations.SilenceIsNoticed := by
  intro s
  refine ⟨fun x present => ?_, fun running => ?_⟩
  · obtain ⟨t, ran, closed⟩ := event_closed (i := .presenceTimeout x) rfl nofun s
    have effect : s.effect (.presenceTimeout x) = (s.setPresence (s.presence.set x { s.presence.get x with
        silence := some (max ((s.presence.get x).silence.getD 0) ((s.presence.get x).timeout * 1000)) })).declareAbsent x :=
      if_pos present
    have absented := declareAbsent_absented (s.setPresence (s.presence.set x { s.presence.get x with
        silence := some (max ((s.presence.get x).silence.getD 0) ((s.presence.get x).timeout * 1000)) })) x
    rw [← effect] at absented
    generalize s.effect (.presenceTimeout x) = u at closed absented
    obtain ⟨presence, tme, squ, timers, channels, rest⟩ := absented
    have presence' : u.presence = s.presence.set x { s.presence.get x with
        present := false
        silence := some (max ((s.presence.get x).silence.getD 0) ((s.presence.get x).timeout * 1000)) } := by
      rw [presence]
      cases x <;> rfl
    have causes : ∀ c, u.causePresent c = s.causePresent c := causePresent_of_stc (by rw [rest]; rfl)
    have whole := closed.same causes (by rw [rest]; rfl)
    refine ⟨t, ran, ?_, ?_, ?_, ?_, fun some q other => ?_, fun c => ?_, fun c controlled q other => ?_, ?_⟩
    · rw [closed.presence, presence', PerPanel.get_set_self]
    · rw [closed.presence, presence', PerPanel.get_set_self]
    · rw [closed.presence, presence', PerPanel.get_set_ne]
      cases x <;> nofun
    · rw [closed.tme, tme]; rfl
    · exact closed.keeps (c := .timerOrphaned) nofun (timers some q other)
    · rw [closed.squ, squ]; rfl
    · exact closed.keeps (c := .seqChanged) nofun (channels c controlled q other)
    · rw [rest] at whole
      rw [closed.presence, closed.tme, closed.squ]
      exact whole
  · obtain ⟨t, ran, closed⟩ := event_closed (i := .watchdogExpiry) rfl nofun s
    have effect : s.effect .watchdogExpiry =
        ((s.setWatchdog { s.watchdog with state := .expired }).addHold .supervisorSilent).latch (.plain .supervisorSilent) := if_pos running
    rw [effect] at closed
    obtain ⟨holds, ⟨faults, -⟩, run, control, -, stays⟩ := addHold_joined (s.setWatchdog { s.watchdog with state := .expired }) .supervisorSilent
    have since : s.stc.op = .run → s.stc.noHold = true → ((s.setWatchdog { s.watchdog with state := .expired }).addHold
        .supervisorSilent).stc.enteredAt = s.tbu.seconds := fun op clear => addHold_since op clear
    generalize (s.setWatchdog { s.watchdog with state := .expired }).addHold .supervisorSilent = u at *
    have frame := State.latch_frame u (.plain .supervisorSilent)
    have latched := State.latch_get u (.plain .supervisorSilent) (.plain .supervisorSilent)
    have told := latch_told u (.plain .supervisorSilent)
    generalize u.latch (.plain .supervisorSilent) = v at *
    have op : v.stc.op = u.stc.op := by rw [frame]
    have entered : v.stc.enteredAt = u.stc.enteredAt := by rw [frame]
    have watchdog : t.watchdog = { s.watchdog with state := .expired } := by
      rw [closed.watchdog, frame]
      exact control.rest ▸ rfl
    refine ⟨t, ran, watchdog, ?_, ?_, fun op' clear => ?_, fun stopped => ?_, ?_, fun q => ?_⟩
    · rw [closed.stc, frame]
      exact holds
    · rw [closed.stc]
      exact latched.trans (by simp)
    · rw [closed.stc, op, entered]
      exact ⟨run op' clear, since op' clear⟩
    · rw [closed.stc, op, stays stopped]
      rfl
    · have control' : ControlFrame (s.setWatchdog { s.watchdog with state := .expired }) v := by
        obtain ⟨planner, points, drive, alerts, timers, rest⟩ := control
        rw [frame]
        exact ⟨planner, points, drive, alerts, timers, by rw [rest]⟩
      rw [watchdog]
      exact control'.closed closed
    · obtain told | was := told q
      · exact .inl (closed.keeps (c := .faultChanged) nofun told)
      · rw [faults] at was
        exact .inr was

end Sys2Proof.Machine

/-! # The requests of the port units (R194, R197, R198, R200) -/

namespace Sys2Proof.Machine

/-! ## A presence timeout stored (R197) -/

/-- A presence with a new timeout, compared at once with the silence counted. -/
def Presence.retimed (r : Presence) (n : Nat) : Presence :=
  { r with timeout := n, present := r.present && !(r.silence.any fun m => n * 1000 ≤ m) }

/-- What a presence timeout stored for a panel leaves. -/
structure Timed (p : Panel) (n : Nat) (s t : State) : Prop where
  presence : t.presence = s.presence.set p ((s.presence.get p).retimed n)
  rest : t = { s with presence := t.presence, tme := t.tme, squ := t.squ, ports := t.ports }
  calm : (t.presence.get p).present = (s.presence.get p).present → t.tme = s.tme ∧ t.squ = s.squ ∧ t.ports = s.ports

theorem storePresence_timed (s : State) (p : Panel) (n : Nat) : Timed p (max 10 (min 120 n)) s (s.storePresence p (some n)) := by
  have timeout : clampNat 10 120 n = max 10 (min 120 n) := rfl
  unfold State.storePresence
  dsimp only
  rw [timeout]
  generalize max 10 (min 120 n) = m
  by_cases silent : ((s.presence.get p).present && (s.presence.get p).silence.any fun k => decide (m * 1000 ≤ k)) = true
  · rw [if_pos silent]
    obtain ⟨presence, -, -, -, -, rest⟩ :=
      declareAbsent_absented (s.setPresence (s.presence.set p { s.presence.get p with timeout := m })) p
    generalize (s.setPresence (s.presence.set p { s.presence.get p with timeout := m })).declareAbsent p = t at *
    rw [Bool.and_eq_true] at silent
    obtain ⟨present, long⟩ := silent
    have gone : (s.presence.get p).retimed m = { s.presence.get p with timeout := m, present := false } := by
      rw [Presence.retimed, long, present]; rfl
    have presence' : t.presence = s.presence.set p ((s.presence.get p).retimed m) := by
      rw [presence, gone]
      cases p <;> rfl
    refine ⟨presence', rest, fun same => ?_⟩
    rw [presence', PerPanel.get_set_self, gone, present] at same
    cases same
  · rw [if_neg silent]
    refine ⟨?_, rfl, fun _ => ⟨rfl, rfl, rfl⟩⟩
    have flag : ((s.presence.get p).present && !((s.presence.get p).silence.any fun k => decide (m * 1000 ≤ k))) =
        (s.presence.get p).present := by
      rw [Bool.not_eq_true, Bool.and_eq_false_iff] at silent
      obtain absent | short := silent
      · rw [absent]; rfl
      · rw [short]; exact Bool.and_true _
    have stays : (s.presence.get p).retimed m = { s.presence.get p with timeout := m } := by
      unfold Presence.retimed
      rw [flag]
    rw [stays]
    rfl

/-- What the three timeouts stored leave. -/
theorem storeTimeouts_timed (s : State) (a b w : Nat) {u : State} (stored : s.storeTimeouts (some a) (some b) (some w) = u) :
    u.presence.a = s.presence.a.retimed (max 10 (min 120 a)) ∧ u.presence.b = s.presence.b.retimed (max 10 (min 120 b)) ∧
    u = { s with presence := u.presence, watchdog := { s.watchdog with timeout := max 1 (min 20 w) }
                 tme := u.tme, squ := u.squ, ports := u.ports } ∧
    (u.presence.a.present = s.presence.a.present → u.presence.b.present = s.presence.b.present →
      u.tme = s.tme ∧ u.squ = s.squ ∧ u.ports = s.ports) := by
  obtain ⟨presence₁, rest₁, calm₁⟩ := storePresence_timed s .a a
  have eq : u = ((s.storePresence .a (some a)).storePresence .b (some b)).setWatchdog
      { ((s.storePresence .a (some a)).storePresence .b (some b)).watchdog with timeout := max 1 (min 20 w) } := stored.symm
  generalize s.storePresence .a (some a) = v at *
  obtain ⟨presence₂, rest₂, calm₂⟩ := storePresence_timed v .b b
  generalize v.storePresence .b (some b) = t at *
  have presence : u.presence = t.presence := by rw [eq]; rfl
  have first : u.presence.a = s.presence.a.retimed (max 10 (min 120 a)) := by rw [presence, presence₂, presence₁]; rfl
  have second : u.presence.b = s.presence.b.retimed (max 10 (min 120 b)) := by rw [presence, presence₂, presence₁]; rfl
  refine ⟨first, second, ?_, fun same₁ same₂ => ?_⟩
  · rw [eq]
    rw [rest₁] at rest₂
    rw [rest₂]
    rfl
  · have other : v.presence.b = s.presence.b := by rw [presence₁]; rfl
    have before : (v.presence.get .a).present = (s.presence.get .a).present := by
      rw [first] at same₁
      rw [presence₁]
      exact same₁
    obtain ⟨tme₁, squ₁, ports₁⟩ := calm₁ before
    obtain ⟨tme₂, squ₂, ports₂⟩ := calm₂ (by
      change t.presence.b.present = v.presence.b.present
      rw [← presence, other]
      exact same₂)
    rw [eq]
    exact ⟨tme₂.trans tme₁, squ₂.trans squ₁, ports₂.trans ports₁⟩

/-! ## Requests that act on the requester's port unit (R194, R200) -/

theorem request_onPort {s : State} {i : Instr} {code : Byte} {p : Port} {take : Taken} {f : PortUnit → PortUnit} {data : List Byte}
    (passed : s.dispatch code p take = take) (took : take = ⟨s.onPort p f, .ok, data⟩) :
    ∃ t, request i code p s take = .next t ∧ t = { s with ports := t.ports, pins := t.pins } ∧ t.LinesFollow ∧
      PortsAfter (some p) noPosts (s.onPort p f) t ∧ t.Replied p (replyCode code) .ok data := by
  subst took
  obtain ⟨t, ran, closed, replied⟩ := request_closed (i := i) passed
  have causes : ∀ c, (s.onPort p f).causePresent c = s.causePresent c := causePresent_of_stc rfl
  exact ⟨t, ran, closed.same causes rfl, closed.lines, closed.portsAfter causes, replied⟩

theorem onPort_get (s : State) (p q : Port) (f : PortUnit → PortUnit) :
    (s.onPort p f).ports.get q = if q = p then f (s.ports.get p) else s.ports.get q := PerPort.get_set s.ports p q _

/-- Settles O60. -/
theorem portRequestsAreTaken : Obligations.PortRequestsAreTaken := by
  intro s lines busy
  refine ⟨fun a b w => ?_, fun p => ⟨fun n positive small => ?_, fun n small => ?_, ?_⟩⟩
  · have passed : s.dispatch 0x47 .supervisor (s.takeCfgPorts (some a) (some b) (some w)) = s.takeCfgPorts (some a) (some b) (some w) :=
      dispatch_supervisor _ busy
    by_cases lockout : s.stc.op = .lockout
    · have refused : s.takeCfgPorts (some a) (some b) (some w) = s.refuse .refusedState := by
        simp [State.takeCfgPorts, State.checked, firstFailure, lockout]
      obtain ⟨t, ran, only⟩ := request_onlyReplied (i := .cfgPorts .supervisor (some a) (some b) (some w)) lines
        (passed.trans refused)
      exact ⟨t, ran, fun _ => only, fun h => absurd lockout h⟩
    · have taken : s.takeCfgPorts (some a) (some b) (some w) = (s.storeTimeouts (some a) (some b) (some w)).taken
          (enc1 (s.storeTimeouts (some a) (some b) (some w)).presence.a.timeout ++
            enc1 (s.storeTimeouts (some a) (some b) (some w)).presence.b.timeout ++
            enc1 (s.storeTimeouts (some a) (some b) (some w)).watchdog.timeout) := by
        simp [State.takeCfgPorts, State.checked, firstFailure, lockout]
      obtain ⟨t, ran, closed, replied⟩ := request_closed (i := .cfgPorts .supervisor (some a) (some b) (some w)) passed
      rw [taken] at closed replied
      have timed := @storeTimeouts_timed s a b w _ rfl
      generalize s.storeTimeouts (some a) (some b) (some w) = u at *
      obtain ⟨first, second, whole, calm⟩ := timed
      have causes : ∀ c, u.causePresent c = s.causePresent c := causePresent_of_stc (by rw [whole])
      have same := closed.same causes (by rw [whole]; rfl)
      change t = { u with ports := t.ports, pins := t.pins } at same
      have presence : t.presence = u.presence := closed.presence
      have tme : t.tme = u.tme := closed.tme
      have squ : t.squ = u.squ := closed.squ
      have after := closed.portsAfter causes
      refine ⟨t, ran, fun h => absurd h lockout, fun _ => ?_⟩
      rw [presence, tme, squ]
      refine ⟨first, second, ?_, fun same₁ same₂ => ?_, ?_⟩
      · rw [whole] at same
        rw [whole]
        exact same
      · obtain ⟨tme', squ', ports'⟩ := calm same₁ same₂
        exact ⟨tme', squ', after.congr ports'.symm rfl fun _ _ => rfl⟩
      · have watchdog : u.watchdog.timeout = max 1 (min 20 w) := by rw [whole]
        rw [first, second, watchdog] at replied
        exact replied
  · have bits : eventsOfBits n = some (.of fun e => n.testBit e.index) := if_pos small
    have taken : s.takeEventsClear p n = (s.onPort p fun u => u.cleared (.of fun e => n.testBit e.index)).taken
        (encEvents ((s.onPort p fun u => u.cleared (.of fun e => n.testBit e.index)).ports.get p).posted) := by
      unfold State.takeEventsClear
      rw [bits]
      exact if_neg (by omega)
    obtain ⟨t, ran, whole, -, after, replied⟩ := request_onPort (i := .eventsClear p n) (code := 0x59)
      (dispatch_any busy rfl p _) taken
    have unposted := after.unposted
    refine ⟨t, ran, whole, fun q c => ?_, fun q => ?_, ?_⟩
    · rw [(unposted q).1, onPort_get]
      by_cases own : q = p
      · simp [own, PortUnit.cleared]
      · simp [own]
    · rw [(unposted q).2, onPort_get]
      split
      · next own => rw [own]; rfl
      · rfl
    · rw [(unposted p).1]
      exact replied
  · have bits : eventsOfBits n = some (.of fun e => n.testBit e.index) := if_pos small
    have taken : s.takeEventsMask p n = (s.onPort p fun u => { u with eventMask := .of fun e => n.testBit e.index }).taken
        (encEvents (.of fun e => n.testBit e.index)) := by
      unfold State.takeEventsMask
      rw [bits]
    obtain ⟨t, ran, whole, -, after, replied⟩ := request_onPort (i := .eventsMask p n) (code := 0x5A)
      (dispatch_any busy rfl p _) taken
    have unposted := after.unposted
    refine ⟨t, ran, whole, fun q c => ?_, fun q => ?_, ?_⟩
    · rw [(unposted q).2, onPort_get]
      split
      · exact PerEvent.get_of _ c
      · rfl
    · rw [(unposted q).1, onPort_get]
      split
      · next own => rw [own]
      · rfl
    · rw [(unposted p).2, onPort_get, if_pos rfl]
      exact replied
  · obtain ⟨t, ran, whole, follow, after, replied⟩ := request_onPort (i := .countersClear p) (code := 0x5C)
      (f := fun u => { u with counters := Counters.zero }) (data := []) (dispatch_any busy rfl p _) rfl
    have posted : ∀ q, (t.ports.get q).posted = (s.ports.get q).posted ∧ (t.ports.get q).eventMask = (s.ports.get q).eventMask := fun q => by
      rw [(after.unposted q).1, (after.unposted q).2, onPort_get]
      split
      · next own => rw [own]; exact ⟨rfl, rfl⟩
      · exact ⟨rfl, rfl⟩
    have still : t.pins = s.pins := calc
      t.pins = t.lines := follow
      _ = s.lines := lines_congr (by rw [whole]) (by rw [whole]) (by rw [whole]) posted
      _ = s.pins := lines.symm
    rw [still] at whole
    refine ⟨t, ran, whole, fun q => ?_, fun q => (posted q).1, replied⟩
    obtain ⟨-, -, counters, -⟩ := after.kept q
    rw [counters, onPort_get]
    split <;> rfl

end Sys2Proof.Machine

/-! # The checks of a creation (R44, R46 to R48, R50) -/

namespace Sys2Proof.Machine

/-! ## A list of checks as the model runs it -/

/-- A check that the model decides as the rule states it; those behind it may take for granted that it passed. -/
theorem refusedBy_cons_iff {c : Prop} {b : Bool} {e : Status} {rest : List (Prop × Status)} {rest' : List (Bool × Status)}
    {r : Option Status} (same : b = true ↔ c) (later : ¬ c → (refusedBy rest r ↔ firstFailure rest' = r)) :
    refusedBy ((c, e) :: rest) r ↔ firstFailure ((b, e) :: rest') = r := by
  by_cases fails : c
  · rw [refusedBy_cons_of_fails fails, firstFailure, if_pos (same.2 fails), eq_comm]
  · rw [refusedBy_cons_of_passes fails, firstFailure, if_neg (mt same.1 fails), later fails]

/-- Two checks with one refusal are one check. -/
theorem refusedBy_cons_cons {c d : Prop} {e : Status} {rest : List (Prop × Status)} {r : Option Status} :
    refusedBy ((c, e) :: (d, e) :: rest) r ↔ refusedBy ((c ∨ d, e) :: rest) r := by
  by_cases first : c <;> by_cases second : d <;> simp [refusedBy, first, second]

/-! ## Points by their codes (R202) -/

theorem Point.ofCode_large {n : Nat} (large : 10 ≤ n) : Point.ofCode n = none := by
  obtain ⟨m, rfl⟩ : ∃ m, n = m + 1 := ⟨n - 1, by omega⟩
  exact List.getElem?_eq_none (by change 9 ≤ m; omega)

/-- A fact about the point that a code names, decided on the codes that name one. -/
theorem Point.ofCode_rule {P : Nat → Option Point → Prop} (small : ∀ n < 10, P n (Point.ofCode n))
    (large : ∀ n, 10 ≤ n → P n none) (n : Nat) : P n (Point.ofCode n) := by
  by_cases h : n < 10
  · exact small n h
  · rw [Point.ofCode_large (by omega)]
    exact large n (by omega)

theorem Point.ofCode_isSome (n : Nat) : (Point.ofCode n).isSome = true ↔ 1 ≤ n ∧ n ≤ 9 :=
  Point.ofCode_rule (P := fun n x => x.isSome = true ↔ 1 ≤ n ∧ n ≤ 9) (by decide) (fun n h => by simp; omega) n

theorem Point.ofCode_electric (n : Nat) : ((Point.ofCode n).map Point.electric).getD false = true ↔ 6 ≤ n ∧ n ≤ 9 :=
  Point.ofCode_rule (P := fun n x => (x.map Point.electric).getD false = true ↔ 6 ≤ n ∧ n ≤ 9) (by decide)
    (fun n h => by simp; omega) n

theorem Point.ofCode_ov (n : Nat) : Point.ofCode n = some .ov ↔ n = 8 :=
  Point.ofCode_rule (P := fun n x => x = some .ov ↔ n = 8) (by decide) (fun n h => by simp; omega) n

theorem Point.ofCode_gr (n : Nat) : Point.ofCode n = some .gr ↔ n = 9 :=
  Point.ofCode_rule (P := fun n x => x = some .gr ↔ n = 9) (by decide) (fun n h => by simp; omega) n

/-! ## The fields (R44, R48) -/

theorem pointAllowed_iff {k : Kind} (code : Nat) (n : k ≠ .step) : pointAllowed k code = true ↔
    k = .minder ∧ code = 0 ∨ k = .cookEnd ∧ 1 ≤ code ∧ code ≤ 9 ∨ k = .delayStart ∧ 6 ≤ code ∧ code ≤ 9 := by
  cases k with
  | minder => simp [pointAllowed]
  | cookEnd => simpa [pointAllowed] using Point.ofCode_isSome code
  | delayStart => simpa [pointAllowed] using Point.ofCode_electric code
  | step => exact absurd rfl n

theorem levelAllowed_iff {k : Kind} (level : Nat) (n : k ≠ .step) : levelAllowed k level = true ↔
    k = .delayStart ∧ level = 0 ∨ k ≠ .delayStart ∧ 1 ≤ level ∧ level ≤ 3 := by
  cases k with
  | minder | cookEnd => simp [levelAllowed]
  | delayStart => simp [levelAllowed]
  | step => exact absurd rfl n

theorem startAllowed_iff (k : Kind) (code : Nat) (c : StartField) : startAllowed k (Point.ofCode code) c = true ↔
    match c with
    | .immediate => True
    | .atTime time => time ≤ 86399
    | .atTemp _ => k = .cookEnd ∧ (code = 8 ∨ code = 9)
    | .afterLeader _ (some _) => k = .cookEnd ∧ (code = 8 ∨ code = 9)
    | .afterLeader _ none => k = .cookEnd ∧ 6 ≤ code ∧ code ≤ 9
    | .beyond => False := by
  cases c with
  | immediate => exact ⟨fun _ => trivial, fun _ => rfl⟩
  | atTime time => exact decide_eq_true_iff
  | atTemp a => simp [startAllowed, Point.ofCode_ov, Point.ofCode_gr]
  | afterLeader h a =>
    cases a with
    | some a => simp [startAllowed, Point.ofCode_ov, Point.ofCode_gr]
    | none =>
      simp only [startAllowed, Bool.and_eq_true, decide_eq_true_eq]
      rw [Point.ofCode_electric]
  | beyond => exact ⟨nofun, nofun⟩

theorem timerFieldsAllowed_iff {k : Kind} (f : TimerFields) (n : k ≠ .step) : timerFieldsAllowed k f = true ↔ createFormed k f := by
  have probe : (f.probe.isNone || (decide (k = .cookEnd) && decide (Point.ofCode f.point = some .ov))) = true ↔
      (f.probe ≠ none → k = .cookEnd ∧ f.point = 8) := by
    rw [Bool.or_eq_true, Bool.and_eq_true, decide_eq_true_iff, decide_eq_true_iff, Point.ofCode_ov, Option.isNone_iff_eq_none]
    tauto
  have start := startAllowed_iff k f.point f.start
  unfold timerFieldsAllowed createFormed
  rw [Bool.and_eq_true, Bool.and_eq_true, Bool.and_eq_true, Bool.and_eq_true, probe, pointAllowed_iff f.point n,
    levelAllowed_iff f.level n, start, decide_eq_true_iff]
  exact ⟨fun ⟨⟨⟨⟨a, b⟩, c⟩, d⟩, e⟩ => ⟨a, b, d, e, c⟩, fun ⟨a, b, d, e, c⟩ => ⟨⟨⟨⟨a, b⟩, c⟩, d⟩, e⟩⟩

/-! ## The checks behind the fields -/

theorem lookup_error {t : Tme} {h : Handle} {e : Status} (failed : t.lookup h = .error e) :
    e = .badValue ∨ e = .staleHandle ∨ e = .refusedState := by
  unfold Tme.lookup at failed
  split at failed
  · cases failed; exact .inl rfl
  · split at failed
    · cases failed; exact .inr (.inl rfl)
    · split at failed
      · cases failed; exact .inr (.inr rfl)
      · cases failed

section
variable {s : State} {p : Port} {f : TimerFields} {k : Kind}

/-- The five checks of R50 on a leader are the model's one. -/
theorem leader_checks {rest : List (Prop × Status)} {rest' : List (Bool × Status)} {r : Option Status}
    (later : refusedBy rest r ↔ firstFailure rest' = r) :
    let x := Point.ofCode f.point
    let leader := fun (e : Except Status Timer) => ∃ h a, f.start = .afterLeader h a ∧ s.tme.lookup h = e
    refusedBy
      ((leader (.error .badValue), .badValue) :: (leader (.error .staleHandle), .staleHandle) ::
       (leader (.error .refusedState), .refusedState) ::
       (∃ t, leader (.ok t) ∧ (t.kind ≠ .delayStart ∨ t.point ≠ x ∨ t.follower ≠ none), .badValue) ::
       (∃ t, leader (.ok t) ∧ t.modifiableBy p = false, .notOwner) :: rest) r ↔
    firstFailure (((s.leaderRefusal p x f.start).isSome, (s.leaderRefusal p x f.start).getD .ok) :: rest') = r := by
  intro x leader
  by_cases led : ∃ h a, f.start = .afterLeader h a
  · obtain ⟨h, a, start⟩ := led
    have found : ∀ e, leader e ↔ s.tme.lookup h = e := fun e => by simp [leader, start]
    cases looked : s.tme.lookup h with
    | error e =>
      have refused : s.leaderRefusal p x f.start = some e := by rw [start, State.leaderRefusal, looked]
      rw [refused]
      obtain rfl | rfl | rfl := lookup_error looked
      · rw [refusedBy_cons_of_fails ((found _).2 looked)]
        exact eq_comm
      · rw [refusedBy_cons_of_passes (by rw [found, looked]; nofun), refusedBy_cons_of_fails ((found _).2 looked)]
        exact eq_comm
      · rw [refusedBy_cons_of_passes (by rw [found, looked]; nofun), refusedBy_cons_of_passes (by rw [found, looked]; nofun),
          refusedBy_cons_of_fails ((found _).2 looked)]
        exact eq_comm
    | ok t =>
      have only : ∀ u, leader (.ok u) ↔ u = t := fun u => by rw [found, looked, Except.ok.injEq, eq_comm]
      iterate 3 rw [refusedBy_cons_of_passes (by rw [found, looked]; nofun)]
      simp only [only, exists_eq_left, ← Option.isSome_iff_ne_none]
      rw [start, State.leaderRefusal, looked]
      dsimp only
      by_cases wrong : t.kind ≠ .delayStart ∨ t.point ≠ x ∨ t.follower.isSome = true
      · rw [refusedBy_cons_of_fails wrong, if_pos wrong]
        exact eq_comm
      · rw [refusedBy_cons_of_passes wrong, if_neg wrong]
        cases right : t.modifiableBy p with
        | false =>
          rw [refusedBy_cons_of_fails rfl]
          exact eq_comm
        | true =>
          rw [refusedBy_cons_of_passes nofun]
          exact later
  · have unled : ∀ e, ¬ leader e := fun e ⟨h, a, start, _⟩ => led ⟨h, a, start⟩
    have free : s.leaderRefusal p x f.start = none := by
      unfold State.leaderRefusal
      split
      · next h a start => exact absurd ⟨h, a, start⟩ led
      · rfl
    simp [refusedBy, unled, free, firstFailure, later]

theorem reads_iff (c : Sensor) : s.reads c = true ↔ s.measures c := by
  unfold State.reads State.measures
  split
  · next d read => exact ⟨fun _ => ⟨d, read⟩, fun _ => rfl⟩
  · next other => exact ⟨nofun, fun ⟨d, read⟩ => absurd read (other d)⟩

theorem startHasThreshold_iff : startHasThreshold f.start = true ↔ carriesThreshold f := by
  unfold carriesThreshold
  cases f.start with
  | atTemp a => simp [startHasThreshold]
  | afterLeader h a => cases a <;> simp [startHasThreshold]
  | immediate | atTime | beyond => simp [startHasThreshold]

/-- A field that carries a threshold names OV or GR (R44). -/
theorem threshold_point (formed : createFormed k f) (carries : carriesThreshold f) :
    Point.ofCode f.point = some .ov ∨ Point.ofCode f.point = some .gr := by
  obtain ⟨-, -, -, -, start⟩ := formed
  rw [Point.ofCode_ov, Point.ofCode_gr]
  obtain ⟨a, eq⟩ | ⟨h, a, eq⟩ := carries <;> rw [eq] at start <;> exact start.2

theorem sensorMissing_iff (formed : createFormed k f) : s.sensorMissing (Point.ofCode f.point) f = true ↔
    (carriesThreshold f ∧ ∃ y, Point.ofCode f.point = some y ∧ ¬ s.measures (if y = .ov then .cav else .grl)) ∨
    (f.probe ≠ none ∧ ¬ s.measures .prb) := by
  unfold State.sensorMissing
  rw [Bool.or_eq_true, Bool.and_eq_true, Bool.and_eq_true, startHasThreshold_iff, Option.isSome_iff_ne_none, Bool.not_eq_true',
    Bool.not_eq_true', ← Bool.not_eq_true, ← Bool.not_eq_true, reads_iff]
  refine or_congr (and_congr_right fun carries => ?_) Iff.rfl
  obtain x | x := threshold_point formed carries <;> rw [x] <;> simp [Point.sensor, reads_iff]

theorem pointTimed_iff (n : k ≠ .step) : s.tme.pointTimed k (Point.ofCode f.point) = true ↔ ∃ y, Point.ofCode f.point = some y ∧
    (some k = some .cookEnd ∧ (s.tme.hasKind y .cookEnd = true ∨ s.tme.hasKind y .step = true) ∨
      some k = some .delayStart ∧ s.tme.hasKind y .delayStart = true) := by
  cases Point.ofCode f.point with
  | none => simp [Tme.pointTimed]
  | some y =>
    cases k with
    | minder | cookEnd | delayStart => simp [Tme.pointTimed]
    | step => exact absurd rfl n

theorem firstFree_none : s.tme.firstFree.isNone = true ↔ ∀ u ∈ s.tme.slots, u.timer ≠ none := by
  rw [Option.isNone_iff_eq_none, Tme.firstFree, List.findIdx?_eq_none_iff]
  simp [Option.isSome_iff_ne_none]

/-- The checks of R48 and R50 are the model's, in their order. -/
theorem createChecks_refuse (kind : Kind.ofCode f.kind = some k) (n : k ≠ .step) (r : Option Status) :
    refusedBy (checksOfCreate p f s) r ↔ firstFailure (s.createChecks p k f) = r := by
  unfold checksOfCreate
  rw [kind]
  dsimp only
  rw [refusedBy_cons_of_passes fun step => n (step k rfl)]
  unfold State.createChecks
  refine refusedBy_cons_iff ?fields fun formed => refusedBy_cons_iff ?op fun _ => refusedBy_cons_iff ?clock fun _ =>
    refusedBy_cons_iff ?panel fun _ => leader_checks ?_
  case fields =>
    rw [Bool.not_eq_true', ← Bool.not_eq_true, timerFieldsAllowed_iff f n]
    exact ⟨fun h j e => by cases e; exact h, fun h => h k rfl⟩
  case op => simp
  case clock =>
    rw [Bool.and_eq_true, Option.isNone_iff_eq_none]
    refine and_congr_left fun _ => ?_
    cases f.start <;> simp [startIsAtTime]
  case panel =>
    rw [Bool.and_eq_true, decide_eq_true_iff]
    refine and_congr_right fun _ => ?_
    cases Point.ofCode f.point with
    | none => simp
    | some y =>
      simp only [Option.map_some, Option.getD_some, decide_eq_true_eq, Option.some.injEq, exists_eq_left']
      exact ne_comm
  have formed : createFormed k f := by
    by_contra wrong
    exact formed fun j e => by cases e; exact wrong
  rw [refusedBy_cons_cons]
  exact refusedBy_cons_iff (sensorMissing_iff formed) fun _ => refusedBy_cons_iff (pointTimed_iff n) fun _ =>
    refusedBy_cons_iff firstFree_none fun _ => refusedBy_cons_iff (quotaFull_iff s.tme p) fun _ => by
      exact eq_comm

end

end Sys2Proof.Machine

/-! # Slots of the Timer Table, and TIMER_CREATE (R42 to R50) -/

namespace Sys2Proof.Machine

/-! ## A gate that a command moves (R34, R35) -/

/-- What a reason set `r` given to a point leaves, from a state `w` to the end of the command. -/
structure Gated (x : Point) (r : PerReason Bool) (w t : State) : Prop where
  ptc : t.ptc = { w.ptc with reasons := w.ptc.reasons.set x r }
  planner : PlannerKept w t
  drive : DriveKept w t
  closes : w.gateOpen x = true → clearReasons r = false →
    (∀ l ∈ x.loads, t.spl.withdrawals.get l = true ∧ t.dru.withdrawLoads.get l = true) ∧
      ∀ z, x.gas = some z → t.dru.withdrawGas.get z = true
  opens : w.gateOpen x = false → clearReasons r = true → x.electric = true → ∃ b, t.spl.pending = .building b
  stays : (w.gateOpen x = true → clearReasons r = true) → t.spl.withdrawals = w.spl.withdrawals ∧ t.dru = w.dru

theorem Closed.gate {who : Option Port} {s u w t : State} {x : Point} {r : PerReason Bool} (closed : Closed who s u t)
    (ptc : u.ptc = (w.changeReasons x r).ptc) (spl : u.spl = (w.changeReasons x r).spl) (dru : u.dru = (w.changeReasons x r).dru) :
    Gated x r w t := by
  obtain ⟨-, planner, drive, -⟩ := State.changeReasons_gateFrame w x r
  unfold PlannerKept at planner
  have withdrawn : t.spl.withdrawals = (w.changeReasons x r).spl.withdrawals := by rw [closed.pass, spl]
  have drive' : t.dru = (w.changeReasons x r).dru := closed.dru.trans dru
  refine ⟨?_, ?_, ?_, fun open_ shut => ?_, fun shut clear electric => ?_, fun open_ => ?_⟩
  · rw [closed.ptc, ptc, changeReasons_ptc]
  · unfold PlannerKept
    rw [closed.pass, spl]
    dsimp only
    rw [planner]
  · unfold DriveKept
    rw [drive', drive]
  · rw [withdrawn, drive']
    exact changeReasons_closes w x r open_ shut
  · exact closed.building (by rw [spl]; exact changeReasons_opens w x r shut clear electric)
  · rw [withdrawn, drive']
    exact changeReasons_releases w x r open_

theorem Gated.gateOpen {x : Point} {r : PerReason Bool} {w t : State} (h : Gated x r w t) : t.gateOpen x = clearReasons r := by
  rw [gateOpen_eq, h.ptc, PerPoint.get_set_self]

/-! ## One slot (R42, R43) -/

theorem timer_setTimer (t : Tme) (n : Nat) (v : Option Timer) (m : Nat) :
    (t.setTimer n v).timer m = if m = n ∧ n < t.slots.length then v else t.timer m := by
  unfold Tme.timer Tme.setTimer
  dsimp only
  rw [List.getElem?_modify]
  by_cases same : n = m
  · subst same
    by_cases fits : n < t.slots.length
    · simp [fits]
    · simp [fits]
  · simp [same, Ne.symm same]

theorem gens_setTimer (t : Tme) (n : Nat) (v : Option Timer) : (t.setTimer n v).slots.map Slot.gen = t.slots.map Slot.gen := by
  refine List.ext_getElem? fun m => ?_
  simp only [Tme.setTimer, List.getElem?_map, List.getElem?_modify]
  split
  · cases t.slots[m]? <;> rfl
  · simp

theorem timer_lt {t : Tme} {n : Nat} {r : Timer} (h : t.timer n = some r) : n < t.slots.length := by
  by_contra high
  simp [Tme.timer, List.getElem?_eq_none (Nat.le_of_not_lt high)] at h

/-- The slot that a handle names. -/
theorem lookup_ok {t : Tme} {h : Handle} {r : Timer} (found : t.lookup h = .ok r) :
    h.slot.toNat < 24 ∧ t.slots[h.slot.toNat]? = some { gen := h.gen, timer := some r } := by
  unfold Tme.lookup at found
  split at found
  · cases found
  · next x slot =>
    split at found
    · cases found
    · next gen =>
      split at found
      · cases found
      · next u timer =>
        cases found
        split at slot
        · next low =>
          refine ⟨low, ?_⟩
          rw [slot]
          obtain ⟨g, u⟩ := x
          cases timer
          rw [show g = h.gen from not_not.1 gen]
        · cases slot

theorem lookup_timer {t : Tme} {h : Handle} {r : Timer} (found : t.lookup h = .ok r) : t.timer h.slot.toNat = some r := by
  rw [Tme.timer, (lookup_ok found).2]
  rfl

theorem lookup_handle {t : Tme} {h : Handle} {r : Timer} (found : t.lookup h = .ok r) : t.handle h.slot.toNat = h := by
  rw [Tme.handle, (lookup_ok found).2]
  simp [byteOf]

theorem lookup_of_slot {t : Tme} {h : Handle} {r : Timer} (low : h.slot.toNat < 24)
    (slot : t.slots[h.slot.toNat]? = some { gen := h.gen, timer := some r }) : t.lookup h = .ok r := by
  unfold Tme.lookup
  rw [if_pos low, slot]
  simp

/-! ## TIMER_CREATE (R48) -/

section
variable {s : State} {p : Port} {f : TimerFields} {k : Kind} {n : Nat} {g : Byte}

theorem takeTimerCreate_refused {e : Status} (refused : refusedBy (checksOfCreate p f s) (some e)) : s.takeTimerCreate p f = s.refuse e := by
  have unknown : (∀ j, Kind.ofCode f.kind = some j → j = .step) → e = .badValue := fun h => by
    unfold checksOfCreate at refused
    rw [refusedBy_cons_of_fails h] at refused
    exact Option.some.inj refused
  unfold State.takeTimerCreate
  split
  · next kind => rw [unknown fun j h => by rw [kind] at h; cases h]
  · next kind => rw [unknown fun j h => by rw [kind] at h; cases h; rfl]
  · next k known kind =>
    rw [createChecks_refuse kind known] at refused
    dsimp only
    rw [State.checked, refused]

theorem takeTimerCreate_taken (passes : refusedBy (checksOfCreate p f s) none) (kind : Kind.ofCode f.kind = some k)
    (free : s.tme.firstFree = some n) : s.takeTimerCreate p f =
      (s.createTimer n (s.timerOf p k f)).taken (encHandle ((s.createTimer n (s.timerOf p k f)).tme.handle n) ++
        enc1 (s.timerOf p k f).stateCode) := by
  have known : k ≠ .step := fun e => by
    have first := refusedBy_none.1 passes _ (List.mem_cons_self ..)
    exact first fun j h => by rw [kind] at h; cases h; exact e
  rw [createChecks_refuse kind known] at passes
  unfold State.takeTimerCreate
  rw [kind]
  cases k with
  | step => exact absurd rfl known
  | minder | cookEnd | delayStart =>
    dsimp only
    rw [State.checked, passes, free]
    rfl

/-- The record of a creation, as its fields give it. -/
theorem timerOf_eq : s.timerOf p k f =
    let start := startHeld (s.tbu.timeOfDay.getD 0) f.start
    { kind := k, point := Point.ofCode f.point, owner := .role p, phase := if startsNow start then .started else .waiting,
      duration := min f.duration 86399, remaining := min f.duration 86399, start := start,
      probe := f.probe.map fun a => max 30 (min 99 a), follower := none
      pause := { user := false, halt := (Point.ofCode f.point).isSome && s.tme.halt },
      level := f.level, endCause := none, tickDue := false, tempMark := false, probeMark := false } := by
  have held : startOf (s.tbu.timeOfDay.getD 0) f.start = startHeld (s.tbu.timeOfDay.getD 0) f.start := by
    cases f.start with
    | immediate | atTime | atTemp | beyond => rfl
    | afterLeader h a => cases a <;> rfl
  unfold State.timerOf
  rw [held]
  generalize startHeld (s.tbu.timeOfDay.getD 0) f.start = c
  cases c with
  | immediate | atTemp | afterLeader => rfl
  | atTime start k =>
    by_cases now : k = 0
    · subst now; rfl
    · simp only [newTimer, Start.atOnce, startsNow, now, decide_false, Bool.false_eq_true, if_false]
      rfl

/-- A record's state code where the record has just been made (R203). -/
theorem timerOf_stateCode : enc1 (s.timerOf p k f).stateCode =
    [if startsNow (startHeld (s.tbu.timeOfDay.getD 0) f.start) then
      if (Point.ofCode f.point).isSome && s.tme.halt then 3 else 2 else 1] := by
  rw [timerOf_eq]
  dsimp only
  cases startsNow (startHeld (s.tbu.timeOfDay.getD 0) f.start) <;> cases (Point.ofCode f.point).isSome && s.tme.halt <;> rfl

theorem takeSlot_slots (slot : s.tme.slots[n]? = some { gen := g, timer := none }) (r : Timer) :
    s.tme.takeSlot n r = { s.tme with slots := s.tme.slots.set n { gen := g + 1, timer := some r } } := by
  unfold Tme.takeSlot
  congr 1
  refine List.ext_getElem? fun m => ?_
  rw [List.getElem?_modify, List.getElem?_set]
  obtain ⟨low, at_⟩ := List.getElem?_eq_some_iff.1 slot
  by_cases same : n = m
  · subst same
    simp [low, at_]
  · simp [same]

theorem firstFree_lowest (slot : s.tme.slots[n]? = some { gen := g, timer := none }) (lower : ∀ m < n, s.tme.timer m ≠ none) :
    s.tme.firstFree = some n := by
  obtain ⟨low, at_⟩ := List.getElem?_eq_some_iff.1 slot
  rw [Tme.firstFree, List.findIdx?_eq_some_iff_getElem]
  refine ⟨low, by rw [at_]; rfl, fun m small => ?_⟩
  have taken := lower m small
  rw [Tme.timer, List.getElem?_eq_getElem (by omega), Option.bind_some] at taken
  rw [Option.isNone_iff_eq_none]
  exact taken

/-- A slot's record given a new follower, or a timer table with it. -/
def Slot.following (v : Option Handle) : Slot → Slot := Slot.mapTimer fun r => { r with follower := v }

theorem setFollower_slots {t : Tme} {h : Handle} {r : Timer} (found : t.lookup h = .ok r) (v : Option Handle) :
    t.setFollower h v = { t with slots := t.slots.modify h.slot.toNat (Slot.following v) } := by
  unfold Tme.setFollower
  rw [found]
  exact setTimer_slots (lookup_timer found) fun r => { r with follower := v }

/-- The leader that a creation names, where the checks of R50 pass. -/
theorem leader_found (passes : refusedBy (checksOfCreate p f s) none) {h : Handle} {a : Option Int}
    (start : f.start = .afterLeader h a) : ∃ r, s.tme.lookup h = .ok r := by
  have all := refusedBy_none.1 passes
  unfold checksOfCreate at all
  simp only [List.forall_mem_cons] at all
  obtain ⟨-, -, -, -, -, bad, stale, free, -⟩ := all
  cases found : s.tme.lookup h with
  | ok r => exact ⟨r, rfl⟩
  | error e =>
    obtain rfl | rfl | rfl := lookup_error found
    · exact absurd ⟨h, a, start, found⟩ bad
    · exact absurd ⟨h, a, start, found⟩ stale
    · exact absurd ⟨h, a, start, found⟩ free

/-- The Timer Table that a creation leaves. -/
theorem create_table (passes : refusedBy (checksOfCreate p f s) none) (slot : s.tme.slots[n]? = some { gen := g, timer := none }) :
    s.tme.create n (s.timerOf p k f) =
      { s.tme with slots := match f.start with
        | .afterLeader h _ => (s.tme.slots.set n { gen := g + 1, timer := some (s.timerOf p k f) }).modify h.slot.toNat
            (Slot.following (some { slot := byteOf n, gen := g + 1 }))
        | _ => s.tme.slots.set n { gen := g + 1, timer := some (s.timerOf p k f) } } := by
  obtain ⟨low, -⟩ := List.getElem?_eq_some_iff.1 slot
  have taken := takeSlot_slots slot (s.timerOf p k f)
  have start : (s.timerOf p k f).start = startHeld (s.tbu.timeOfDay.getD 0) f.start := by rw [timerOf_eq]
  have handle : (s.tme.takeSlot n (s.timerOf p k f)).handle n = { slot := byteOf n, gen := g + 1 } := by
    rw [taken, Tme.handle]
    simp [low]
  unfold Tme.create
  dsimp only
  rw [start, handle]
  cases led : f.start with
  | immediate | atTime | atTemp | beyond => exact taken
  | afterLeader h a =>
    obtain ⟨r, found⟩ := leader_found passes led
    obtain ⟨small, at_⟩ := lookup_ok found
    have other : n ≠ h.slot.toNat := fun e => by rw [← e, slot] at at_; cases at_
    have still : (s.tme.takeSlot n (s.timerOf p k f)).lookup h = .ok r :=
      lookup_of_slot small (by rw [taken, List.getElem?_set_ne other]; exact at_)
    change (s.tme.takeSlot n (s.timerOf p k f)).setFollower h (some { slot := byteOf n, gen := g + 1 }) = _
    rw [setFollower_slots still, taken]

theorem createTimer_other (other : k ≠ .delayStart) :
    s.createTimer n (s.timerOf p k f) = s.setTme (s.tme.create n (s.timerOf p k f)) := by
  have kind : (s.timerOf p k f).kind = k := by rw [timerOf_eq]
  unfold State.createTimer
  dsimp only
  rw [kind]
  split
  · exact absurd rfl other
  · rfl

theorem createTimer_delay (y : Point) (point : Point.ofCode f.point = some y) :
    s.createTimer n (s.timerOf p .delayStart f) = (s.setTme (s.tme.create n (s.timerOf p .delayStart f))).addReason y .delay := by
  have kind : (s.timerOf p .delayStart f).kind = .delayStart := by rw [timerOf_eq]
  have named : (s.timerOf p .delayStart f).point = some y := by rw [timerOf_eq]; exact point
  unfold State.createTimer
  dsimp only
  rw [kind, named]

/-- The Timer Table of a creation, whatever its kind. -/
theorem createTimer_tme : (s.createTimer n (s.timerOf p k f)).tme = s.tme.create n (s.timerOf p k f) := by
  unfold State.createTimer
  dsimp only
  split
  · rw [addReason_whole]; rfl
  · rfl

/-- The handle that a creation answers with. -/
theorem create_handle (passes : refusedBy (checksOfCreate p f s) none) (slot : s.tme.slots[n]? = some { gen := g, timer := none }) :
    (s.tme.create n (s.timerOf p k f)).handle n = { slot := byteOf n, gen := g + 1 } := by
  obtain ⟨low, -⟩ := List.getElem?_eq_some_iff.1 slot
  rw [create_table passes slot, Tme.handle]
  cases f.start with
  | immediate | atTime | atTemp | beyond => simp [low]
  | afterLeader h a =>
    dsimp only
    rw [List.getElem?_modify, List.getElem?_set_self low]
    split <;> rfl

end

/-- Settles O26. -/
theorem timerCreateStartsASlot : Obligations.TimerCreateStartsASlot := by
  intro p f s lines busy size
  have passed := fun take => dispatch_any (code := 0x12) (s := s) busy rfl p take
  refine ⟨fun e refused => ?_, fun k n g passes kind slot lower => ?_⟩
  · exact request_onlyReplied (i := .timerCreate p f) lines ((passed _).trans (takeTimerCreate_refused refused))
  · intro x halt start made linked
    have taken := takeTimerCreate_taken passes kind (firstFree_lowest slot lower)
    rw [createTimer_tme, create_handle passes slot, timerOf_stateCode] at taken
    have tme := createTimer_tme (s := s) (p := p) (f := f) (k := k) (n := n)
    have table := create_table (k := k) passes slot
    have record : made = { gen := g + 1, timer := some (s.timerOf p k f) } := by rw [timerOf_eq]
    rw [← record] at table
    obtain ⟨t, ran, closed, replied⟩ := request_closed (i := .timerCreate p f) (passed (s.takeTimerCreate p f))
    rw [taken] at closed replied
    have tme' : t.tme = s.tme.create n (s.timerOf p k f) := closed.tme.trans tme
    refine ⟨t, ran, replied, fun h a led => ?_, fun free => ?_, fun other => ?_, fun delay y named => ?_⟩
    · rw [tme', table, led]
      rfl
    · rw [tme', table]
      cases led : f.start with
      | immediate | atTime | atTemp | beyond => rfl
      | afterLeader h a => exact absurd led (free h a)
    · have effect : s.createTimer n (s.timerOf p k f) = s.setTme (s.tme.create n (s.timerOf p k f)) := createTimer_other other
      rw [effect] at closed
      have causes : ∀ c, (s.setTme (s.tme.create n (s.timerOf p k f))).causePresent c = s.causePresent c :=
        causePresent_of_stc rfl
      rw [tme']
      exact ⟨closed.same causes rfl, (closed.portsAfter causes).congr rfl rfl fun _ _ => rfl⟩
    · subst delay
      have effect := createTimer_delay (s := s) (p := p) (n := n) (f := f) y named
      rw [effect] at closed
      change Closed _ s ((s.setTme (s.tme.create n (s.timerOf p .delayStart f))).addReason y .delay) t at closed
      have whole := addReason_whole (s.setTme (s.tme.create n (s.timerOf p .delayStart f))) y .delay
      have gate := closed.gate (w := s.setTme (s.tme.create n (s.timerOf p .delayStart f))) (x := y)
        (r := (s.ptc.reasons.get y).set .delay true) rfl rfl rfl
      generalize (s.setTme (s.tme.create n (s.timerOf p .delayStart f))).addReason y .delay = u at *
      have rest := closed.gated (causePresent_of_stc (by rw [whole]; rfl))
      obtain ⟨ptc, planner, drive, closes, -, -⟩ := gate
      refine ⟨ptc, fun open_ => (closes open_ (clearReasons_added _ _)).1, planner, drive, ?_⟩
      rw [tme', closed.ptc, closed.dru]
      rw [whole] at rest ⊢
      exact rest

/-! ## The handle checks (R43) -/

/-- The refusal of a handle that names no timer. -/
theorem lookup_refused {t : Tme} {h : Handle} {e : Status}
    (wrong : 24 ≤ h.slot.toNat ∧ e = .badValue ∨
      (∃ x, h.slot.toNat < 24 ∧ t.slots[h.slot.toNat]? = some x ∧ x.gen ≠ h.gen ∧ e = .staleHandle) ∨
      (∃ x, h.slot.toNat < 24 ∧ t.slots[h.slot.toNat]? = some x ∧ x.gen = h.gen ∧ x.timer = none ∧ e = .refusedState)) :
    t.lookup h = .error e := by
  unfold Tme.lookup
  obtain ⟨high, rfl⟩ | ⟨x, low, slot, gen, rfl⟩ | ⟨x, low, slot, gen, free, rfl⟩ := wrong
  · rw [if_neg (by omega)]
  · rw [if_pos low, slot]
    exact if_pos gen
  · rw [if_pos low, slot]
    dsimp only
    rw [if_neg (not_not_intro gen), free]

theorem onTimer_refused {s : State} {h : Handle} {e : Status} (failed : s.tme.lookup h = .error e) (p : Port) (right : Bool)
    (take : Timer → Taken) : s.onTimer p h right take = s.refuse e := by
  rw [State.onTimer, failed]

/-- The checks of a creation of a follower, up to its leader's handle. -/
theorem follower_checks {s : State} {p : Port} {h : Handle} {e : Status} (failed : s.tme.lookup h = .error e) {x : Point}
    {kind duration level : Nat} {threshold : Option Int} (cookEnd : Kind.ofCode kind = some .cookEnd) (some_ : duration ≠ 0)
    (low : 1 ≤ level) (high : level ≤ 3) (warm : threshold.isSome = true → x = .ov ∨ x = .gr) (electric : x.electric = true)
    (op : s.stc.op = .run ∨ s.stc.op = .hold) (owns : p = .supervisor ∨ p = (s.ptc.panel.get x).port) :
    refusedBy (checksOfCreate p ⟨kind, x.code, duration, .afterLeader h threshold, none, level⟩ s) (some e) := by
  have code : 6 ≤ x.code ∧ x.code ≤ 9 ∧ (x = .ov → x.code = 8) ∧ (x = .gr → x.code = 9) := by
    revert electric
    cases x <;> decide
  obtain ⟨six, nine, ov, gr⟩ := code
  have formed : createFormed .cookEnd ⟨kind, x.code, duration, .afterLeader h threshold, none, level⟩ := by
    refine ⟨some_, .inr (.inl ⟨rfl, show 1 ≤ x.code by omega, nine⟩), .inr ⟨nofun, low, high⟩, fun n => absurd rfl n, ?_⟩
    cases threshold with
    | none => exact ⟨rfl, six, nine⟩
    | some a => exact ⟨rfl, (warm rfl).imp ov gr⟩
  have led : ∀ e', (∃ h' a, StartField.afterLeader h threshold = .afterLeader h' a ∧ s.tme.lookup h' = e') ↔ e' = .error e := fun e' => by
    simp [failed, eq_comm]
  unfold checksOfCreate
  dsimp only
  rw [cookEnd, refusedBy_cons_of_passes (fun all => absurd (all _ rfl) nofun), refusedBy_cons_of_passes (fun all => all _ rfl formed),
    refusedBy_cons_of_passes (by rintro ⟨o | o, -⟩ <;> rw [o] at op <;> cases op <;> contradiction),
    refusedBy_cons_of_passes (by rintro ⟨⟨_, e⟩, -⟩; cases e), refusedBy_cons_of_passes (by
      rintro ⟨panel, y, point, other⟩
      rw [Point.ofCode_code] at point
      cases point
      exact owns.elim panel other)]
  simp only [led]
  obtain rfl | rfl | rfl := lookup_error failed
  · exact (refusedBy_cons_of_fails rfl).2 rfl
  · rw [refusedBy_cons_of_passes nofun]
    exact (refusedBy_cons_of_fails rfl).2 rfl
  · rw [refusedBy_cons_of_passes nofun, refusedBy_cons_of_passes nofun]
    exact (refusedBy_cons_of_fails rfl).2 rfl

/-- Settles O27. -/
theorem handlesAreChecked : Obligations.HandlesAreChecked := by
  intro p h d s lines busy size e wrong
  have failed := lookup_refused wrong
  have refuses : ∀ {i : Instr} {code : Byte} {take : Taken}, supervisorCodes.contains code = false → take = s.refuse e →
      ∃ t, request i code p s take = .next t ∧ OnlyReplied p (replyCode code) e [] s t := fun open_ refused =>
    request_onlyReplied lines ((dispatch_any busy open_ p _).trans refused)
  refine ⟨refuses rfl (onTimer_refused failed ..), refuses rfl (onTimer_refused failed ..), refuses rfl (onTimer_refused failed ..),
    refuses rfl (onTimer_refused failed ..), refuses rfl (onTimer_refused failed ..), refuses rfl (onTimer_refused failed ..),
    refuses rfl ?_, fun kind duration level x threshold cookEnd some_ low high warm electric op owns => ?_⟩
  · rw [State.takeAlertAck, failed]
  · obtain ⟨refused, -⟩ := timerCreateStartsASlot p ⟨kind, x.code, duration, .afterLeader h threshold, none, level⟩ s lines busy size
    exact refused e (follower_checks failed cookEnd some_ low high warm electric op owns)

end Sys2Proof.Machine

/-! # Timers modified (R59 to R63, R84) -/

namespace Sys2Proof.Machine

/-! ## A gate that a timer moves (R27 to R29, R34) -/

theorem changeReasons_tme (s : State) (x : Point) (r : PerReason Bool) : (s.changeReasons x r).tme = s.tme := by
  rw [changeReasons_whole]

theorem changeReasons_alc (s : State) (x : Point) (r : PerReason Bool) : (s.changeReasons x r).alc = s.alc := by
  rw [changeReasons_whole]

/-- Timers and entries change before a reason set does or after it: what the end of the command leaves. -/
theorem Closed.timerGate {who : Option Port} {s u w t : State} {x : Point} {r : PerReason Bool} (closed : Closed who s u t)
    (before : w = { s with tme := w.tme, alc := w.alc, ports := w.ports })
    (after : u = { w.changeReasons x r with tme := u.tme, alc := u.alc, ports := u.ports }) :
    Gated x r s t ∧ t.tme = u.tme ∧ t.alc = u.alc ∧
      t = { s with tme := t.tme, ptc := t.ptc, spl := t.spl, dru := t.dru, alc := t.alc, ports := t.ports, pins := t.pins } := by
  have whole := changeReasons_whole w x r
  have gate := closed.gate (w := w) (x := x) (r := r) (by rw [after]) (by rw [after]) (by rw [after])
  generalize w.changeReasons x r = v at *
  rw [whole, before] at after
  have rest := closed.gated (causePresent_of_stc (by rw [after]))
  have alc : t.alc = u.alc := by rw [rest]
  have ptc : w.ptc = s.ptc := by rw [before]
  have spl : w.spl = s.spl := by rw [before]
  have dru : w.dru = s.dru := by rw [before]
  have open_ : w.gateOpen x = s.gateOpen x := gateOpen_congr (by rw [ptc]) x
  refine ⟨?_, closed.tme, alc, ?_⟩
  · obtain ⟨reasons, planner, drive, closes, opens, stays⟩ := gate
    unfold PlannerKept at planner
    unfold DriveKept at drive
    rw [open_] at closes opens stays
    rw [ptc] at reasons
    rw [spl] at planner stays
    rw [dru] at drive stays
    exact ⟨reasons, planner, drive, closes, opens, stays⟩
  · rw [closed.tme, closed.ptc, closed.dru, alc]
    rw [after] at rest ⊢
    exact rest

/-! ## The right to a slot (R59) -/

section
variable {s : State} {p : Port} {h : Handle} {r : Timer} (found : s.tme.lookup h = .ok r)
include found

theorem onTimer_notOwner (barred : r.modifiableBy p = false) (take : Timer → Taken) : s.onTimer p h true take = s.refuse .notOwner := by
  rw [State.onTimer, found]
  dsimp only
  rw [barred]
  rfl

theorem onTimer_taken (right : r.modifiableBy p = true) (take : Timer → Taken) : s.onTimer p h true take = take r := by
  rw [State.onTimer, found]
  dsimp only
  rw [right]
  rfl

end

/-! ## Pauses (R62, R84) -/

theorem setPause_user (r : Timer) (v : Bool) : r.setPause .user v = { r with
    pause := { r.pause with user := v }
    tickDue := if v then r.tickDue && r.waitsTime else r.tickDue
    tempMark := if v then false else r.tempMark } := by
  cases v <;> simp [Timer.setPause, PerPause.set]

/-- A pause cause set or cleared by a request that names the slot. -/
theorem userPause_answered {s : State} {h : Handle} {r : Timer} {i : Instr} {code : Byte} (lines : s.LinesFollow)
    (busy : s.stc.op ≠ .selftest) (open_ : supervisorCodes.contains code = false) (found : s.tme.lookup h = .ok r) (p : Port) (v : Bool) :
    ∃ t, request i code p s (s.takeUserPause p h v) = .next t ∧
      (r.modifiableBy p = false → OnlyReplied p (replyCode code) .notOwner [] s t) ∧
      (r.modifiableBy p = true → r.phase = .expired → OnlyReplied p (replyCode code) .refusedState [] s t) ∧
      (r.modifiableBy p = true → r.phase ≠ .expired →
        t = { s with tme := s.tme.setTimer h.slot.toNat (some (r.setPause .user v)), ports := t.ports } ∧
        PortsAfter (some p) noPosts s t ∧ t.Replied p (replyCode code) .ok []) := by
  have passed := dispatch_any busy open_ p (s.takeUserPause p h v)
  cases right : r.modifiableBy p with
  | false =>
    obtain ⟨t, ran, only⟩ := request_onlyReplied (i := i) lines (passed.trans (onTimer_notOwner found right _))
    exact ⟨t, ran, fun _ => only, nofun, nofun⟩
  | true =>
    have taken := onTimer_taken found right fun t =>
      if t.phase = .expired then s.refuse .refusedState
      else (s.setTimer h.slot.toNat (some (t.setPause .user v))).taken []
    by_cases expired : r.phase = .expired
    · obtain ⟨t, ran, only⟩ := request_onlyReplied (i := i) lines (passed.trans (taken.trans (if_pos expired)))
      exact ⟨t, ran, nofun, fun _ _ => only, fun _ n => absurd expired n⟩
    · obtain ⟨t, ran, paused⟩ := request_setTme (i := i) lines passed (taken.trans (if_neg expired))
      exact ⟨t, ran, nofun, fun _ n => absurd n expired, fun _ _ => paused⟩

theorem onChannel_supervisor (s : State) (c : SeqChan) (take : SeqChan → Taken) : s.onChannel .supervisor c.index take = take c := by
  have named : SeqChan.ofCode c.index = some c := by cases c <;> rfl
  have right : s.seqRefusal .supervisor c = none := by
    unfold State.seqRefusal
    split
    · exact if_pos (.inl rfl)
    · exact if_pos (.inr rfl)
  rw [State.onChannel, named]
  dsimp only
  rw [right]

/-- A pause cause set or cleared on the slot of a channel. -/
theorem seqPause_answered {s : State} {i : Instr} {code : Byte} (lines : s.LinesFollow) (busy : s.stc.op ≠ .selftest)
    (c : SeqChan) (v : Bool) : ∃ t, request i code .supervisor s (s.takeSeqPause .supervisor c.index v) = .next t ∧
      ((s.squ.get c).state ≠ .active → OnlyReplied .supervisor (replyCode code) .refusedState [] s t) ∧
      ∀ h r, (s.squ.get c).state = .active → (s.squ.get c).slot = some h → s.tme.lookup h = .ok r →
        t = { s with tme := s.tme.setTimer h.slot.toNat (some (r.setPause .user v)), ports := t.ports } ∧
        PortsAfter (some .supervisor) noPosts s t ∧ t.Replied .supervisor (replyCode code) .ok [] := by
  have passed := dispatch_supervisor (s := s) (code := code) (s.takeSeqPause .supervisor c.index v) busy
  by_cases active : (s.squ.get c).state = .active
  · by_cases slot : ∃ h r, (s.squ.get c).slot = some h ∧ s.tme.lookup h = .ok r
    · obtain ⟨h, r, slot, found⟩ := slot
      have taken : s.takeSeqPause .supervisor c.index v = (s.setTimer h.slot.toNat (some (r.setPause .user v))).taken [] := by
        rw [State.takeSeqPause, onChannel_supervisor, if_neg (not_not_intro active), slot]
        dsimp only
        rw [found]
      obtain ⟨t, ran, paused⟩ := request_setTme (i := i) lines passed taken
      refine ⟨t, ran, fun n => absurd active n, fun g u _ slot' found' => ?_⟩
      rw [slot] at slot'
      cases slot'
      rw [found] at found'
      cases found'
      exact paused
    · obtain ⟨t, ran, -⟩ := request_closed (i := i) passed
      exact ⟨t, ran, fun n => absurd active n, fun h r _ some found => absurd ⟨h, r, some, found⟩ slot⟩
  · have taken : s.takeSeqPause .supervisor c.index v = s.refuse .refusedState := by
      rw [State.takeSeqPause, onChannel_supervisor, if_pos active]
    obtain ⟨t, ran, only⟩ := request_onlyReplied (i := i) lines (passed.trans taken)
    exact ⟨t, ran, fun _ => only, fun _ _ e => absurd e active⟩

/-- Settles O29. -/
theorem pausesSetUser : Obligations.PausesSetUser := by
  intro v s lines busy changed
  have same : ∀ r, changed r = r.setPause .user v := fun r => (setPause_user r v).symm
  refine ⟨fun p h r found => ?_, fun c => ?_⟩
  · rw [same]
    cases v with
    | true => exact userPause_answered (i := .timerPause p h) (code := 0x14) lines busy rfl found p true
    | false => exact userPause_answered (i := .timerResume p h) (code := 0x15) lines busy rfl found p false
  · simp only [same]
    cases v with
    | true => exact seqPause_answered (i := .seqPause .supervisor c.index) (code := 0x23) lines busy c true
    | false => exact seqPause_answered (i := .seqResume .supervisor c.index) (code := 0x24) lines busy c false

/-! ## TIMER_ADJUST (R60, R61) -/

theorem removeEntry_portsAfter (s : State) (h : Handle) (r : Timer) :
    PortsAfter none (toPorts .alertChanged (s.timerAudience r)) s (s.removeEntry h r) :=
  (postTo_portsAfter (s.setAlc _) .alertChanged (s.timerAudience r)).congr rfl rfl fun _ _ => rfl

/-- Settles O28. -/
theorem timerAdjustMovesTime : Obligations.TimerAdjustMovesTime := by
  intro p h d r s lines busy found right n moved
  have passed := dispatch_any (code := 0x13) busy rfl p (s.takeTimerAdjust p h d)
  have taken := onTimer_taken found right fun t =>
    if t.phase = .expired then
      if d ≤ 0 then s.refuse .badValue else (s.extendTimer h t d).taken (enc3 (adjusted 0 d))
    else (s.setTimer h.slot.toNat (some (t.adjust d))).taken (enc3 (t.adjust d).remaining)
  change s.takeTimerAdjust p h d = _ at taken
  refine ⟨fun started => ?_, fun waiting => ?_, fun expired back => ?_, fun expired forth minder pointless => ?_,
    fun x expired forth cookEnd named => ?_⟩
  · have adjusted : r.adjust d = { r with remaining := moved r.remaining } := by unfold Timer.adjust; rw [started]; rfl
    rw [if_neg (by rw [started]; nofun), adjusted] at taken
    exact request_setTme (i := .timerAdjust p h d) lines passed taken
  · have adjusted : r.adjust d = { r with duration := moved r.duration, remaining := moved r.duration } := by
      unfold Timer.adjust; rw [waiting]; rfl
    rw [if_neg (by rw [waiting]; nofun), adjusted] at taken
    exact request_setTme (i := .timerAdjust p h d) lines passed taken
  · rw [if_pos expired, if_pos back] at taken
    exact request_onlyReplied (i := .timerAdjust p h d) lines (passed.trans taken)
  · rw [if_pos expired, if_neg (by omega)] at taken
    have effect : s.extendTimer h r d = (s.setTimer n (some (r.extended d s.tme.halt))).removeEntry h r := by
      unfold State.extendTimer
      rw [minder]
    rw [effect] at taken
    have extended : r.extended d s.tme.halt = { r with
        phase := .started, remaining := moved 0, pause := { user := false, halt := false }, endCause := none,
        probe := if r.endCause = some .probe then none else r.probe, tickDue := false, tempMark := false
        probeMark := false } := by
      rw [Timer.extended, show (r.point.isSome && s.tme.halt) = false by rw [pointless]; rfl]
      rfl
    rw [extended] at taken
    obtain ⟨t, ran, whole, -, posts, replied⟩ := request_taken (i := .timerAdjust p h d) passed taken (causePresent_of_stc rfl) rfl
      ((removeEntry_portsAfter (s.setTimer n _) h r).congr rfl rfl fun _ _ => rfl)
    exact ⟨t, ran, whole, posts, replied⟩
  · rw [if_pos expired, if_neg (by omega)] at taken
    have extended : r.extended d s.tme.halt = { r with
        phase := .started, remaining := moved 0, pause := { user := false, halt := s.tme.halt }, endCause := none,
        probe := if r.endCause = some .probe then none else r.probe, tickDue := false, tempMark := false
        probeMark := false } := by
      rw [Timer.extended, show (r.point.isSome && s.tme.halt) = s.tme.halt by rw [named]; rfl]
      rfl
    have effect : s.extendTimer h r d = ((s.setTimer n (some (r.extended d s.tme.halt))).removeEntry h r).removeReason x .timerOff := by
      unfold State.extendTimer
      rw [cookEnd, named]
    rw [effect, extended] at taken
    obtain ⟨t, ran, closed, replied⟩ := request_closed (i := .timerAdjust p h d) passed
    rw [taken] at closed replied
    obtain ⟨gate, tme, alc, rest⟩ := closed.timerGate (x := x) (r := (s.ptc.reasons.get x).set .timerOff false)
      (w := (s.setTimer n _).removeEntry h r) rfl rfl
    have opened := gate.gateOpen
    obtain ⟨ptc, planner, -, -, opens, stays⟩ := gate
    obtain ⟨withdrawals, dru⟩ := stays (removeReason_keeps_open s x .timerOff)
    rw [dru] at rest
    exact ⟨t, ran, tme.trans (changeReasons_tme _ _ _), alc.trans (changeReasons_alc _ _ _), ptc, fun shut now => opens shut (opened.symm.trans now), planner, withdrawals, rest, replied⟩

end Sys2Proof.Machine

/-! # Timers cancelled and expired (R49 to R57, R63) -/

namespace Sys2Proof.Machine

/-! ## TIMER_CANCEL (R63) -/

theorem length_of_gens {t u : Tme} (h : t.slots.map Slot.gen = u.slots.map Slot.gen) : t.slots.length = u.slots.length := by
  simpa using congrArg List.length h

theorem setFollower_gens (t : Tme) (h : Handle) (v : Option Handle) :
    (t.setFollower h v).slots.map Slot.gen = t.slots.map Slot.gen := by
  unfold Tme.setFollower
  split
  · rfl
  · exact gens_setTimer ..

/-- The Timer Table with a follower's slot freed where a leader has one. -/
def Tme.freeFollower (t : Tme) : Option Handle → Tme
  | some f => t.setTimer f.slot.toNat none
  | none => t

theorem freeFollower_gens (t : Tme) (f : Option Handle) : (t.freeFollower f).slots.map Slot.gen = t.slots.map Slot.gen := by
  cases f with
  | none => rfl
  | some f => exact gens_setTimer ..

theorem freeFollower_timer (t : Tme) (f : Option Handle) (m : Nat) :
    (∀ g, f = some g → m = g.slot.toNat → (t.freeFollower f).timer m = none) ∧
    ((∀ g, f = some g → m ≠ g.slot.toNat) → (t.freeFollower f).timer m = t.timer m) := by
  cases f with
  | none => exact ⟨nofun, fun _ => rfl⟩
  | some f =>
    have timer := timer_setTimer t f.slot.toNat none m
    refine ⟨fun g e same => ?_, fun other => ?_⟩
    · cases e
      refine timer.trans ?_
      split
      · rfl
      · next out =>
        have high : t.slots.length ≤ m := by
          rw [same]
          by_contra low
          exact out ⟨same, by omega⟩
        simp [Tme.timer, List.getElem?_eq_none high]
    · exact timer.trans (if_neg fun ⟨same, _⟩ => other f rfl same)

section
variable {s : State} {h : Handle} {r : Timer}

theorem cancelEffects_expired (expired : r.phase = .expired) : s.cancelEffects h r = s.removeEntry h r := if_pos expired

theorem cancelEffects_delay (live : r.phase ≠ .expired) (delay : r.kind = .delayStart) {x : Point} (point : r.point = some x) :
    s.cancelEffects h r = (s.setTme (s.tme.freeFollower r.follower)).removeReason x .delay := by
  unfold State.cancelEffects
  rw [if_neg live, delay, point]
  cases r.follower <;> rfl

/-- A slot that is no DELAY_START and follows no leader. -/
theorem cancelEffects_plain (live : r.phase ≠ .expired) (delay : r.kind ≠ .delayStart ∨ r.point = none)
    (alone : ∀ l c, r.start ≠ .afterLeader (some l) c) : s.cancelEffects h r = s := by
  unfold State.cancelEffects
  rw [if_neg live]
  split
  · next kind point start => obtain k | n := delay <;> simp_all
  · next start => exact absurd start (alone _ _)
  · rfl

theorem cancelEffects_gens (s : State) (h : Handle) (r : Timer) :
    (s.cancelEffects h r).tme.slots.map Slot.gen = s.tme.slots.map Slot.gen := by
  unfold State.cancelEffects
  split
  · rfl
  · split
    · rw [State.removeReason, changeReasons_tme]
      cases r.follower with
      | none => rfl
      | some f => exact gens_setTimer ..
    · split
      · exact setFollower_gens ..
      · rfl
    · rfl

end

/-- Settles O30. -/
theorem timerCancelFreesTheSlot : Obligations.TimerCancelFreesTheSlot := by
  intro p h r s busy found right
  have taken : s.takeTimerCancel p h = ((s.cancelEffects h r).freeSlot h.slot.toNat).taken [] := onTimer_taken found right _
  obtain ⟨t, ran, closed, replied⟩ := request_closed (i := .timerCancel p h) (dispatch_any (code := 0x16) busy rfl p (s.takeTimerCancel p h))
  rw [taken] at closed replied
  change Closed _ s ((s.cancelEffects h r).freeSlot h.slot.toNat) t at closed
  have tme : t.tme = (s.cancelEffects h r).tme.setTimer h.slot.toNat none := closed.tme
  have gens := cancelEffects_gens s h r
  have low : h.slot.toNat < (s.cancelEffects h r).tme.slots.length := by
    rw [length_of_gens gens]
    exact timer_lt (lookup_timer found)
  refine ⟨t, ran, replied, ?_, ?_, fun expired => ?_, fun live delay x point => ?_, fun live cookEnd alone => ?_⟩
  · rw [tme, timer_setTimer]
    exact if_pos ⟨rfl, low⟩
  · rw [tme, gens_setTimer, gens]
  · rw [cancelEffects_expired expired] at closed
    exact closed.same (causePresent_of_stc rfl) rfl
  · rw [cancelEffects_delay live delay point] at closed tme
    obtain ⟨gate, -, -, rest⟩ := closed.timerGate (x := x) (r := (s.ptc.reasons.get x).set .delay false)
      (w := s.setTme (s.tme.freeFollower r.follower)) rfl rfl
    have alc : t.alc = s.alc := by
      rw [(closed.quiet (causePresent_of_stc ?_)).1]
      · exact changeReasons_alc ..
      · change (State.removeReason _ _ _).stc = _
        rw [removeReason_whole]
        rfl
    rw [State.removeReason, changeReasons_tme] at tme
    change t.tme = (s.tme.freeFollower r.follower).setTimer h.slot.toNat none at tme
    obtain ⟨ptc, planner, drive, -, -, -⟩ := gate
    have timer := fun m => timer_setTimer (s.tme.freeFollower r.follower) h.slot.toNat none m
    refine ⟨?_, fun y other => ?_, fun f led => ?_, fun m other unled => ?_, planner, ?_, drive, ?_⟩
    · rw [ptc]
      exact congrArg PerReason.delay (PerPoint.get_set_self ..)
    · rw [ptc]
      exact PerPoint.get_set_ne _ _ other
    · rw [tme, timer]
      split
      · rfl
      · exact (freeFollower_timer s.tme r.follower _).1 f led rfl
    · rw [tme, timer, if_neg fun ⟨same, _⟩ => other same]
      exact (freeFollower_timer s.tme r.follower m).2 unled
    · unfold DemandKept
      rw [ptc]
    · rw [alc] at rest
      exact rest
  · rw [cancelEffects_plain live (.inl (by rw [cookEnd]; nofun)) alone] at closed
    exact closed.same (causePresent_of_stc rfl) rfl

/-! ## The slot that an event acts on (log 5, log 6) -/

theorem found_some {t : Tme} {n : Nat} {r : Timer} {find : Option Nat} (slot : find = some n) (timer : t.timer n = some r) :
    t.found find = some (n, r) := by
  rw [Tme.found, slot, Option.bind_some, timer]
  rfl

theorem lowest_meets {t : Tme} {n : Nat} {r : Timer} {f : Timer → Bool} (lowest : t.lowest f = some n) (timer : t.timer n = some r) :
    f r = true := by
  obtain ⟨low, meets, -⟩ := List.findIdx?_eq_some_iff_getElem.1 lowest
  rw [Tme.timer, List.getElem?_eq_getElem low, Option.bind_some] at timer
  rw [timer] at meets
  exact meets

theorem queueNotice_eq (s : State) (k : Notice) : s.queueNotice k = { s with alc := { s.alc with
    notices := if s.alc.notices.length < 4 then s.alc.notices ++ [k] else s.alc.notices } } := by
  unfold State.queueNotice
  split <;> rfl

/-! ## A slot that rests EXPIRED (R53, R54, R57) -/

theorem restExpired_posts (s : State) (n : Nat) (r : Timer) (c : EndCause) (q : Port) (heard : s.timerAudience r q = true) :
    ((s.restExpired n r c).ports.get q).posted.get .timerExpired = true ∧
      ((s.restExpired n r c).ports.get q).posted.get .alertChanged = true := by
  have heard' : (s.setTimer n (some (r.expired c))).timerAudience r q = true := heard
  simp [State.restExpired, State.raiseEntry, State.storeAlerts, State.postTo_posted, heard, heard']

theorem expire_pointless {s : State} {n : Nat} {r : Timer} {c : EndCause} (kind : r.kind = .minder ∨ r.kind = .cookEnd)
    (point : r.point = none) : s.expire n r c = s.restExpired n r c := by
  unfold State.expire
  obtain kind | kind := kind <;> rw [kind]
  dsimp only
  rw [point]

theorem expire_cookEnd {s : State} {n : Nat} {r : Timer} {c : EndCause} (kind : r.kind = .cookEnd) {x : Point}
    (point : r.point = some x) : s.expire n r c = (s.addReason x .timerOff).restExpired n r c := by
  unfold State.expire
  rw [kind]
  dsimp only
  rw [point]

theorem addReason_audience (s : State) (x : Point) (o : Reason) (r : Timer) (q : Port) :
    (s.addReason x o).timerAudience r q = s.timerAudience r q := by
  rw [addReason_whole]
  rfl

/-- What the expiry of a COOK_END leaves. -/
theorem cookEnd_expires {s t : State} {n : Nat} {r : Timer} {c : EndCause} {x : Point} (kind : r.kind = .cookEnd) (point : r.point = some x)
    (closed : Closed none s (s.expire n r c) t) :
    t.tme = s.tme.setTimer n (some (r.expired c)) ∧
    t.alc = { s.alc with entries := s.alc.entries ++ [timerEntry (s.tme.handle n) r s.tbu.seconds] } ∧
    (∀ q, s.timerAudience r q = true →
      (t.ports.get q).posted.timerExpired = true ∧ (t.ports.get q).posted.alertChanged = true) ∧
    t.ptc = { s.ptc with reasons := s.ptc.reasons.set x { s.ptc.reasons.get x with timerOff := true } } ∧
    t.gateOpen x = false ∧
    (s.gateOpen x = true → (∀ l ∈ x.loads, t.spl.withdrawals.get l = true ∧ t.dru.withdrawLoads.get l = true) ∧
      ∀ z, x = z.point → t.dru.withdrawGas.get z = true) ∧
    PlannerKept s t ∧ DriveKept s t ∧
    t = { s with tme := t.tme, ptc := t.ptc, spl := t.spl, dru := t.dru, alc := t.alc, ports := t.ports, pins := t.pins } := by
  rw [expire_cookEnd kind point] at closed
  have posts := restExpired_posts (s.addReason x .timerOff) n r c
  obtain ⟨gate, tme, alc, rest⟩ := closed.timerGate (x := x) (r := (s.ptc.reasons.get x).set .timerOff true) (w := s) rfl rfl
  have causes : ∀ c', ((s.addReason x .timerOff).restExpired n r c).causePresent c' = s.causePresent c' :=
    causePresent_of_stc (by
      change (s.addReason x .timerOff).stc = s.stc
      rw [addReason_whole])
  have posted := (closed.quiet causes).2
  have before : (s.addReason x .timerOff).tme = s.tme ∧ (s.addReason x .timerOff).alc = s.alc ∧
      (s.addReason x .timerOff).tbu = s.tbu := by
    rw [addReason_whole]
    exact ⟨rfl, rfl, rfl⟩
  obtain ⟨table, list, clock⟩ := before
  change t.tme = (s.addReason x .timerOff).tme.setTimer n (some (r.expired c)) at tme
  change t.alc = { (s.addReason x .timerOff).alc with entries := (s.addReason x .timerOff).alc.entries ++
    [timerEntry ((s.addReason x .timerOff).tme.handle n) r (s.addReason x .timerOff).tbu.seconds] } at alc
  rw [table] at tme
  rw [table, list, clock] at alc
  have shut := gate.gateOpen
  rw [clearReasons_added] at shut
  obtain ⟨ptc, planner, drive, closes, -, -⟩ := gate
  refine ⟨tme, alc, fun q heard => ?_, ptc, shut, fun open_ => ?_, planner, drive, rest⟩
  · obtain ⟨expired, changed⟩ := posts q (by rw [addReason_audience]; exact heard)
    exact ⟨(posted q .timerExpired).trans expired, (posted q .alertChanged).trans changed⟩
  · obtain ⟨loads, gas⟩ := closes open_ (clearReasons_added _ _)
    exact ⟨loads, fun z e => gas z (by rw [e]; exact Gas.point_gas z)⟩

/-- Settles O32. -/
theorem timerExpiryRaisesAnEntry : Obligations.TimerExpiryRaisesAnEntry := by
  intro n r s slot timer running last kind busy
  obtain ⟨t, ran, closed⟩ := event_closed (i := .timerExpiry) rfl nofun s
  have effect : s.effect .timerExpiry = s.expire n r .time := by
    change s.tickExpiry = _
    unfold State.tickExpiry
    rw [found_some slot timer]
    dsimp only
    rw [running, last]
    rfl
  rw [effect] at closed
  have minder : r.point = none → r.kind = .minder ∨ r.kind = .cookEnd := fun _ => kind.imp And.left And.left
  obtain point | ⟨x, point⟩ := Option.eq_none_or_eq_some r.point
  · rw [expire_pointless (minder point) point] at closed
    have causes : ∀ c, (s.restExpired n r .time).causePresent c = s.causePresent c := causePresent_of_stc rfl
    have whole := closed.same causes rfl
    have posted := (closed.quiet causes).2
    refine ⟨t, ran, closed.tme, by rw [whole]; rfl, fun q heard => ?_, fun _ => ?_, fun x some => ?_⟩
    · obtain ⟨expired, changed⟩ := restExpired_posts s n r .time q heard
      exact ⟨(posted q .timerExpired).trans expired, (posted q .alertChanged).trans changed⟩
    · have tme : t.tme = (s.restExpired n r .time).tme := closed.tme
      have alc : t.alc = (s.restExpired n r .time).alc := (closed.quiet causes).1
      rw [tme, alc]
      exact whole
    · rw [point] at some; cases some
  · have cookEnd : r.kind = .cookEnd := by
      obtain ⟨-, pointless⟩ | ⟨cookEnd, -⟩ := kind
      · rw [point] at pointless; cases pointless
      · exact cookEnd
    obtain ⟨tme, alc, posts, ptc, shut, closes, planner, drive, rest⟩ := cookEnd_expires cookEnd point closed
    refine ⟨t, ran, tme, alc, posts, fun none => ?_, fun y e => ?_⟩
    · rw [point] at none; cases none
    rw [point] at e
    cases e
    exact ⟨ptc, shut, closes, planner, drive, rest⟩

end Sys2Proof.Machine

/-! # Slots that start, and the follower of a DELAY_START (R49, R50, R55, R57) -/

namespace Sys2Proof.Machine

/-! ## DELAY_START (R55) -/

/-- The Timer Table with a follower released from its wait. -/
def Tme.release (t : Tme) (h : Handle) : Tme :=
  match t.lookup h with
  | .error _ => t
  | .ok f => t.setTimer h.slot.toNat (some f.released)

/-- The Timer Table with the follower released that a leader has, if it has one. -/
def Tme.releaseOf (t : Tme) : Option Handle → Tme
  | some h => t.release h
  | none => t

theorem release_gens (t : Tme) (h : Handle) : (t.release h).slots.map Slot.gen = t.slots.map Slot.gen := by
  unfold Tme.release
  split
  · rfl
  · exact gens_setTimer ..

theorem releaseOf_gens (t : Tme) (f : Option Handle) : (t.releaseOf f).slots.map Slot.gen = t.slots.map Slot.gen := by
  cases f with
  | none => rfl
  | some h => exact release_gens t h

theorem releaseOf_halt (t : Tme) (f : Option Handle) : (t.releaseOf f).halt = t.halt := by
  cases f with
  | none => rfl
  | some h =>
    change (t.release h).halt = t.halt
    unfold Tme.release
    split <;> rfl

theorem releaseOf_other (t : Tme) (f : Option Handle) {m : Nat} (other : ∀ h, f = some h → m ≠ h.slot.toNat) :
    (t.releaseOf f).timer m = t.timer m := by
  cases f with
  | none => rfl
  | some h =>
    change (t.release h).timer m = t.timer m
    unfold Tme.release
    split
    · rfl
    · rw [timer_setTimer, if_neg fun ⟨same, _⟩ => other h rfl same]

theorem releaseOf_follower {t : Tme} {h : Handle} {u : Timer} (found : t.lookup h = .ok u) :
    (t.releaseOf (some h)).timer h.slot.toNat = some u.released := by
  have eq : t.releaseOf (some h) = t.setTimer h.slot.toNat (some u.released) := by
    rw [Tme.releaseOf, Tme.release, found]
  rw [eq, timer_setTimer, if_pos ⟨rfl, timer_lt (lookup_timer found)⟩]

theorem releaseFollower_eq (s : State) (h : Handle) :
    s.releaseFollower h = { s with tme := s.tme.release h, ports := (s.releaseFollower h).ports } ∧
      PostsStay s (s.releaseFollower h) := by
  cases found : s.tme.lookup h with
  | error e =>
    have eq : s.releaseFollower h = s := by rw [State.releaseFollower, found]
    have table : s.tme.release h = s.tme := by rw [Tme.release, found]
    rw [eq, table]
    exact ⟨rfl, PostsStay.refl s⟩
  | ok f =>
    have eq : s.releaseFollower h = if f.released.phase = .started then
        (s.setTimer h.slot.toNat (some f.released)).postTo .timerStarted (s.timerAudience f)
        else s.setTimer h.slot.toNat (some f.released) := by rw [State.releaseFollower, found]
    have table : s.tme.release h = s.tme.setTimer h.slot.toNat (some f.released) := by rw [Tme.release, found]
    rw [eq, table]
    split
    · exact ⟨rfl, (postTo_outcome (s.setTimer _ _) _ _).posts⟩
    · exact ⟨rfl, PostsStay.refl s⟩

/-- The follower released that a leader has, if it has one. -/
def State.releaseOf (s : State) : Option Handle → State
  | some h => s.releaseFollower h
  | none => s

theorem State.releaseOf_eq (s : State) (f : Option Handle) :
    s.releaseOf f = { s with tme := s.tme.releaseOf f, ports := (s.releaseOf f).ports } := by
  cases f with
  | none => rfl
  | some h => exact (releaseFollower_eq s h).1

/-- The slot of a DELAY_START that expires: DELAY removed, then timers, notices and port units alone. -/
theorem expireDelay_eq (s : State) (n : Nat) (r : Timer) {x : Point} (point : r.point = some x) :
    s.expireDelay n r = { s.removeReason x .delay with
      tme := (s.tme.releaseOf r.follower).setTimer n none
      alc := { s.alc with notices := if s.alc.notices.length < 4 then s.alc.notices ++ [.started] else s.alc.notices }
      ports := (s.expireDelay n r).ports } ∧
    ∀ q, s.timerAudience r q = true → ((s.expireDelay n r).ports.get q).posted.get .timerExpired = true := by
  have tme : (s.removeReason x .delay).tme = s.tme := changeReasons_tme ..
  have alc : (s.removeReason x .delay).alc = s.alc := changeReasons_alc ..
  have audience : ∀ q, (s.removeReason x .delay).timerAudience r q = s.timerAudience r q := fun q => by
    rw [removeReason_whole]
    rfl
  generalize gone : s.removeReason x .delay = v at *
  have whole := v.releaseOf_eq r.follower
  rw [tme] at whole
  have eq : s.expireDelay n r =
      ((((v.releaseOf r.follower).queueNotice .started).postTo .timerExpired (s.timerAudience r))).setTimer n none := by
    unfold State.expireDelay
    rw [point]
    dsimp only
    rw [gone]
    cases r.follower <;> rfl
  generalize v.releaseOf r.follower = w at *
  rw [eq, queueNotice_eq]
  refine ⟨?_, fun q heard => ?_⟩
  · rw [whole, alc]
    rfl
  · change ((State.postTo _ _ _).ports.get q).posted.get .timerExpired = true
    simp [State.postTo_posted, heard]

/-- Settles O33. -/
theorem delayStartExpiryOpensTheGate : Obligations.DelayStartExpiryOpensTheGate := by
  intro n r x s slot timer running last kind point busy
  obtain ⟨t, ran, closed⟩ := event_closed (i := .timerExpiry) rfl nofun s
  have effect : s.effect .timerExpiry = s.expireDelay n r := by
    change s.tickExpiry = _
    unfold State.tickExpiry
    rw [found_some slot timer]
    dsimp only
    rw [running, last]
    change s.expire n r .time = _
    unfold State.expire
    rw [kind]
  rw [effect] at closed
  obtain ⟨whole, posts⟩ := expireDelay_eq s n r point
  generalize s.expireDelay n r = u at *
  obtain ⟨gate, tme, alc, rest⟩ := closed.timerGate (x := x) (r := (s.ptc.reasons.get x).set .delay false) (w := s) rfl
    (by
      have tme : u.tme = (s.tme.releaseOf r.follower).setTimer n none := by rw [whole]
      have alc : u.alc = { s.alc with notices := if s.alc.notices.length < 4 then s.alc.notices ++ [.started] else s.alc.notices } := by
        rw [whole]
      rw [tme, alc]
      exact whole)
  have open_ := gate.gateOpen
  obtain ⟨ptc, planner, drive, -, opens, -⟩ := gate
  rw [whole] at tme alc
  change t.tme = (s.tme.releaseOf r.follower).setTimer n none at tme
  have low : n < (s.tme.releaseOf r.follower).slots.length := by
    rw [length_of_gens (releaseOf_gens s.tme r.follower)]
    exact timer_lt timer
  have others : ∀ m, m ≠ n → t.tme.timer m = (s.tme.releaseOf r.follower).timer m := fun m other => by
    rw [tme, timer_setTimer, if_neg fun ⟨same, _⟩ => other same]
  refine ⟨t, ran, ?_, ?_, ?_, ?_, fun shut now => opens shut (open_.symm.trans now), ptc, alc, fun q heard => ?_,
    fun m other unled => ?_, planner, drive, rest, fun f u' led found other => ?_⟩
  · rw [tme, timer_setTimer, if_pos ⟨rfl, low⟩]
  · rw [tme, gens_setTimer, releaseOf_gens]
  · rw [tme]
    exact releaseOf_halt ..
  · rw [open_, clearReasons_iff]
    refine forall_congr' fun o => ?_
    rw [PerReason.get_set]
    by_cases delay : o = .delay <;> simp [delay]
  · exact closed.keeps (c := .timerExpired) nofun (posts q heard)
  · rw [others m other, releaseOf_other s.tme r.follower unled]
  · rw [others _ other, led, releaseOf_follower found]
    refine ⟨fun free => ⟨u'.started, ?_, rfl, rfl, rfl⟩, fun l c start _ => ?_⟩
    · unfold Timer.released
      split
      · next l c start => exact absurd start (free l c)
      · rfl
    · rw [Timer.released, start]

/-! ## Waits that end, and PROBE stops (R49, R57) -/

/-- What a WAITING slot that starts leaves. -/
theorem startSlot_started {i : Instr} {s : State} {n : Nat} {r : Timer} {k : Notice} (request : asRequest i = none) (other : i ≠ .coldReset)
    (effect : s.effect i = s.startSlot n r k) : ∃ t, exec i s = .next t ∧
      (∃ v, t.tme = s.tme.setTimer n (some v) ∧ v.phase = .started ∧ v.remaining = r.duration ∧ v.pause = r.pause ∧
        v.kind = r.kind ∧ v.owner = r.owner) ∧
      t.alc = { s.alc with notices := if s.alc.notices.length < 4 then s.alc.notices ++ [k] else s.alc.notices } ∧
      PortsAfter none (toPorts .timerStarted (s.timerAudience r)) s t ∧
      t = { s with tme := t.tme, alc := t.alc, ports := t.ports, pins := t.pins } := by
  obtain ⟨t, ran, closed⟩ := event_closed request other s
  have eq : s.startSlot n r k = { (s.setTimer n (some r.started)).postTo .timerStarted (s.timerAudience r) with
      alc := { s.alc with notices := if s.alc.notices.length < 4 then s.alc.notices ++ [k] else s.alc.notices } } :=
    queueNotice_eq ((s.setTimer n (some r.started)).postTo .timerStarted (s.timerAudience r)) k
  rw [effect, eq] at closed
  have whole := closed.same (causePresent_of_stc rfl) rfl
  have after := closed.portsAfter (causePresent_of_stc rfl)
  have tme : t.tme = s.tme.setTimer n (some r.started) := closed.tme
  have alc : t.alc = { s.alc with notices := if s.alc.notices.length < 4 then s.alc.notices ++ [k] else s.alc.notices } := by
    rw [whole]
  refine ⟨t, ran, ⟨r.started, tme, rfl, rfl, rfl, rfl, rfl⟩, alc, ?_, ?_⟩
  · have posted := postTo_portsAfter (s.setTimer n (some r.started)) .timerStarted (s.timerAudience r)
    exact (posted.trans (after.congr rfl rfl fun _ _ => rfl)).congr rfl rfl fun _ _ => (Bool.or_false _).symm
  · rw [tme, alc]
    exact whole

/-- Settles O34. -/
theorem waitsAndProbesAct : Obligations.WaitsAndProbesAct := by
  intro n r s timer busy
  refine ⟨fun slot waits => ?_, fun slot => ?_, fun slot oven => ?_⟩
  · refine startSlot_started (i := .timerStartAtTime) rfl nofun ?_
    change s.tickStart = _
    unfold State.tickStart
    rw [found_some slot timer]
    exact if_pos waits
  · refine startSlot_started (i := .timerStartAtTemp) rfl nofun ?_
    change s.tempStart = _
    unfold State.tempStart
    rw [found_some slot timer]
  · obtain ⟨t, ran, closed⟩ := event_closed (i := .probeStop) rfl nofun s
    have effect : s.effect .probeStop = s.expire n r .probe := by
      change s.probeExpiry = _
      unfold State.probeExpiry
      rw [found_some slot timer]
    rw [effect] at closed
    have due := lowest_meets slot timer
    have cookEnd : r.kind = .cookEnd := by
      simp only [Timer.probeDue, Bool.and_eq_true, decide_eq_true_eq] at due
      exact due.1.2
    obtain ⟨tme, alc, -, ptc, shut, -, planner, drive, rest⟩ := cookEnd_expires cookEnd oven closed
    refine ⟨t, ran, ⟨r.expired .probe, tme, rfl, rfl, rfl, rfl⟩, ?_, shut, planner, ?_, drive, rest, ?_⟩
    · rw [ptc]
      exact congrArg PerReason.timerOff (PerPoint.get_set_self s.ptc.reasons .ov ((s.ptc.reasons.get .ov).set .timerOff true))
    · unfold DemandKept
      rw [ptc]
    · rw [alc, ← oven]
      rfl

end Sys2Proof.Machine

/-! # Channels: programs stored and aborted (R75, R77, R85) -/

namespace Sys2Proof.Machine

/-! ## A channel's STEP slot freed, and its record replaced -/

/-- What the freeing of a channel's STEP slot leaves. -/
structure SlotFreed (c : SeqChan) (s t : State) : Prop where
  rest : t = { s with tme := t.tme, alc := { s.alc with entries := t.alc.entries }, ports := t.ports }
  gens : t.tme.slots.map Slot.gen = s.tme.slots.map Slot.gen
  halt : t.tme.halt = s.tme.halt
  others : ∀ m, (∀ h, (s.squ.get c).slot = some h → m ≠ h.slot.toNat) → t.tme.timer m = s.tme.timer m
  none : (s.squ.get c).slot = none → t = s
  freed : ∀ h r, (s.squ.get c).slot = some h → s.tme.lookup h = .ok r → t.tme.timer h.slot.toNat = Option.none ∧
    t.alc.entries = if r.phase = .expired then s.alc.entries.filter fun e => !e.forTimer h else s.alc.entries
  posts : PostsStay s t

theorem SlotFreed.refl {c : SeqChan} {s : State} (bare : ∀ h r, (s.squ.get c).slot = some h → s.tme.lookup h ≠ .ok r) : SlotFreed c s s :=
  ⟨rfl, rfl, rfl, fun _ _ => rfl, fun _ => rfl, fun h r slot found => absurd found (bare h r slot), PostsStay.refl s⟩

theorem freeStepSlot_freed (s : State) (c : SeqChan) : SlotFreed c s (s.freeStepSlot c) := by
  obtain slot | ⟨h, slot⟩ := Option.eq_none_or_eq_some (s.squ.get c).slot
  · have eq : s.freeStepSlot c = s := by rw [State.freeStepSlot, slot]
    rw [eq]
    exact .refl fun h r some => by rw [slot] at some; cases some
  · cases found : s.tme.lookup h with
    | error e =>
      have eq : s.freeStepSlot c = s := by
        rw [State.freeStepSlot, slot]
        dsimp only
        rw [found]
      rw [eq]
      refine .refl fun g r some => ?_
      rw [slot] at some
      cases some
      rw [found]
      nofun
    | ok r =>
      have eq : s.freeStepSlot c = (if r.phase = .expired then s.removeEntry h r else s).freeSlot h.slot.toNat := by
        rw [State.freeStepSlot, slot]
        dsimp only
        rw [found]
      have cleared : ∃ v, v = (if r.phase = .expired then s.removeEntry h r else s) ∧
          v = { s with alc := { s.alc with entries := if r.phase = .expired then s.alc.entries.filter fun e => !e.forTimer h
                  else s.alc.entries }
                       ports := v.ports } ∧ PostsStay s v := by
        refine ⟨_, rfl, ?_⟩
        split
        · exact ⟨rfl, (removeEntry_portsAfter s h r).postsStay⟩
        · exact ⟨rfl, PostsStay.refl s⟩
      obtain ⟨v, is, whole, posts⟩ := cleared
      rw [← is] at eq
      have tme : (s.freeStepSlot c).tme = s.tme.setTimer h.slot.toNat none := by rw [eq, whole]; rfl
      have entries : (s.freeStepSlot c).alc.entries =
          if r.phase = .expired then s.alc.entries.filter fun e => !e.forTimer h else s.alc.entries := by rw [eq, whole]; rfl
      refine ⟨?_, ?_, by rw [tme]; rfl, fun m other => ?_, fun n => ?_, fun g u slot' found' => ?_, ?_⟩
      · rw [tme, entries, eq]
        rw [whole]
        rfl
      · rw [tme, gens_setTimer]
      · rw [tme, timer_setTimer, if_neg fun ⟨same, _⟩ => other h slot same]
      · rw [slot] at n; cases n
      · rw [slot] at slot'
        cases slot'
        rw [found] at found'
        cases found'
        refine ⟨?_, entries⟩
        rw [tme, timer_setTimer, if_pos ⟨rfl, timer_lt (lookup_timer found)⟩]
      · rw [eq]
        exact posts

theorem changeChannel_rest (s : State) (c : SeqChan) (v : Channel) :
    s.changeChannel c v = { s with squ := s.squ.set c v, ports := (s.changeChannel c v).ports } := rfl

/-- The ports that hear of a channel's change: those of the record after it. -/
theorem changeChannel_told {s : State} {c : SeqChan} {v : Channel} {q : Port}
    (heard : q = .supervisor ∨ v.control = some q ∨ q = (s.ptc.panel.get c.point).port) :
    ((s.changeChannel c v).ports.get q).posted.get .seqChanged = true := by
  have audience : (s.setSqu (s.squ.set c v)).seqAudience c q = true := by
    obtain sup | controls | owns := heard
    · simp [State.seqAudience, sup]
    · simp [State.seqAudience, controls]
    · simp [State.seqAudience, owns]
  simp [State.changeChannel, State.postTo_posted, audience]

/-! ## SEQ_STORE (R75, R77) -/

section
variable {s : State} {c : SeqChan} {f : StepField} {a : EndAction}

theorem stepsOfFields_one (some_ : f.duration ≠ 0) (masks : f.mask &&& c.maskBits = f.mask) (action : EndAction.ofCode f.action = some a) :
    stepsOfFields c [f] =
      some [{ duration := min f.duration 86399, mask := byteOf f.mask, cap := min f.cap 100, action := a }] := by
  have step : stepOfField c f =
      some { duration := min f.duration 86399, mask := byteOf f.mask, cap := min f.cap 100, action := a } := by
    unfold stepOfField
    rw [if_neg (by simp [some_, masks]), action]
    rfl
  unfold stepsOfFields
  rw [if_neg (by simp)]
  simp [step]

theorem takeSeqStore_taken (idle : (s.squ.get c).state ≠ .loading) (free : (s.squ.get c).engaged = false) {ts : List Step}
    (steps : stepsOfFields c [f] = some ts) : s.takeSeqStore .supervisor c.index [f] =
      ((s.freeStepSlot c).changeChannel c
        { (s.squ.get c).filled ts .stored with control := (s.squ.get c).controlFor .supervisor }).taken [] := by
  rw [State.takeSeqStore, onChannel_supervisor]
  dsimp only
  rw [if_neg idle, if_neg (by rw [free]; nofun), steps]

end

/-- Settles O35. -/
theorem seqStoreFillsAChannel : Obligations.SeqStoreFillsAChannel := by
  intro c f a s lines busy some_ masks action
  have passed := dispatch_supervisor (s := s) (code := 0x21) (s.takeSeqStore .supervisor c.index [f]) busy
  obtain ⟨t, ran, closed, replied⟩ := request_closed (i := .seqStore .supervisor c.index [f]) passed
  have refused : ∀ {e}, s.takeSeqStore .supervisor c.index [f] = s.refuse e → OnlyReplied .supervisor 0xA1 e [] s t := fun take => by
    obtain ⟨t', ran', only⟩ := request_onlyReplied (i := .seqStore .supervisor c.index [f]) lines (passed.trans take)
    cases ran.symm.trans ran'
    exact only
  refine ⟨t, ran, fun loading => refused ?_, fun engaged => refused ?_, fun rests => ?_⟩
  · rw [State.takeSeqStore, onChannel_supervisor]
    exact if_pos loading
  · have idle : (s.squ.get c).state ≠ .loading := by obtain h | h := engaged <;> rw [h] <;> nofun
    have held : (s.squ.get c).engaged = true := by obtain h | h := engaged <;> simp [Channel.engaged, h]
    rw [State.takeSeqStore, onChannel_supervisor]
    dsimp only
    rw [if_neg idle, if_pos held]
  · have idle : (s.squ.get c).state ≠ .loading := by obtain h | h | h | h := rests <;> rw [h] <;> nofun
    have free : (s.squ.get c).engaged = false := by obtain h | h | h | h := rests <;> simp [Channel.engaged, h]
    have taken := takeSeqStore_taken idle free (stepsOfFields_one some_ masks action)
    rw [taken] at closed replied
    change Closed _ s ((s.freeStepSlot c).changeChannel c _) t at closed
    have freed := freeStepSlot_freed s c
    generalize s.freeStepSlot c = w at *
    have rest := freed.rest
    have bare := freed.none
    generalize stored : ({ (s.squ.get c).filled _ .stored with control := (s.squ.get c).controlFor .supervisor } : Channel) = v at *
    have told := fun q => @changeChannel_told w c v q
    have eq := changeChannel_rest w c v
    generalize w.changeChannel c v = u at *
    have squ : t.squ = s.squ.set c v := by rw [closed.squ, eq, rest]
    have whole := closed.same (causePresent_of_stc (by rw [eq, rest])) (by rw [eq, rest])
    have panel : w.ptc.panel = s.ptc.panel := by rw [rest]
    refine ⟨replied, by rw [squ, ← stored]; rfl, by rw [closed.ptc, eq, rest], fun q heard => ?_, ?_, fun slot => ?_⟩
    · refine closed.keeps (c := .seqChanged) nofun (told q ?_)
      rw [State.seqAudience, Bool.or_eq_true, Bool.or_eq_true, decide_eq_true_iff, decide_eq_true_iff, decide_eq_true_iff] at heard
      obtain (sup | controls) | owns := heard
      · exact .inl sup
      · refine .inr (.inl ?_)
        rw [← stored]
        exact congrArg (fun o : Option Port => some (o.getD .supervisor)) controls
      · rw [panel]
        exact .inr (.inr owns)
    · have tme : t.tme = w.tme := by rw [whole, eq]
      have alc : t.alc = { s.alc with entries := w.alc.entries } := by rw [whole, eq]; exact congrArg State.alc rest
      rw [squ, tme, alc]
      rw [eq] at whole
      rw [rest] at whole
      exact whole
    · rw [squ]
      rw [eq, bare slot] at whole
      exact whole

/-! ## SEQ_ABORT (R85, R89) -/

/-- The channel record that an abort leaves. -/
def Channel.aborted (c : Channel) : Channel :=
  match c.state with
  | .empty | .ready => c
  | .loading => Channel.emptied
  | .active | .waitingAck | .done => c.readied
  | .failed => if c.steps.isEmpty then Channel.emptied else c.readied

/-- What an abort leaves of everything but its channel's slot. -/
structure AbortFrame (c : SeqChan) (v : Channel) (s t : State) : Prop where
  rest : t = { s with tme := t.tme, squ := s.squ.set c v, pmc := { s.pmc with jobs := t.pmc.jobs }, spl := t.spl
                      alc := { s.alc with entries := t.alc.entries }, ports := t.ports }
  planner : PlannerKept s t
  withdrawals : t.spl.withdrawals = s.spl.withdrawals

theorem abortSequence_rests {s : State} {c : SeqChan} (h : (s.squ.get c).state = .empty ∨ (s.squ.get c).state = .ready) :
    s.abortSequence c = s := by
  unfold State.abortSequence
  dsimp only
  obtain h | h := h <;> rw [h]

theorem abortSequence_frame (s : State) (c : SeqChan) : AbortFrame c (s.squ.get c).aborted s (s.abortSequence c) := by
  have freed := (freeStepSlot_freed s c).rest
  unfold Channel.aborted
  cases state : (s.squ.get c).state with
  | empty | ready =>
    have same : s.squ.set c (s.squ.get c) = s.squ := PerSeq.eq_of_get fun d => by
      rw [PerSeq.get_set]
      split
      · next e => rw [e]
      · rfl
    rw [abortSequence_rests (by rw [state]; simp)]
    refine ⟨?_, rfl, rfl⟩
    dsimp only
    rw [same]
  | loading | failed =>
    unfold State.abortSequence
    dsimp only
    rw [state]
    exact ⟨rfl, rfl, rfl⟩
  | active | waitingAck | done =>
    unfold State.abortSequence
    dsimp only
    rw [state]
    dsimp only
    generalize s.freeStepSlot c = w at *
    rw [freed]
    exact ⟨rfl, rfl, rfl⟩

/-- The jobs that an abort leaves. -/
theorem abortSequence_pmc (s : State) (c : SeqChan) : (s.abortSequence c).pmc.jobs =
    if (s.squ.get c).state = .loading then abortJobs c s.pmc.jobs else s.pmc.jobs := by
  have freed := (freeStepSlot_freed s c).rest
  unfold State.abortSequence
  dsimp only
  cases state : (s.squ.get c).state with
  | empty | ready | failed | loading => rfl
  | active | waitingAck | done =>
    dsimp only
    generalize s.freeStepSlot c = w at *
    rw [freed]
    rfl

/-- The Timer Table and the Alert List that an abort leaves. -/
theorem abortSequence_slot (s : State) (c : SeqChan) :
    let freed := (s.squ.get c).state = .active ∨ (s.squ.get c).state = .waitingAck ∨ (s.squ.get c).state = .done
    (freed → (s.abortSequence c).tme = (s.freeStepSlot c).tme ∧ (s.abortSequence c).alc = (s.freeStepSlot c).alc) ∧
      (¬ freed → (s.abortSequence c).tme = s.tme ∧ (s.abortSequence c).alc = s.alc) := by
  intro freed
  unfold State.abortSequence
  dsimp only
  cases state : (s.squ.get c).state with
  | empty | ready | failed | loading => exact ⟨fun h => by simp [freed, state] at h, fun _ => ⟨rfl, rfl⟩⟩
  | active | waitingAck | done => exact ⟨fun _ => ⟨rfl, rfl⟩, fun h => absurd (by simp [freed, state]) h⟩

/-- Settles O39. -/
theorem seqAbortEndsAProgram : Obligations.SeqAbortEndsAProgram := by
  intro c s lines busy
  have taken : s.onChannel .supervisor c.index (fun d => (s.abortSequence d).taken []) = (s.abortSequence c).taken [] :=
    onChannel_supervisor s c _
  have passed := dispatch_supervisor (s := s) (code := 0x25) ((s.abortSequence c).taken []) busy
  rw [← taken] at passed
  obtain ⟨t, ran, closed, replied⟩ := request_closed (i := .seqAbort .supervisor c.index) passed
  have only : s.abortSequence c = s → OnlyReplied .supervisor 0xA5 .ok [] s t := fun same => by
    obtain ⟨t', ran', only⟩ := request_onlyReplied (i := .seqAbort .supervisor c.index) (data := []) lines
      (passed.trans (taken.trans (by rw [same]; rfl)))
    cases ran.symm.trans ran'
    exact only
  rw [taken] at closed replied
  change Closed _ s (s.abortSequence c) t at closed
  have rests := @abortSequence_rests s c
  have jobs := abortSequence_pmc s c
  obtain ⟨moved, still⟩ := abortSequence_slot s c
  obtain ⟨rest, planner, withdrawals⟩ := abortSequence_frame s c
  have freed := freeStepSlot_freed s c
  generalize s.abortSequence c = u at *
  generalize s.freeStepSlot c = w at *
  have causes : ∀ d, u.causePresent d = s.causePresent d := causePresent_of_stc (by rw [rest])
  have alc := (closed.quiet causes).1
  have whole := closed.gated causes
  have squ : t.squ = s.squ.set c (s.squ.get c).aborted := by rw [closed.squ, rest]
  have free : (s.squ.get c).state ≠ .active → (s.squ.get c).state ≠ .waitingAck → (s.squ.get c).state ≠ .done →
      t.tme = s.tme ∧ t.alc = s.alc := fun a b d => by
    obtain ⟨tme', alc'⟩ := still (by simp [a, b, d])
    exact ⟨closed.tme.trans tme', alc.trans alc'⟩
  refine ⟨t, ran, replied, by rw [closed.ptc, rest], ?_, ?_, ?_, fun h => only (rests h), fun d other => ?_, fun loading => ?_,
    fun other => ?_, fun engaged => ?_, fun failed => ?_⟩
  · unfold PlannerKept at planner ⊢
    rw [closed.pass]
    dsimp only
    rw [planner]
  · rw [closed.pass]
    exact withdrawals
  · rw [closed.tme, closed.squ, closed.pmc, alc]
    rw [rest] at whole ⊢
    exact whole
  · rw [squ, PerSeq.get_set_ne _ _ other]
  · obtain ⟨tme', alc'⟩ := free (by rw [loading]; nofun) (by rw [loading]; nofun) (by rw [loading]; nofun)
    refine ⟨?_, tme', alc', ?_⟩
    · rw [squ, Channel.aborted, loading]
      rfl
    · rw [closed.pmc, jobs, if_pos loading]
      cases s.pmc.jobs <;> rfl
  · rw [closed.pmc, jobs, if_neg other]
  · obtain ⟨tme', alc'⟩ := moved engaged
    have tme : t.tme = w.tme := closed.tme.trans tme'
    have list : t.alc = w.alc := alc.trans alc'
    have kept : w.alc = { s.alc with entries := w.alc.entries } := congrArg State.alc freed.rest
    rw [tme, list]
    refine ⟨?_, freed.gens, freed.halt, kept, freed.others, fun n => by rw [freed.none n]; exact ⟨rfl, rfl⟩, freed.freed⟩
    rw [squ, Channel.aborted]
    obtain h | h | h := engaged <;> rw [h] <;> rfl
  · obtain ⟨tme', alc'⟩ := free (by rw [failed]; nofun) (by rw [failed]; nofun) (by rw [failed]; nofun)
    refine ⟨tme', alc', ?_⟩
    rw [squ, Channel.aborted, failed]
    simp only [List.isEmpty_iff]
    rfl

end Sys2Proof.Machine

/-! # Jobs that join the queue, and programs that start (R72, R76, R78 to R80, R88, R89, R91) -/

namespace Sys2Proof.Machine

/-! ## A job that joins the queue (R88, R89) -/

/-- What the Program Memory Controller makes of a new job. -/
structure JobJoins (j : Job) (s t : State) : Prop where
  jobs : t.pmc.jobs = s.pmc.jobs ++ [j]
  first : s.pmc.jobs = [] → (t.pmc.bus = .transfer ∨ t.pmc.bus = .waitFree) ∧ t.pmc.progress.transfer = j.firstTransfer ∧
    t.pmc.progress.attempts = 0 ∧ t.pmc.progress.bytes = [] ∧ t.pmc.progress.device = s.pmc.device ∧
    t.pmc.progress.base = s.pmc.base
  later : s.pmc.jobs ≠ [] → t.pmc = { s.pmc with jobs := t.pmc.jobs } ∧ t.free = s.free

theorem queueJob_joins (s : State) (j : Job) : JobJoins j s (s.queueJob j) ∧
    s.queueJob j = { s with pmc := (s.queueJob j).pmc, free := (s.queueJob j).free } := by
  unfold State.queueJob
  cases jobs : s.pmc.jobs with
  | nil =>
    refine ⟨⟨?_, fun _ => ?_, fun n => absurd jobs n⟩, rfl⟩
    · rw [jobs]; rfl
    · refine ⟨?_, rfl, rfl, rfl, rfl, rfl⟩
      by_cases high : Config.busLinesHigh s.free = true
      · exact .inl (if_pos high : (if _ then BusState.transfer else .waitFree) = _)
      · exact .inr (if_neg high : (if _ then BusState.transfer else .waitFree) = _)
  | cons k ks =>
    refine ⟨⟨?_, fun n => ?_, fun _ => ⟨rfl, rfl⟩⟩, rfl⟩
    · rw [jobs]; rfl
    · rw [jobs] at n; cases n

section
variable {s : State} {c : SeqChan} {i : Nat}

theorem takeSeqLoad_taken (idle : s.pmc.busy (.channel c) = false) (load : (s.squ.get c).state ≠ .loading)
    (free : (s.squ.get c).engaged = false) (low : i ≤ 31) : s.takeSeqLoad .supervisor c.index i =
      (((s.freeStepSlot c).changeChannel c ((s.squ.get c).loading .supervisor)).queueJob
        { kind := .read .supervisor, index := i, requester := .channel c, discard := false }).accepted := by
  rw [State.takeSeqLoad, onChannel_supervisor]
  simp [State.checked, firstFailure, idle, load, free, Nat.not_lt.2 low]

theorem takeLibWrite_checked {fs : List StepField} {ts : List Step} (steps : stepsOfFields c fs = some ts)
    (op : s.stc.op = .config ∨ s.stc.op = .run) (low : i ≤ 31) :
    s.takeLibWrite i (if c = .ov then 8 else 9) fs = if s.pmc.busy .supervisor = true then s.refuse .busy else
      (s.queueJob { kind := .write (programRecord c ts), index := i, requester := .supervisor, discard := false }).accepted := by
  have kind : SeqChan.ofKind (if c = .ov then 8 else 9) = some c := by cases c <;> rfl
  have open_ : ¬ (s.stc.op = .hold ∨ s.stc.op = .lockout) := by obtain h | h := op <;> rw [h] <;> simp
  unfold State.takeLibWrite
  rw [if_neg open_, kind]
  dsimp only
  rw [steps]
  cases s.pmc.busy .supervisor <;> simp [State.checked, firstFailure, Nat.not_lt.2 low]

end

/-- Settles O36. -/
theorem jobsJoinTheQueue : Obligations.JobsJoinTheQueue := by
  intro c i s lines busy low joins
  refine ⟨fun idle loading active waiting bare => ?_, fun fs ts steps op => ?_⟩
  · have free : (s.squ.get c).engaged = false := by simp [Channel.engaged, active, waiting]
    have taken := takeSeqLoad_taken idle loading free low
    rw [(freeStepSlot_freed s c).none bare] at taken
    obtain ⟨t, ran, closed, replied⟩ := request_closed (i := .seqLoad .supervisor c.index i)
      (dispatch_supervisor (code := 0x20) (s.takeSeqLoad .supervisor c.index i) busy)
    rw [taken] at closed replied
    change Closed _ s ((s.changeChannel c _).queueJob _) t at closed
    have eq := changeChannel_rest s c ((s.squ.get c).loading .supervisor)
    generalize s.changeChannel c ((s.squ.get c).loading .supervisor) = v at *
    obtain ⟨⟨jobs, first, later⟩, rest⟩ :=
      queueJob_joins v { kind := .read .supervisor, index := i, requester := .channel c, discard := false }
    generalize v.queueJob _ = u at *
    have pmc : v.pmc = s.pmc := by rw [eq]
    have freed : v.free = s.free := by rw [eq]
    rw [pmc] at jobs first later
    rw [freed] at later
    rw [eq] at rest
    have whole := closed.same (causePresent_of_stc (by rw [rest])) (by rw [rest])
    have squ : t.squ = s.squ.set c ((s.squ.get c).loading .supervisor) := by rw [closed.squ, rest]
    have joined : joins { kind := .read .supervisor, index := i, requester := .channel c, discard := false } t := by
      change t.pmc.jobs = _ ∧ _
      rw [closed.pmc, closed.free]
      exact ⟨jobs, first, later⟩
    refine ⟨t, ran, replied, squ, joined, ?_⟩
    rw [squ, closed.pmc, closed.free]
    rw [rest] at whole ⊢
    exact whole
  · have open_ : s.stc.op ≠ .selftest := busy
    have passed := dispatch_supervisor (s := s) (code := 0x27) (s.takeLibWrite i (if c = .ov then 8 else 9) fs) busy
    have taken := takeLibWrite_checked (c := c) (i := i) steps op low
    by_cases held : s.pmc.busy .supervisor = true
    · obtain ⟨t, ran, only⟩ := request_onlyReplied (i := .libWrite .supervisor i (if c = .ov then 8 else 9) fs) lines
        (passed.trans (taken.trans (if_pos held)))
      exact ⟨t, ran, fun _ => only, fun n => by rw [held] at n; cases n⟩
    · rw [if_neg held] at taken
      obtain ⟨⟨jobs, first, later⟩, rest⟩ :=
        queueJob_joins s { kind := .write (programRecord c ts), index := i, requester := .supervisor, discard := false }
      generalize s.queueJob _ = u at *
      obtain ⟨t, ran, whole, posts, replied⟩ := request_stored (i := .libWrite .supervisor i (if c = .ov then 8 else 9) fs) lines
        passed taken (by rw [rest]) (by rw [rest]) (by rw [rest]) (by rw [rest]) (by rw [rest])
      have pmc : t.pmc = u.pmc := by rw [whole]
      have freed : t.free = u.free := by rw [whole]
      refine ⟨t, ran, fun n => absurd n held, fun _ => ⟨replied, ?_, posts, ?_⟩⟩
      · change t.pmc.jobs = _ ∧ _
        rw [pmc, freed]
        exact ⟨jobs, first, later⟩
      · rw [pmc, freed]
        rw [rest] at whole ⊢
        exact whole

/-! ## SEQ_START (R72, R76, R80) -/

/-- The record of a STEP slot that starts at once. -/
def stepSlot (c : SeqChan) (duration : Nat) (halt : Bool) : Timer :=
  { kind := .step, point := some c.point, owner := .channel c, phase := .started, duration := duration, remaining := duration
    start := .immediate, probe := none, follower := none, pause := { user := false, halt := halt }, level := 2
    endCause := none, tickDue := false, tempMark := false, probeMark := false }

theorem newTimer_step (c : SeqChan) (duration : Nat) (halt : Bool) :
    newTimer .step (some c.point) (.channel c) duration .immediate none 2 halt = stepSlot c duration halt := rfl

/-- A channel that starts its program in the slot that a handle names. -/
def Channel.starts (c : Channel) (h : Handle) : Channel :=
  { c with state := .active, current := some 1, slot := some h, control := c.controlFor .supervisor }

theorem takeSeqStart_taken {s : State} {c : SeqChan} {first : Step} {rest : List Step} (op : s.stc.op = .run ∨ s.stc.op = .hold)
    (ready : (s.squ.get c).state = .ready) (steps : (s.squ.get c).steps = first :: rest) (alone : s.tme.hasKind c.point .cookEnd = false)
    {n : Nat} (free : s.tme.firstFree = some n) :
    s.takeSeqStart .supervisor c.index .immediate = s.startSequence .supervisor c first .immediate := by
  have open_ : s.stc.op ≠ .config ∧ s.stc.op ≠ .lockout := by obtain h | h := op <;> rw [h] <;> exact ⟨nofun, nofun⟩
  rw [State.takeSeqStart, onChannel_supervisor]
  simp [firstFailure, open_, ready, steps, alone, free, Tme.pointTimed, seqStartAllowed, startIsAtTime]

/-- The restrictions that a channel at its first step presents. -/
theorem restriction_active {ch : Channel} {k : Nat} {cur : Step} (active : ch.state = .active) (current : ch.current = some (k + 1))
    (step : ch.steps[k]? = some cur) (l : Load) : ch.restriction l = if cur.has l then .capped cur.cap else .held := by
  have here : ch.step = some cur := by
    unfold Channel.step
    rw [current]
    exact step
  unfold Channel.restriction
  rw [active, here]

theorem restriction_of_channel {s : State} {c : SeqChan} {l : Load} (point : l.point = c.point) :
    s.restriction l = (s.squ.get c).restriction l := by
  have channel : l.point.channel = some c := by rw [point]; cases c <;> rfl
  rw [State.restriction, channel]

/-- Settles O37. -/
theorem seqStartRunsAProgram : Obligations.SeqStartRunsAProgram := by
  intro c first rest n g s op ready steps alone free slot
  have busy : s.stc.op ≠ .selftest := by obtain h | h := op <;> rw [h] <;> nofun
  have taken := takeSeqStart_taken op ready steps alone free
  unfold State.startSequence at taken
  rw [free] at taken
  change s.takeSeqStart .supervisor c.index .immediate = _ at taken
  dsimp only [Option.getD_some, startOf] at taken
  rw [newTimer_step, takeSlot_slots slot] at taken
  obtain ⟨low, -⟩ := List.getElem?_eq_some_iff.1 slot
  obtain ⟨e, table⟩ : ∃ e : Tme, e =
      { s.tme with slots := s.tme.slots.set n { gen := g + 1, timer := some (stepSlot c first.duration s.tme.halt) } } := ⟨_, rfl⟩
  rw [← table] at taken
  have handle : e.handle n = { slot := byteOf n, gen := g + 1 } := by
    rw [table, Tme.handle]
    simp [low]
  rw [State.setTme_tme, handle] at taken
  obtain ⟨t, ran, closed, replied⟩ := request_closed (i := .seqStart .supervisor c.index .immediate)
    (dispatch_supervisor (code := 0x22) (s.takeSeqStart .supervisor c.index .immediate) busy)
  rw [taken] at closed replied
  change Closed _ s (((s.setTme e).changeChannel c ((s.squ.get c).starts { slot := byteOf n, gen := g + 1 })).startPass) t at closed
  generalize active : (s.squ.get c).starts { slot := byteOf n, gen := g + 1 } = ch at *
  have eq := changeChannel_rest (s.setTme e) c ch
  generalize (s.setTme e).changeChannel c ch = v at *
  have spl : v.spl = s.spl := by rw [eq]; rfl
  have squ : t.squ = s.squ.set c ch := by rw [closed.squ]; change v.squ = _; rw [eq]; rfl
  have tme : t.tme = e := by rw [closed.tme]; change v.tme = _; rw [eq]; rfl
  have pass := closed.passed (by rw [spl])
  rw [spl] at pass
  have whole := closed.gated (causePresent_of_stc (by change v.stc = _; rw [eq]; rfl))
  refine ⟨t, ran, replied, ⟨_, by rw [tme, table], rfl, rfl, rfl, rfl, rfl, rfl, rfl, rfl⟩, by rw [squ, ← active]; rfl, ⟨_, pass, fun l point => ?_⟩, ?_⟩
  · have channel : v.squ.get c = ch := by rw [eq]; exact PerSeq.get_set_self ..
    have restriction : ch.restriction l = if first.has l then .capped first.cap else .held :=
      restriction_active (k := 0) (by rw [← active]; rfl) (by rw [← active]; rfl)
        (by rw [← active]; change (s.squ.get c).steps[0]? = _; rw [steps]; rfl) l
    have input : (v.snapshot (s.spl.serial + 1)).loads.get l = v.loadInput l := PerLoad.get_of ..
    rw [input]
    change v.restriction l = _
    rw [restriction_of_channel point, channel, restriction]
  · rw [tme, squ]
    have same : v.startPass = { s with tme := e, squ := s.squ.set c ch, spl := v.startPass.spl, ports := v.ports } := by
      change ({ v with spl := v.startPass.spl } : State) = _
      rw [eq]
      rfl
    rw [same] at whole
    exact whole

end Sys2Proof.Machine

/-! # Steps that follow one another (R56, R81 to R83) -/

namespace Sys2Proof.Machine

/-! ## A command that ends in a pass -/

/-- What a command leaves whose effect changes timers, channels and entries from `s` to `v`, perhaps moves a gate from `v` to `w`,
and starts a pass. -/
structure Replanned (s v w t : State) : Prop where
  building : ∃ b, t.spl.pending = .building b
  planner : PlannerKept s t
  demand : DemandKept s t
  drive : DriveKept s t
  tme : t.tme = v.tme
  squ : t.squ = v.squ
  alc : t.alc = v.alc
  ptc : t.ptc = w.ptc
  rest : t = { s with tme := t.tme, squ := t.squ, ptc := t.ptc, spl := t.spl, dru := t.dru, alc := t.alc, ports := t.ports
                      pins := t.pins }

theorem Closed.replanned {who : Option Port} {s v w t : State} (closed : Closed who s w.startPass t) (gate : GateFrame v w)
    (before : v = { s with tme := v.tme, squ := v.squ, alc := v.alc, ports := v.ports }) : Replanned s v w t := by
  obtain ⟨ptc, planner, drive, rest⟩ := gate
  unfold PlannerKept at planner
  have whole := closed.gated (causePresent_of_stc (by change w.stc = s.stc; rw [rest, before]))
  have alc : t.alc = v.alc := by rw [whole]; change w.alc = _; rw [rest]
  have tme : t.tme = v.tme := by rw [closed.tme]; change w.tme = _; rw [rest]
  have squ : t.squ = v.squ := by rw [closed.squ]; change w.squ = _; rw [rest]
  have points : t.ptc = w.ptc := closed.ptc
  have dru : t.dru = w.dru := closed.dru
  have spl : v.spl = s.spl := by rw [before]
  have vdru : v.dru = s.dru := by rw [before]
  have vptc : v.ptc = s.ptc := by rw [before]
  refine ⟨closed.building (startPass_building w), ?_, ?_, ?_, tme, squ, alc, points, ?_⟩
  · unfold PlannerKept
    rw [closed.pass]
    have pass : w.startPass.spl = { w.spl with serial := w.startPass.spl.serial, pending := w.startPass.spl.pending } := rfl
    rw [pass, planner, spl]
  · unfold DemandKept
    rw [points, ptc, vptc]
  · unfold DriveKept
    rw [dru, drive, vdru]
  · rw [tme, squ, alc, points, dru]
    have eq : w.startPass = { w with spl := w.startPass.spl } := rfl
    rw [eq] at whole
    rw [rest, before] at whole
    rw [before]
    exact whole

/-! ## The expiry of a STEP slot -/

/-- The record of a STEP slot set running for a step's time. -/
def Timer.restepped (r : Timer) (next : Step) (halt : Bool) : Timer := { r.reloaded next.duration halt with duration := next.duration }

section
variable {s : State} {n k : Nat} {r : Timer} {c : SeqChan} {cur : Step} (active : (s.squ.get c).state = .active)
  (current : (s.squ.get c).current = some (k + 1)) (step : (s.squ.get c).steps[k]? = some cur)
include active current step

theorem expireStep_next {next : Step} (more : (s.squ.get c).steps[k + 1]? = some next) (action : cur.action = .next) :
    s.expireStep n r c = (s.queueNotice .step).reloadStep n r c (k + 1) next := by
  have here : (s.squ.get c).step = some cur := by rw [Channel.step, current]; exact step
  unfold State.expireStep
  dsimp only
  rw [active, current]
  dsimp only
  rw [here, more]
  dsimp only
  rw [action]

theorem expireStep_ack {next : Step} (more : (s.squ.get c).steps[k + 1]? = some next) (action : cur.action = .pauseForAck) :
    s.expireStep n r c =
      ((s.restExpired n r .time).changeChannel c { s.squ.get c with state := .waitingAck }).startPass := by
  have here : (s.squ.get c).step = some cur := by rw [Channel.step, current]; exact step
  unfold State.expireStep
  dsimp only
  rw [active, current]
  dsimp only
  rw [here, more]
  dsimp only
  rw [action]

theorem expireStep_last (last : (s.squ.get c).steps[k + 1]? = none) : s.expireStep n r c =
    (((s.restExpired n r .time).changeChannel c { s.squ.get c with state := .done }).addReason c.point .timerOff).startPass := by
  have here : (s.squ.get c).step = some cur := by rw [Channel.step, current]; exact step
  unfold State.expireStep
  dsimp only
  rw [active, current]
  dsimp only
  rw [here, last]

end

/-- Settles O38. -/
theorem stepsFollowOneAnother : Obligations.StepsFollowOneAnother := by
  intro c k n r cur s slot timer running last kind owner active current step busy entry
  obtain ⟨t, ran, closed⟩ := event_closed (i := .timerExpiry) rfl nofun s
  have effect : s.effect .timerExpiry = s.expireStep n r c := by
    change s.tickExpiry = _
    unfold State.tickExpiry
    rw [found_some slot timer]
    dsimp only
    rw [running, last]
    change s.expire n r .time = _
    unfold State.expire
    rw [kind, owner]
  rw [effect] at closed
  refine ⟨t, ran, ?_⟩
  obtain final | ⟨next, more⟩ := Option.eq_none_or_eq_some (s.squ.get c).steps[k + 1]?
  · rw [expireStep_last active current step final] at closed
    obtain ⟨building, planner, demand, drive, tme, squ, alc, ptc, rest⟩ :=
      closed.replanned (State.changeReasons_gateFrame _ c.point _) rfl
    refine ⟨building, planner, demand, drive, rest, fun next more => ?_, fun next more => ?_, fun _ => ⟨⟨_, tme, rfl, rfl⟩, squ, ?_, alc⟩⟩
    · rw [final] at more; cases more
    · rw [final] at more; cases more
    · rw [ptc, State.addReason, changeReasons_ptc, PerPoint.get_set_self]
      exact PerReason.get_set_self _ .timerOff true
  · cases action : cur.action with
    | next =>
      rw [expireStep_next active current step more action] at closed
      have queued := queueNotice_eq s .step
      have closed' : Closed none s (((s.queueNotice .step).setTimer n
          (some (r.restepped next s.tme.halt))).changeChannel c { s.squ.get c with state := .active, current := some (k + 2) }).startPass t := by
        rw [queued] at closed ⊢
        exact closed
      rw [queued] at closed'
      obtain ⟨building, planner, demand, drive, tme, squ, alc, ptc, rest⟩ := closed'.replanned (.refl _) rfl
      refine ⟨building, planner, demand, drive, rest, fun next' more' _ => ?_, fun _ _ h => ?_, fun final => ?_⟩
      · rw [more] at more'
        cases more'
        exact ⟨⟨_, tme, rfl, rfl, rfl, rfl⟩, squ, ptc, alc⟩
      · cases h
      · rw [more] at final; cases final
    | pauseForAck =>
      rw [expireStep_ack active current step more action] at closed
      obtain ⟨building, planner, demand, drive, tme, squ, alc, ptc, rest⟩ := closed.replanned (.refl _) rfl
      refine ⟨building, planner, demand, drive, rest, fun _ _ h => ?_, fun _ _ _ => ⟨⟨_, tme, rfl, rfl⟩, squ, ptc, alc⟩, fun final => ?_⟩
      · cases h
      · rw [more] at final; cases final

end Sys2Proof.Machine

/-! # Acknowledgement and silencing (R65, R82, R83, R159, R162) -/

namespace Sys2Proof.Machine

/-! ## The first entry that meets a condition -/

theorem first_at {a : Alc} {f : Alert → Bool} {before after : List Alert} {e : Alert} (entries : a.entries = before ++ e :: after)
    (others : ∀ y ∈ before, f y = false) (meets : f e = true) : a.first f = some (before.length, e) := by
  have skipped : before.findIdx? f = none := List.findIdx?_eq_none_iff.2 others
  have place : a.entries.findIdx? f = some before.length := by
    rw [entries, List.findIdx?_append, skipped]
    simp [List.findIdx?_cons, meets]
  rw [Alc.first, place, entries]
  simp

theorem first_none {a : Alc} {f : Alert → Bool} (others : ∀ y ∈ a.entries, f y = false) : a.first f = none := by
  rw [Alc.first, List.findIdx?_eq_none_iff.2 others]
  rfl

theorem first_exists {a : Alc} {f : Alert → Bool} {e : Alert} (listed : e ∈ a.entries) (meets : f e = true) :
    ∃ n y, a.first f = some (n, y) ∧ f y = true := by
  cases found : a.entries.findIdx? f with
  | none =>
    rw [List.findIdx?_eq_none_iff.1 found e listed] at meets
    cases meets
  | some n =>
    obtain ⟨low, holds, -⟩ := List.findIdx?_eq_some_iff_getElem.1 found
    refine ⟨n, a.entries[n], ?_, holds⟩
    rw [Alc.first, found, Option.bind_some, List.getElem?_eq_getElem low]
    rfl

theorem set_entry (before after : List Alert) (e v : Alert) :
    (before ++ e :: after).set before.length v = before ++ v :: after := by
  simp

theorem storeAlerts_portsAfter (s : State) (es : List Alert) (who : Port → Bool) :
    PortsAfter none (toPorts .alertChanged who) s (s.storeAlerts es who) :=
  (postTo_portsAfter (s.setAlc { s.alc with entries := es }) .alertChanged who).congr rfl rfl fun _ _ => rfl

/-! ## A timer's entry acknowledged (R65) -/

theorem forTimer_source {e : Alert} {h : Handle} (names : e.forTimer h = true) : e.source = .timer h := by
  unfold Alert.forTimer at names
  split at names
  · next g source => rw [source, of_decide_eq_true names]
  · cases names

section
variable {s : State} {h : Handle} {r : Timer} (found : s.tme.lookup h = .ok r)
include found

theorem takeAlertAck_timer {e : Alert} (listed : e ∈ s.alc.entries) (names : e.forTimer h = true) :
    s.takeAlertAck (.timer h) = ((s.removeEntry h r).acknowledgeSlot h.slot.toNat r).taken [0, h.slot, h.gen, 0] := by
  obtain ⟨n, y, first, names'⟩ := first_exists (f := fun e => e.forTimer h) listed names
  rw [State.takeAlertAck, found]
  dsimp only
  rw [State.ackFirst, first]
  dsimp only
  rw [State.ackEntry, forTimer_source names']
  dsimp only
  rw [State.ackTimer, found]
  rfl

theorem takeAlertAck_unlisted (unlisted : ∀ e ∈ s.alc.entries, e.forTimer h = false) :
    s.takeAlertAck (.timer h) = s.refuse .refusedState := by
  rw [State.takeAlertAck, found]
  dsimp only
  rw [State.ackFirst, first_none unlisted]

end

theorem acknowledgeSlot_other (s : State) (n : Nat) {r : Timer} (kind : r.kind ≠ .step) : s.acknowledgeSlot n r = s.freeSlot n := by
  unfold State.acknowledgeSlot
  split
  · next k _ => exact absurd k kind
  · next k _ => exact absurd k kind
  · rfl

section
variable {s : State} {n : Nat} {r : Timer} {c : SeqChan} (kind : r.kind = .step) (owner : r.owner = .channel c)
include kind owner

theorem acknowledgeSlot_waiting {k : Nat} {next : Step} (waiting : (s.squ.get c).state = .waitingAck)
    (current : (s.squ.get c).current = some k) (more : (s.squ.get c).steps[k]? = some next) :
    s.acknowledgeSlot n r = s.reloadStep n r c k next := by
  unfold State.acknowledgeSlot
  rw [kind, owner]
  dsimp only
  rw [waiting, current]
  dsimp only
  rw [more]

theorem acknowledgeSlot_done (done : (s.squ.get c).state = .done) :
    s.acknowledgeSlot n r = (s.freeSlot n).changeChannel c { s.squ.get c with slot := none } := by
  unfold State.acknowledgeSlot
  rw [kind, owner]
  dsimp only
  rw [done]

end

theorem acknowledgeSlot_rest (s : State) (n : Nat) (r : Timer) : s.acknowledgeSlot n r = { s with
    tme := (s.acknowledgeSlot n r).tme, squ := (s.acknowledgeSlot n r).squ, spl := (s.acknowledgeSlot n r).spl
    ports := (s.acknowledgeSlot n r).ports } := by
  unfold State.acknowledgeSlot
  split
  · dsimp only
    split
    · split <;> rfl
    · rfl
    · rfl
  · rfl
  · rfl

/-! ## Any entry acknowledged (R162) -/

theorem forCause_code (x : SystemCause) : SystemCause.ofCode x.code = some x := by cases x <;> rfl

theorem forCause_system {e : Alert} {x : SystemCause} {present : Bool} (source : e.source = .system x present) : e.forCause x = true := by
  simp [Alert.forCause, source]

/-- An entry of a cause that is present. -/
theorem ackEntry_present {s : State} {n : Nat} {e : Alert} {x : SystemCause} (source : e.source = .system x true) :
    s.ackEntry n e = if e.sounding then (s.silenceAt n e).taken [1, byteOf x.code, 0, 1] else s.taken [1, byteOf x.code, 0, 2] := by
  unfold State.ackEntry
  rw [source]
  cases sounding : e.sounding with
  | true =>
    have eq : s.ackSystem x true n e = (s.silenceAt n e, .silenced) := by simp [State.ackSystem, sounding]
    dsimp only
    rw [eq]
    rfl
  | false =>
    have eq : s.ackSystem x true n e = (s, .unchanged) := by simp [State.ackSystem, sounding]
    dsimp only
    rw [eq]
    rfl

/-- An entry of a cause that has cleared. -/
theorem ackEntry_cleared {s : State} {n : Nat} {e : Alert} {x : SystemCause} (source : e.source = .system x false) :
    s.ackEntry n e = (s.storeAlerts (s.alc.entries.filter fun y => !y.forCause x) fun _ => true).taken [1, byteOf x.code, 0, 0] := by
  unfold State.ackEntry
  rw [source]
  rfl

/-- A system entry at a place silenced. -/
theorem silenceAt_system {s : State} {before after : List Alert} {e : Alert} {x : SystemCause} {present : Bool}
    (entries : s.alc.entries = before ++ e :: after) (source : e.source = .system x present) :
    s.silenceAt before.length e = s.storeAlerts (before ++ { e with sounding := false } :: after) fun _ => true := by
  have audience : s.entryAudience e = fun _ => true := by
    funext q
    unfold State.entryAudience
    rw [source]
  rw [State.silenceAt, audience, entries, set_entry]
  rfl

theorem filter_cause {before after : List Alert} {e : Alert} {x : SystemCause} (first : ∀ y ∈ before, y.forCause x = false)
    (names : e.forCause x = true) (rest : ∀ y ∈ after, y.forCause x = false) :
    (before ++ e :: after).filter (fun y => !y.forCause x) = before ++ after := by
  have keep : ∀ l : List Alert, (∀ y ∈ l, y.forCause x = false) → l.filter (fun y => !y.forCause x) = l := fun l h =>
    List.filter_eq_self.2 fun y m => by rw [h y m]; rfl
  rw [List.filter_append, List.filter_cons_of_neg (by rw [names]; nofun), keep before first, keep after rest]

/-- A request that changes the entries alone. -/
theorem request_entries {s : State} {i : Instr} {code : Byte} {p : Port} {take : Taken} {es : List Alert} {data : List Byte}
    (passed : s.dispatch code p take = take) (took : take = (s.storeAlerts es fun _ => true).taken data) :
    ∃ t, request i code p s take = .next t ∧
      t = { s with alc := { s.alc with entries := es }, ports := t.ports, pins := t.pins } ∧
      PortsAfter (some p) (toAll .alertChanged) s t ∧ t.Replied p (replyCode code) .ok data := by
  obtain ⟨t, ran, whole, -, posts, replied⟩ := request_taken (i := i) passed took (causePresent_of_stc rfl) rfl
    (storeAlerts_portsAfter s es fun _ => true)
  exact ⟨t, ran, whole, posts.congr rfl rfl fun _ _ => by simp [toAll, toPorts], replied⟩

/-- Settles O50. -/
theorem alertsAreAcknowledged : Obligations.AlertsAreAcknowledged := by
  intro s
  refine ⟨fun p h r lines busy found kind => ?timer, fun p h r c busy found kind owner listed => ?step,
    fun p busy => ⟨fun silent lines => ?none, fun e before after entries quiet sounding => ?oldest⟩,
    fun p x e present before after busy entries first source rest => ?cause,
    fun e before after entries young timer sounding old => ?silence⟩
  case timer =>
    have passed := dispatch_any (code := 0x3D) busy rfl p (s.takeAlertAck (.timer h))
    by_cases listed : ∃ e ∈ s.alc.entries, e.forTimer h = true
    · obtain ⟨e, member, names⟩ := listed
      have taken := takeAlertAck_timer found member names
      rw [acknowledgeSlot_other _ _ kind] at taken
      obtain ⟨t, ran, whole, -, posts, replied⟩ := request_taken (i := .alertAck p (.timer h)) passed taken (causePresent_of_stc rfl) rfl
        ((removeEntry_portsAfter s h r).congr rfl rfl fun _ _ => rfl)
      refine ⟨t, ran, fun none => ?_, fun _ => ⟨whole, posts, replied⟩⟩
      rw [none e member] at names
      cases names
    · have unlisted : ∀ e ∈ s.alc.entries, e.forTimer h = false := fun e member => by
        by_contra names
        exact listed ⟨e, member, by simpa using names⟩
      obtain ⟨t, ran, only⟩ := request_onlyReplied (i := .alertAck p (.timer h)) lines
        (passed.trans (takeAlertAck_unlisted found unlisted))
      exact ⟨t, ran, fun _ => only, fun some => absurd some listed⟩
  case step =>
    obtain ⟨e, member, names⟩ := listed
    have taken := takeAlertAck_timer found member names
    obtain ⟨t, ran, closed, replied⟩ := request_closed (i := .alertAck p (.timer h))
      (dispatch_any (code := 0x3D) busy rfl p (s.takeAlertAck (.timer h)))
    rw [taken] at closed replied
    change Closed _ s ((s.removeEntry h r).acknowledgeSlot h.slot.toNat r) t at closed
    have rest := acknowledgeSlot_rest (s.removeEntry h r) h.slot.toNat r
    have alc : t.alc = { s.alc with entries := s.alc.entries.filter fun e => !e.forTimer h } := by
      rw [(closed.quiet (causePresent_of_stc (by rw [rest]; rfl))).1, rest]
      rfl
    refine ⟨t, ran, replied, alc, fun k next waiting current more => ?_, fun done => ?_⟩
    · rw [acknowledgeSlot_waiting (s := s.removeEntry h r) kind owner waiting current more] at closed
      change Closed _ s (((((s.removeEntry h r).setTimer h.slot.toNat (some (r.restepped next s.tme.halt))).changeChannel c
        { s.squ.get c with state := .active, current := some (k + 1) })).startPass) t at closed
      obtain ⟨-, -, -, -, tme, squ, -, ptc, rest⟩ := closed.replanned (.refl _) rfl
      have pass := closed.passed rfl
      have dru : t.dru = s.dru := closed.dru
      refine ⟨squ, ⟨_, tme, rfl, rfl, rfl, rfl, rfl⟩, ⟨_, pass⟩, ?_⟩
      change t.ptc = s.ptc at ptc
      rw [ptc, dru] at rest
      exact rest
    · rw [acknowledgeSlot_done (s := s.removeEntry h r) kind owner done] at closed
      rw [alc]
      exact closed.same (causePresent_of_stc rfl) rfl
  case none =>
    refine request_onlyReplied (i := .alertAck p .oldest) lines ((dispatch_any (code := 0x3D) busy rfl p (s.takeAlertAck .oldest)).trans ?_)
    change s.ackFirst Alert.sounding = _
    rw [State.ackFirst, first_none silent]
    rfl
  case oldest =>
    have taken : s.takeAlertAck .oldest = s.ackEntry before.length e := by
      change s.ackFirst Alert.sounding = _
      rw [State.ackFirst, first_at entries quiet sounding]
    have passed := dispatch_any (code := 0x3D) busy rfl p (s.takeAlertAck .oldest)
    obtain ⟨t, ran, -⟩ := request_closed (i := .alertAck p .oldest) passed
    refine ⟨t, ran, fun x source => ?_, fun h r source found kind => ?_⟩
    · rw [ackEntry_present source, if_pos sounding, silenceAt_system entries source] at taken
      obtain ⟨t', ran', whole, -, replied⟩ := request_entries (i := .alertAck p .oldest) passed taken
      cases ran.symm.trans ran'
      exact ⟨whole, replied⟩
    · have acked : s.ackEntry before.length e = ((s.removeEntry h r).freeSlot h.slot.toNat).taken [0, h.slot, h.gen, 0] := by
        unfold State.ackEntry
        rw [source]
        dsimp only
        rw [State.ackTimer, found]
        dsimp only
        rw [acknowledgeSlot_other _ _ kind]
        rfl
      rw [acked] at taken
      obtain ⟨t', ran', whole, -, -, replied⟩ := request_taken (i := .alertAck p .oldest) passed taken
        (causePresent_of_stc rfl) rfl ((removeEntry_portsAfter s h r).congr rfl rfl fun _ _ => rfl)
      cases ran.symm.trans ran'
      exact ⟨whole, replied⟩
  case cause =>
    have taken : s.takeAlertAck (.cause x.code) = s.ackEntry before.length e := by
      unfold State.takeAlertAck
      dsimp only
      rw [forCause_code]
      dsimp only
      rw [State.ackFirst, first_at entries first (forCause_system source)]
    have passed := dispatch_any (code := 0x3D) busy rfl p (s.takeAlertAck (.cause x.code))
    cases present with
    | true =>
      rw [ackEntry_present source] at taken
      cases sounding : e.sounding with
      | true =>
        rw [if_pos sounding, silenceAt_system entries source] at taken
        obtain ⟨t, ran, whole, posts, replied⟩ := request_entries (i := .alertAck p (.cause x.code)) passed taken
        have list : t.alc.entries = before ++ { e with sounding := false } :: after := by rw [whole]
        refine ⟨t, ran, ?_, fun _ _ => ⟨list, posts, replied⟩, fun _ => nofun, nofun⟩
        rw [list]
        exact whole
      | false =>
        rw [if_neg (by rw [sounding]; nofun)] at taken
        obtain ⟨t, ran, whole, -, posts, replied⟩ := request_taken (i := .alertAck p (.cause x.code)) passed taken (fun _ => rfl) rfl
          (PortsAfter.refl none s)
        have list : t.alc = s.alc := by rw [whole]
        refine ⟨t, ran, ?_, fun _ => nofun, fun _ _ => ⟨by rw [list], posts, replied⟩, nofun⟩
        rw [list]
        exact whole
    | false =>
      rw [ackEntry_cleared source, entries, filter_cause first (forCause_system source) rest] at taken
      obtain ⟨t, ran, whole, posts, replied⟩ := request_entries (i := .alertAck p (.cause x.code)) passed taken
      have list : t.alc.entries = before ++ after := by rw [whole]
      refine ⟨t, ran, ?_, nofun, nofun, fun _ => ⟨list, posts, replied⟩⟩
      rw [list]
      exact whole
  case silence =>
    obtain ⟨t, ran, closed⟩ := event_closed (i := .alertSilence) rfl nofun s
    have due : Alert.silenceDue s.tbu.seconds e = true := by
      simp only [Alert.silenceDue, timer, sounding, Bool.true_and, decide_eq_true_eq]
      exact old
    have others : ∀ y ∈ before, Alert.silenceDue s.tbu.seconds y = false := fun y member => by
      obtain system | silent | recent := young y member
      · simp [Alert.silenceDue, system]
      · simp [Alert.silenceDue, silent]
      · have fresh : ¬ Config.silenceAge ≤ y.age s.tbu.seconds := Nat.not_le.2 recent
        simp [Alert.silenceDue, fresh]
    have effect : s.effect .alertSilence = s.storeAlerts (before ++ { e with sounding := false } :: after) (s.entryAudience e) := by
      change s.silenceOldest = _
      rw [State.silenceOldest, first_at entries others due]
      change s.silenceAt before.length e = _
      rw [State.silenceAt, entries, set_entry]
      rfl
    rw [effect] at closed
    have causes : ∀ c, (s.storeAlerts (before ++ { e with sounding := false } :: after) (s.entryAudience e)).causePresent c =
        s.causePresent c := causePresent_of_stc rfl
    refine ⟨t, ran, closed.same causes rfl, ?_⟩
    have heard : s.entryAudience e .supervisor = true := by
      unfold State.entryAudience
      split
      · split <;> simp [State.timerAudience]
      · rfl
    refine ((closed.quiet causes).2 .supervisor .alertChanged).trans ?_
    rw [(storeAlerts_portsAfter s _ _).posted, toPorts, heard]
    simp

end Sys2Proof.Machine

/-! # Self-test and commit (R124, R138, R171, R172, R176, R179, R180) -/

namespace Sys2Proof.Machine

/-- Closing a command keeps what entering an operating state left. -/
theorem Entered.closed {who : Option Port} {op : OpState} {s v u t : State} (h : Entered op v u) (closed : Closed who s u t) :
    Entered op v t := by
  obtain ⟨stc, tme, gms, ems, reasons, frame, posted⟩ := h
  refine ⟨closed.stc.trans stc, closed.tme.trans tme, ?_, ?_, ?_, frame.closed closed, fun q => closed.keeps (c := .stateChanged) nofun (posted q)⟩
  · rw [closed.dru]; exact gms
  · rw [closed.dru]; exact ems
  · rw [closed.ptc]; exact reasons

/-! ## The self-test (R179, R180) -/

theorem endSelftest_passes {s : State} (op : s.stc.op = .selftest) {found : SelfTestFindings} (passes : failingPart found = .none) :
    s.endSelftest found = ((s.marched found).storeSelfTest .pass .none).enterState .config := by
  rw [State.endSelftest, if_pos op, passes]

theorem endSelftest_fails {s : State} (op : s.stc.op = .selftest) {found : SelfTestFindings} {f : FailingPart}
    (fails : failingPart found = f) (some : f ≠ .none) : s.endSelftest found = (s.marched found).selftestFails f := by
  rw [State.endSelftest, if_pos op, fails]
  cases f with
  | none => exact absurd rfl some
  | timerStore | planStore | planner | output | timeLimit => rfl

theorem firstLine_lowest {lines : BitVec 28} {n : Fin 28} (on : lines.getLsbD n.val = true)
    (lower : ∀ k < n, lines.getLsbD k.val = false) : firstLine lines = some n := by
  unfold firstLine
  rw [List.find?_eq_some_iff_getElem]
  refine ⟨on, n.val, by simp, by simp, fun j small => ?_⟩
  have low := lower ⟨j, by omega⟩ (Fin.lt_def.2 small)
  simpa using low

theorem failingPart_cases {found : SelfTestFindings} {f : FailingPart}
    (finding : found.march = some .timerStore ∧ f = .timerStore ∨ found.march = some .planStore ∧ f = .planStore ∨
      found.march = none ∧ found.plannerFault = true ∧ f = .planner ∨
      ∃ n, found.march = none ∧ found.plannerFault = false ∧ found.lines.getLsbD n.val = true ∧
        (∀ k < n, found.lines.getLsbD k.val = false) ∧ f = .output n) : failingPart found = f ∧ f ≠ .none := by
  unfold failingPart
  obtain ⟨march, rfl⟩ | ⟨march, rfl⟩ | ⟨march, planner, rfl⟩ | ⟨n, march, planner, on, lower, rfl⟩ := finding
  · rw [march]; exact ⟨rfl, nofun⟩
  · rw [march]; exact ⟨rfl, nofun⟩
  · rw [march, planner]; exact ⟨rfl, nofun⟩
  · rw [march, planner, reference_met, firstLine_lowest on lower]; exact ⟨rfl, nofun⟩

theorem marched_whole (s : State) (found : SelfTestFindings) :
    s.marched found = { s with tme := (s.marched found).tme, spl := (s.marched found).spl } := by
  unfold State.marched
  split <;> rfl

/-- The status of the drive test at the entry to an operating state (R138). -/
theorem enterState_status (s : State) (op : OpState) : (s.enterState op).dru.test.status =
    if op ≠ .config ∧ s.dru.test.status = .running then .aborted else s.dru.test.status := by
  have same : (s.enterState op).dru.test.status = (s.stamped op).dru.test.status := by rw [(enterState_gateFrame s op).dru]; rfl
  rw [same, State.stamped]
  dsimp only
  by_cases config : op = .config
  · rw [if_pos config, if_neg fun ⟨other, _⟩ => other config]
    rfl
  · rw [if_neg config, abortTest_status]
    simp only [config, not_false_eq_true, ne_eq, true_and]
    rfl

/-- Entering an operating state from a state whose stores and self-test record alone had changed. -/
theorem ControlFrame.of_stores {s v t : State} {e : Tme} {m : Spl} {c : Stc} {ports : PerPort PortUnit} (h : ControlFrame v t)
    (before : v = { s with tme := e, spl := m, stc := c, ports := ports }) : DemandKept s t ∧ DriveKept s t ∧
      t = { s with stc := t.stc, ptc := t.ptc, tme := t.tme, spl := t.spl, dru := t.dru, alc := t.alc, ports := t.ports
                   pins := t.pins } := by
  obtain ⟨-, ⟨points, -⟩, drive, -, -, rest⟩ := h
  rw [before] at points drive rest
  exact ⟨points, drive, rest⟩

theorem selftest_fails {i : Instr} {s w : State} {f : FailingPart} (event : asRequest i = none) (other : i ≠ .coldReset)
    (effect : s.effect i = w.selftestFails f) (stores : w = { s with tme := w.tme, spl := w.spl }) :
    ∃ t, exec i s = .next t ∧ t.stc.op = .lockout ∧ t.stc.enteredAt = s.tbu.seconds ∧
      t.stc.selfTest = { status := .fail, failing := f, part := none } ∧ t.stc.faults.plain.selftest = true ∧
      t.stc.holds = s.stc.holds ∧ t.dru.gms = false ∧ t.dru.ems = false ∧ t.tme.halt = true ∧ DemandKept s t ∧
      DriveKept s t ∧
      t = { s with stc := t.stc, ptc := t.ptc, tme := t.tme, spl := t.spl, dru := t.dru, alc := t.alc, ports := t.ports
                   pins := t.pins } ∧
      (∀ x, (t.ptc.reasons.get x).halted = true) ∧ ∀ q, (t.ports.get q).posted.stateChanged = true := by
  obtain ⟨e, m, rfl⟩ : ∃ e m, w = { s with tme := e, spl := m } := ⟨_, _, stores⟩
  obtain ⟨t, ran, closed⟩ := event_closed event other s
  rw [effect] at closed
  have latched := State.latch_get (State.storeSelfTest { s with tme := e, spl := m } .fail f) (.plain .selftest) (.plain .selftest)
  have frame := State.latch_frame (State.storeSelfTest { s with tme := e, spl := m } .fail f) (.plain .selftest)
  change Closed none s (((State.storeSelfTest { s with tme := e, spl := m } .fail f).latch (.plain .selftest)).enterState .lockout) t at closed
  generalize (State.storeSelfTest { s with tme := e, spl := m } .fail f).latch (.plain .selftest) = v at *
  obtain ⟨stc, tme, gms, ems, reasons, control, posted⟩ := (enterState_entered v .lockout).closed closed
  have selfTest : v.stc.selfTest = { status := .fail, failing := f, part := none } := by rw [frame]; rfl
  have holds : v.stc.holds = s.stc.holds := by rw [frame]; rfl
  have clock : v.tbu = s.tbu := by rw [frame]; rfl
  obtain ⟨demand, drive, rest⟩ := control.of_stores frame
  refine ⟨t, ran, by rw [stc], by rw [stc, clock], by rw [stc]; exact selfTest, ?_, by rw [stc]; exact holds, gms, ems, ?_, demand,
    drive, rest, fun x => ?_, posted⟩
  · rw [stc]
    exact latched.trans (by simp)
  · rw [tme]; rfl
  · rw [reasons]; exact PerReason.get_set_self _ .halted _

/-- Settles O51. -/
theorem selftestsEnd : Obligations.SelftestsEnd := by
  intro s op config
  refine ⟨?_, fun i f finding => ?_⟩
  · obtain ⟨t, ran, closed⟩ := event_closed (i := .selftestEnd { march := none, plannerFault := false, lines := 0 }) rfl nofun s
    have passes : failingPart { march := none, plannerFault := false, lines := 0 } = .none := by
      unfold failingPart
      dsimp only
      rw [reference_met]
      decide
    have effect : s.effect (.selftestEnd { march := none, plannerFault := false, lines := 0 }) =
        (((s.setTme Tme.reset).setSpl Spl.reset).storeSelfTest .pass .none).enterState .config := endSelftest_passes op passes
    rw [effect] at closed
    have idle : s.dru.test.status ≠ .running := fun running => by rw [config running] at op; cases op
    obtain ⟨v, store⟩ : ∃ v, v = ((s.setTme Tme.reset).setSpl Spl.reset).storeSelfTest .pass .none := ⟨_, rfl⟩
    rw [← store] at closed
    have status := enterState_status v .config
    rw [if_neg fun ⟨other, _⟩ => other rfl] at status
    have ended : t.dru.test.status ≠ .running := by
      rw [closed.dru, status, store]
      exact idle
    have entered := (enterState_entered v .config).closed closed
    obtain ⟨stc, tme, gms, ems, reasons, control, posted⟩ := entered
    obtain ⟨demand, drive, rest⟩ := control.of_stores store
    have planner := control.planner
    refine ⟨t, ran, by rw [stc, store]; rfl, gms, ?_, ?_, fun x => ?_, fun l => ?_, demand, drive, rest, posted⟩
    · rw [ems]
      simp [emsOf, ended]
    · rw [tme, store]
      rfl
    · rw [reasons]; exact PerReason.get_set_self _ .halted _
    · unfold PlannerKept at planner
      have active : t.spl.active = Plan.reset := by rw [planner, store]; rfl
      rw [active]
      cases l <;> rfl
  · obtain ⟨rfl, rfl⟩ | ⟨found, rfl, finding⟩ := finding
    · exact selftest_fails rfl nofun (w := s) (if_pos op) rfl
    · obtain ⟨fails, some⟩ := failingPart_cases finding
      exact selftest_fails rfl nofun (endSelftest_fails op fails some) (marched_whole s found)

end Sys2Proof.Machine

/-! # CFG_COMMIT (R176) -/

namespace Sys2Proof.Machine

/-- A commit that is refused keeps its outcome and changes nothing else. -/
theorem request_committed {s : State} {i : Instr} {code : Byte} {p : Port} {take : Taken} {r : CommitResult} {status : Status}
    {data : List Byte} (lines : s.LinesFollow) (passed : s.dispatch code p take = take) (took : take = ⟨s.storeCommit r, status, data⟩) :
    ∃ t, request i code p s take = .next t ∧ t = { s with stc := { s.stc with lastCommit := some r }, ports := t.ports } ∧
      PortsAfter (some p) noPosts s t ∧ t.Replied p (replyCode code) status data := by
  have causes : ∀ c, (s.storeCommit r).causePresent c = s.causePresent c := fun c => by cases c <;> rfl
  obtain ⟨t, ran, whole, follow, posts, replied⟩ := request_taken (i := i) passed took causes rfl
    (((PortsAfter.refl none s).congr rfl rfl fun _ _ => rfl : PortsAfter none noPosts s (s.storeCommit r)))
  refine ⟨t, ran, ?_, posts, replied⟩
  have same : t.lines = s.lines := lines_congr (by rw [whole]; rfl) (by rw [whole]; rfl) (by rw [whole]; rfl) posts.unposted
  have still : t.pins = s.pins := (follow.trans same).trans lines.symm
  rw [still] at whole
  exact whole

theorem permutation_iff (r : Rank) : r.permutation = true ↔ ∀ e, e ∈ r.toList := by
  unfold Rank.permutation
  rw [List.all_eq_true]
  simp only [List.contains_iff_mem]
  exact ⟨fun h e => h e (by cases e <;> decide), fun h e _ => h e⟩

theorem overBudget_first {t : Spl} {l : Load} (rated : t.budget < (t.loads.get l).power)
    (lower : ∀ k, k.index < l.index → (t.loads.get k).power ≤ t.budget) : t.overBudget = some l := by
  unfold Spl.overBudget
  rw [List.find?_eq_some_iff_append]
  refine ⟨decide_eq_true rated, Load.all.take l.index, Load.all.drop (l.index + 1), by cases l <;> rfl, fun k member => ?_⟩
  have before : k.index < l.index := by
    revert member
    cases l <;> cases k <;> decide
  rw [decide_eq_false (Nat.not_lt.2 (lower k before))]
  rfl

theorem overBudget_none {t : Spl} (within : ∀ l, (t.loads.get l).power ≤ t.budget) : t.overBudget = none := by
  unfold Spl.overBudget
  rw [List.find?_eq_none]
  exact fun l _ => by simpa using within l

section
variable {s : State}

theorem takeCfgCommit_refused {r : CommitResult} (result : s.commitResult = r) (refused : r ≠ .ok) :
    s.takeCfgCommit = ⟨s.storeCommit r, r.status, r.detail⟩ := by
  unfold State.takeCfgCommit
  dsimp only
  rw [result, if_neg refused]

theorem takeCfgCommit_taken (result : s.commitResult = .ok) : s.takeCfgCommit =
    ((s.storeCommit .ok).enterState s.stc.commitTarget).taken (enc1 s.stc.commitTarget.code) := by
  unfold State.takeCfgCommit
  dsimp only
  rw [result]
  exact if_pos rfl

end

/-- Settles O52. -/
theorem commitsAreChecked : Obligations.CommitsAreChecked := by
  intro s lines busy
  have passed := dispatch_supervisor (s := s) (code := 0x48) s.takeCfgCommit busy
  obtain ⟨t, ran, closed, replied⟩ := request_closed (i := .cfgCommit .supervisor) passed
  have refused : ∀ {r : CommitResult}, s.commitResult = r → r ≠ .ok →
      t = { s with stc := { s.stc with lastCommit := some r }, ports := t.ports } ∧
      PortsAfter (some .supervisor) noPosts s t ∧ t.Replied .supervisor 0xC8 r.status r.detail := fun result other => by
    obtain ⟨t', ran', rest⟩ := request_committed (i := .cfgCommit .supervisor) lines passed (takeCfgCommit_refused result other)
    cases ran.symm.trans ran'
    exact rest
  refine ⟨t, ran, fun op => ?_, fun op => ?_⟩
  · obtain ⟨whole, posts, answer⟩ := refused (r := .refusedState) (if_pos op) nofun
    have kept : t.stc.lastCommit = some .refusedState := by rw [whole]
    rw [kept]
    exact ⟨whole, posts, answer⟩
  · intro stays
    refine ⟨fun timebase => ?_, fun timebase missing => ?_, fun timebase all => ⟨fun l rated lower => ?_, fun within cav => ?_,
      fun within cav => ?_⟩⟩
    · exact refused (r := .timebase) (by simp [State.commitResult, op, timebase]) nofun
    · have repeats : s.ptc.rank.permutation = false := by
        rw [← Bool.not_eq_true, permutation_iff]
        exact fun h => missing.elim fun e n => n (h e)
      exact refused (r := .rank) (by simp [State.commitResult, op, timebase, repeats]) nofun
    · exact refused (r := .load l)
        (by simp [State.commitResult, op, timebase, (permutation_iff _).2 all, overBudget_first rated lower]) nofun
    · exact refused (r := .cavMask)
        (by simp [State.commitResult, op, timebase, (permutation_iff _).2 all, overBudget_none within, cav]) nofun
    · have result : s.commitResult = .ok := by
        simp [State.commitResult, op, timebase, (permutation_iff _).2 all, overBudget_none within, cav]
      rw [takeCfgCommit_taken result] at closed replied
      change Closed _ s ((s.storeCommit .ok).enterState s.stc.commitTarget) t at closed
      have target : s.stc.commitTarget = if s.stc.noHold then .run else .hold := rfl
      have status := enterState_status (s.storeCommit .ok) s.stc.commitTarget
      have entered := (enterState_entered (s.storeCommit .ok) s.stc.commitTarget).closed closed
      generalize (s.storeCommit .ok).enterState s.stc.commitTarget = u at *
      obtain ⟨stc, tme, gms, ems, reasons, control, posted⟩ := entered
      have running : t.dru.test.status = if s.dru.test.status = .running then .aborted else s.dru.test.status := by
        have other : s.stc.commitTarget ≠ .config := by rw [target]; split <;> nofun
        rw [closed.dru, status]
        simp only [other, ne_eq, not_false_eq_true, true_and]
        rfl
      have frame : ControlFrame s t := control.of_stc_ports
      intro runs
      cases hold : s.stc.noHold with
      | true =>
        rw [hold] at target
        rw [target] at stc tme gms ems reasons replied
        simp only [show runs = true from hold]
        exact ⟨stc, gms, ems, tme, reasons, frame, running, posted, replied⟩
      | false =>
        rw [hold] at target
        rw [target] at stc tme gms ems reasons replied
        simp only [show runs = false from hold]
        exact ⟨stc, gms, ems, tme, reasons, frame, running, posted, replied⟩

end Sys2Proof.Machine

/-! # FAULT_CLEAR (R31, R32, R182) -/

namespace Sys2Proof.Machine

/-! ## The members of a point (R31) -/

/-- Whether a point has an attribution member. -/
def Attribution.member (a : Attribution) (x : Point) : Prop :=
  (∃ l, l.point = x ∧ (a.drive.get l = true ∨ a.stuckOn.get l = true)) ∨
    (∃ z, z.point = x ∧ (a.valve.get z = true ∨ a.valveUnexpected.get z = true)) ∨
    x = .ov ∧ a.sensorCav = true ∨ x = .gr ∧ a.sensorGrl = true

theorem onPoint_empty {a : Attribution} {x : Point} (none : ¬ a.member x) : a.onPoint x = Attribution.empty := by
  unfold Attribution.member at none
  simp only [not_or, not_exists, not_and, Bool.not_eq_true] at none
  obtain ⟨loads, gas, cav, grl⟩ := none
  have off : ∀ (b : Bool) (c : Prop) [Decidable c], (c → b = false) → (b && decide c) = false := fun b c _ h => by
    by_cases k : c
    · rw [h k]; rfl
    · rw [decide_eq_false k, Bool.and_false]
  unfold Attribution.onPoint Attribution.empty
  rw [Attribution.mk.injEq]
  refine ⟨PerLoad.eq_of_get fun l => ?_, PerLoad.eq_of_get fun l => ?_, PerGas.eq_of_get fun z => ?_, PerGas.eq_of_get fun z => ?_,
    off _ _ cav, off _ _ grl⟩
  · rw [PerLoad.get_of, PerLoad.get_of]; exact off _ _ fun h => (loads l h).1
  · rw [PerLoad.get_of, PerLoad.get_of]; exact off _ _ fun h => (loads l h).2
  · rw [PerGas.get_of, PerGas.get_of]; exact off _ _ fun h => (gas z h).2
  · rw [PerGas.get_of, PerGas.get_of]; exact off _ _ fun h => (gas z h).1

theorem holds_iff (a : Attribution) (x : Point) : a.holds x = true ↔ a.member x := by
  unfold Attribution.holds
  rw [decide_eq_true_iff]
  constructor
  · intro some
    by_contra none
    exact some (onPoint_empty none)
  · rintro (⟨l, at_, drive | stuck⟩ | ⟨z, at_, valve | open_⟩ | ⟨at_, cav⟩ | ⟨at_, grl⟩) empty
    · simpa [Attribution.onPoint, Attribution.empty, at_, drive] using congrArg (fun b => b.drive.get l) empty
    · simpa [Attribution.onPoint, Attribution.empty, at_, stuck] using congrArg (fun b => b.stuckOn.get l) empty
    · simpa [Attribution.onPoint, Attribution.empty, at_, valve] using congrArg (fun b => b.valve.get z) empty
    · simpa [Attribution.onPoint, Attribution.empty, at_, open_] using congrArg (fun b => b.valveUnexpected.get z) empty
    · simpa [Attribution.onPoint, Attribution.empty, at_, cav] using congrArg Attribution.sensorCav empty
    · simpa [Attribution.onPoint, Attribution.empty, at_, grl] using congrArg Attribution.sensorGrl empty

/-! ## The record after a clear (R182) -/

section
variable (s : State) (named : FaultFlag → Bool)

theorem clearedFaults_get (i : FaultId) : (s.clearedFaults named).get i = s.keptFault named i := by
  cases i <;> simp [State.clearedFaults, Faults.get]

/-- What a FAULT_CLEAR leaves. -/
structure Cleared (s t : State) : Prop where
  stc : t.stc = { s.stc with faults := s.clearedFaults named
                             firstFault := if (s.clearedFaults named).any then s.stc.firstFault else none }
  attribution : t.ptc.attribution = s.clearedAttribution named
  reasons : ∀ x, t.ptc.reasons.get x =
    if (s.clearedAttribution named).onPoint x = s.ptc.attribution.onPoint x then s.ptc.reasons.get x
    else (s.ptc.reasons.get x).set .fault ((s.clearedAttribution named).holds x)
  told : s.clearedFaults named ≠ s.stc.faults → ∀ q, (t.ports.get q).posted.get .faultChanged = true
  planner : PlannerKept s t
  points : DemandKept s t
  dru : t.dru = { s.dru with withdrawLoads := t.dru.withdrawLoads, withdrawGas := t.dru.withdrawGas }
  rest : t = { s with ptc := t.ptc, spl := t.spl, dru := t.dru, stc := t.stc, ports := t.ports }

theorem followAttribution_postsStay (p : Point) (was : Attribution) : PostsStay s (s.followAttribution p was) := by
  unfold State.followAttribution
  split
  · exact PostsStay.refl s
  · exact (postTo_portsAfter s _ _).postsStay.trans (changeReasons_postsStay _ _ _)

theorem setAttribution_postsStay (a : Attribution) : PostsStay s (s.setAttribution a) :=
  (PostsStay.of_ports rfl).trans
    (foldl_keeps PostsStay PostsStay.refl PostsStay.trans (fun t x => followAttribution_postsStay t x _) Point.all
      (s.setPtc { s.ptc with attribution := a }))

theorem clearFaults_cleared : Cleared named s (s.clearFaults named) := by
  have stored : ∃ b, (if s.clearedFaults named = s.stc.faults then
        s.setStc { s.stc with faults := s.clearedFaults named
                              firstFault := if (s.clearedFaults named).any then s.stc.firstFault else none }
      else (s.setStc { s.stc with faults := s.clearedFaults named
                                  firstFault := if (s.clearedFaults named).any then s.stc.firstFault else none }).postAll .faultChanged) = b ∧
      (∃ ports, b = { s with
        stc := { s.stc with faults := s.clearedFaults named
                            firstFault := if (s.clearedFaults named).any then s.stc.firstFault else none }
        ports := ports }) ∧
      (s.clearedFaults named ≠ s.stc.faults → ∀ q, (b.ports.get q).posted.get .faultChanged = true) := by
    refine ⟨_, rfl, ?_⟩
    split
    · next same => exact ⟨⟨_, rfl⟩, fun other => absurd same other⟩
    · exact ⟨⟨_, rfl⟩, fun _ q => by simp [State.postTo_posted]⟩
  obtain ⟨b, stored, ⟨ports, whole⟩, told⟩ := stored
  have eq : s.clearFaults named = b.setAttribution (s.clearedAttribution named) := by
    rw [← stored]
    rfl
  obtain ⟨ptc, planner, dru, rest⟩ := State.setAttribution_gateFrame b (s.clearedAttribution named)
  have reasons := setAttribution_reasons b (s.clearedAttribution named)
  have attribution := State.setAttribution_attribution b (s.clearedAttribution named)
  have posts := setAttribution_postsStay b (s.clearedAttribution named)
  rw [← eq] at ptc planner dru rest reasons attribution posts
  generalize s.clearFaults named = t at *
  subst whole
  refine ⟨by rw [rest]; rfl, attribution, reasons, fun changed q => posts q _ (told changed q), planner, ?_, dru, ?_⟩
  · unfold DemandKept
    rw [ptc]
    rfl
  · rw [rest]
    rfl

end

/-- Whether a FAULT_CLEAR, closed, leaves the points as the clear did. -/
theorem Cleared.fault_iff {named : FaultFlag → Bool} {s u : State} (cleared : Cleared named s u) (gates : s.GatesFollow) (x : Point) :
    (u.ptc.reasons.get x).fault = true ↔ (s.clearedAttribution named).member x := by
  rw [← holds_iff, cleared.reasons x]
  split
  · next same =>
    rw [(gates x).2]
    unfold Attribution.holds
    rw [same]
  · exact Iff.of_eq (congrArg (· = true) (PerReason.get_set_self _ .fault _))

theorem Cleared.otherReasons {named : FaultFlag → Bool} {s u : State} (cleared : Cleared named s u) (x : Point) {o : Reason}
    (other : o ≠ .fault) : (u.ptc.reasons.get x).get o = (s.ptc.reasons.get x).get o := by
  rw [cleared.reasons x]
  split
  · rfl
  · exact PerReason.get_set_ne _ _ other

theorem Cleared.gateOpen_iff {named : FaultFlag → Bool} {s u : State} (cleared : Cleared named s u) (gates : s.GatesFollow) (x : Point) :
    u.gateOpen x = true ↔
      ¬ (s.clearedAttribution named).member x ∧ ∀ o, o ≠ .fault → (s.ptc.reasons.get x).get o = false := by
  rw [gateOpen_eq, clearReasons_iff, ← cleared.fault_iff gates x, Bool.not_eq_true]
  constructor
  · exact fun clear => ⟨clear .fault, fun o other => by rw [← cleared.otherReasons x other]; exact clear o⟩
  · rintro ⟨fault, others⟩ o
    by_cases is : o = .fault
    · subst is
      exact fault
    · rw [cleared.otherReasons x is]
      exact others o is

theorem valveOpen_iff (s : State) (z : Gas) : s.valveOpen z = true ↔ ∃ u, s.dru.lastSample = some u ∧ u.opened.get z = true := by
  unfold State.valveOpen
  cases s.dru.lastSample <;> simp

theorem sensorBad_iff (s : State) (c : Sensor) :
    s.sensorBad c = true ↔ (s.snu.channels.get c).reading = .open ∨ (s.snu.channels.get c).reading = .short := by
  simp [State.sensorBad]

theorem keptFault_all (s : State) (i : FaultId) : s.keptFault (fun _ => true) i = (s.stc.faults.get i && s.stillHolds i) := rfl

theorem keptFault_other (s : State) {named : FaultFlag → Bool} {i : FaultId} (other : named i.flag = false) :
    s.keptFault named i = s.stc.faults.get i := by
  rw [State.keptFault, other, Bool.not_false, Bool.true_or, Bool.and_true]

/-- The plain flags that a FAULT_CLEAR of ALL leaves. -/
theorem clearedFaults_plain (s : State) (f : PlainFlag) :
    (s.clearedFaults fun _ => true).plain.get f = (s.stc.faults.plain.get f && s.stillHolds (.plain f)) :=
  (clearedFaults_get s _ (.plain f)).trans (keptFault_all s _)

/-- A flag named by itself is the one flag that a FAULT_CLEAR names. -/
theorem named_flag {f g : FaultFlag} (other : g ≠ f) : [f.index].contains g.index = false := by
  have apart : g.index ≠ f.index := fun same => other (by revert same; cases f <;> cases g <;> decide)
  simpa using apart

theorem flagsAllowed_one (f : FaultFlag) : flagsAllowed [f.index] = true := by cases f <;> decide

/-- Settles O56. -/
theorem faultsAreCleared : Obligations.FaultsAreCleared := by
  intro s busy
  refine ⟨?_, fun f => ?_⟩
  · have passed := dispatch_supervisor (s := s) (code := 0x51)
      ((s.clearFaults fun _ => true).taken (s.clearFaults fun _ => true).stc.faults.enc) busy
    obtain ⟨t, ran, closed, replied⟩ := request_closed (i := .faultClear .supervisor .all) passed
    change Closed _ s (s.clearFaults fun _ => true) t at closed
    have cleared := clearFaults_cleared s fun _ => true
    change t.Replied .supervisor 0xD1 .ok _ at replied
    change exec (.faultClear .supervisor .all) s = .next t at ran
    generalize s.clearFaults (fun _ => true) = u at *
    have stc : t.stc = _ := closed.stc.trans cleared.stc
    have faults : t.stc.faults = s.clearedFaults fun _ => true := by rw [stc]
    have attribution : t.ptc.attribution = s.clearedAttribution fun _ => true := by rw [closed.ptc, cleared.attribution]
    have reasons : t.ptc.reasons = u.ptc.reasons := by rw [closed.ptc]
    have dru : t.dru = { s.dru with withdrawLoads := u.dru.withdrawLoads, withdrawGas := u.dru.withdrawGas } :=
      closed.dru.trans cleared.dru
    have plain : ∀ f, t.stc.faults.plain.get f = (s.stc.faults.plain.get f && s.stillHolds (.plain f)) := fun f => by
      rw [faults, clearedFaults_plain]
    refine ⟨t, ran, by rw [closed.stc]; exact replied, by rw [stc], by rw [stc], ?_, fun l => ?_, fun z => ?_, ?_, ?_,
      fun changed q => ?_, ?_, ?_, ?_, by rw [dru], by rw [dru], ?_⟩
    · refine ⟨?_, plain .selftest, plain .xtal, plain .timebaseLost, plain .timebaseSuspect, plain .supervisorSilent, ?_,
        plain .cavOvertemp, plain .grlOvertemp, ?_, plain .probe⟩
      · exact (plain .memory).trans (Bool.and_false _)
      · refine (Bool.eq_iff_iff.1 (plain .boardOvertemp)).trans ?_
        rw [Bool.and_eq_true]
        refine and_congr_right fun _ => ?_
        unfold State.stillHolds
        dsimp only
        cases (s.snu.channels.get .brd).reading <;> simp
      · refine (Bool.eq_iff_iff.1 (plain .sensor)).trans ?_
        rw [Bool.and_eq_true]
        refine and_congr_right fun _ => ?_
        change (s.sensorBad .cav || s.sensorBad .grl || s.sensorBad .brd) = true ↔ _
        rw [Bool.or_eq_true, Bool.or_eq_true, sensorBad_iff, sensorBad_iff, sensorBad_iff]
        constructor
        · rintro ((cav | grl) | brd)
          · exact ⟨.cav, nofun, cav⟩
          · exact ⟨.grl, nofun, grl⟩
          · exact ⟨.brd, nofun, brd⟩
        · rintro ⟨c, notProbe, bad⟩
          cases c with
          | cav => exact .inl (.inl bad)
          | grl => exact .inl (.inr bad)
          | brd => exact .inr bad
          | prb => exact absurd rfl notProbe
    · rw [faults]
      exact ⟨PerLoad.get_of _ _, PerLoad.get_of _ _⟩
    · rw [faults, ← valveOpen_iff, ← Bool.and_eq_true, ← Bool.and_eq_true]
      exact ⟨Iff.of_eq (congrArg (· = true) (PerGas.get_of _ _)), Iff.of_eq (congrArg (· = true) (PerGas.get_of _ _))⟩
    · rw [stc]
    · have member : (s.clearedAttribution fun _ => true).member = t.ptc.attribution.member := by rw [attribution]
      refine ⟨fun l => ?_, fun z => ?_, ?_, fun x o other => ?_, fun gates x => ⟨?_, ?_⟩⟩
      · rw [attribution, faults]
        constructor <;> simp [State.clearedAttribution, State.clearedFaults, Faults.get]
      · rw [attribution, faults]
        constructor <;> simp [State.clearedAttribution, State.clearedFaults, Faults.get]
      · dsimp only
        rw [attribution, ← sensorBad_iff, ← sensorBad_iff]
        simp only [State.clearedAttribution, State.keptSensor, Bool.true_and]
        split
        · exact ⟨Iff.rfl, Iff.rfl⟩
        · exact ⟨rfl, rfl⟩
      · rw [reasons]
        exact cleared.otherReasons x other
      · rw [reasons, cleared.fault_iff gates x, member]
        exact Iff.rfl
      · rw [gateOpen_congr reasons, cleared.gateOpen_iff gates x, member]
        exact Iff.rfl
    · exact closed.keeps (c := .faultChanged) nofun (cleared.told (by rw [← faults]; exact changed) q)
    · have planner := cleared.planner
      unfold PlannerKept at planner ⊢
      rw [closed.pass, planner]
    · have points := cleared.points
      unfold DemandKept at points ⊢
      rw [closed.ptc, points]
    · unfold DriveKept
      rw [dru]
    · have rest := cleared.rest
      rw [show s.tbu = t.tbu by rw [closed.tbu, rest], show s.tme = t.tme by rw [closed.tme, rest],
        show s.squ = t.squ by rw [closed.squ, rest], show s.pmc = t.pmc by rw [closed.pmc, rest],
        show s.snu = t.snu by rw [closed.snu, rest], show s.presence = t.presence by rw [closed.presence, rest],
        show s.watchdog = t.watchdog by rw [closed.watchdog, rest], show s.free = t.free by rw [closed.free, rest],
        show s.pending = t.pending by rw [closed.pending, rest]]
  · have passed := dispatch_supervisor (s := s) (code := 0x51) (s.takeFaultClear (.flags [f.index])) busy
    obtain ⟨t, ran, closed, -⟩ := request_closed (i := .faultClear .supervisor (.flags [f.index])) passed
    have took : (s.takeFaultClear (.flags [f.index])).state = s.clearFaults fun g => [f.index].contains g.index := by
      rw [State.takeFaultClear, if_pos (flagsAllowed_one f)]
      rfl
    rw [took] at closed
    refine ⟨t, ran, fun i other => ?_⟩
    rw [closed.stc, (clearFaults_cleared s _).stc]
    exact (clearedFaults_get s _ i).trans (keptFault_other s (named_flag other))

end Sys2Proof.Machine

/-! # What the Drive Unit's rules leave as it was (R125 to R134, R178) -/

namespace Sys2Proof.Machine

/-! ## Rules applied member by member -/

/-- A rule that acts on one component at a time, folded over distinct components, acts on each of them as on the first. -/
theorem foldl_each {α β : Type} [DecidableEq α] {f : State → α → State} (get : State → α → β) (val : State → α → β)
    (hit : ∀ s x, get (f s x) x = val s x) (miss : ∀ s x y, y ≠ x → get (f s x) y = get s y)
    (stays : ∀ s x y, y ≠ x → val (f s x) y = val s y) :
    ∀ (xs : List α) (s : State), xs.Nodup → ∀ y, get (xs.foldl f s) y = if y ∈ xs then val s y else get s y
  | [], s, _, y => by simp
  | x :: xs, s, distinct, y => by
    obtain ⟨absent, distinct⟩ := List.nodup_cons.1 distinct
    rw [List.foldl_cons, foldl_each get val hit miss stays xs (f s x) distinct y]
    by_cases is : y = x
    · subst is
      rw [if_neg absent, if_pos List.mem_cons_self, hit]
    · rw [stays s x y is, miss s x y is]
      simp [is]

theorem foldl_gas {β : Type} {f : State → Gas → State} (get : State → Gas → β) (val : State → Gas → β)
    (hit : ∀ s x, get (f s x) x = val s x) (miss : ∀ s x y, y ≠ x → get (f s x) y = get s y)
    (stays : ∀ s x y, y ≠ x → val (f s x) y = val s y) (s : State) (z : Gas) : get (Gas.all.foldl f s) z = val s z := by
  rw [foldl_each get val hit miss stays Gas.all s (by decide) z, if_pos (Gas.mem_all z)]

/-! ## The frame of a rule -/

/-- FAULT is in the reason set of exactly the points with an attribution member (R31). -/
def State.FaultMarks (s : State) : Prop := ∀ p, (s.ptc.reasons.get p).fault = s.ptc.attribution.holds p

theorem State.GatesFollow.faultMarks {s : State} (gates : s.GatesFollow) : s.FaultMarks := fun p => Bool.eq_iff_iff.2 (gates p).2

/-- What no rule of the Drive Unit changes, and what each keeps: the operating state moves to LOCKOUT alone, what is latched
stays, and so do the other reasons (R31, R178, R181). -/
structure Judged (s t : State) : Prop where
  planner : PlannerKept s t
  points : DemandKept s t
  posts : PostsStay s t
  faults : ∀ i, s.stc.faults.get i = true → t.stc.faults.get i = true
  members : (∀ l, s.ptc.attribution.drive.get l = true → t.ptc.attribution.drive.get l = true) ∧
    ∀ z, s.ptc.attribution.valveUnexpected.get z = true → t.ptc.attribution.valveUnexpected.get z = true
  reasons : ∀ x o, o ≠ .halted → o ≠ .fault → (t.ptc.reasons.get x).get o = (s.ptc.reasons.get x).get o
  marks : s.FaultMarks → t.FaultMarks
  ops : t.stc.op = s.stc.op ∧ t.tme = s.tme ∨ t.stc.op = .lockout ∧ s.stc.op ≠ .lockout ∧ s.stc.op ≠ .selftest
  holds : t.stc.holds = s.stc.holds
  rest : t = { s with ptc := t.ptc, tme := t.tme, spl := t.spl, dru := t.dru, stc := t.stc, ports := t.ports }

theorem Judged.refl (s : State) : Judged s s :=
  ⟨rfl, rfl, PostsStay.refl s, fun _ h => h, ⟨fun _ h => h, fun _ h => h⟩, fun _ _ _ _ => rfl, fun h => h, .inl ⟨rfl, rfl⟩, rfl, rfl⟩

theorem Judged.trans {s t u : State} (h : Judged s t) (k : Judged t u) : Judged s u := by
  refine ⟨?_, ?_, h.posts.trans k.posts, fun i latched => k.faults i (h.faults i latched),
    ⟨fun l m => k.members.1 l (h.members.1 l m), fun z m => k.members.2 z (h.members.2 z m)⟩,
    fun x o a b => (k.reasons x o a b).trans (h.reasons x o a b), fun m => k.marks (h.marks m), ?_, k.holds.trans h.holds, ?_⟩
  · have a := h.planner
    have b := k.planner
    unfold PlannerKept at *
    rw [b, a]
  · have a := h.points
    have b := k.points
    unfold DemandKept at *
    rw [b, a]
  · obtain ⟨op, tme⟩ | ⟨lock, apart, test⟩ := h.ops
    · rw [← op, ← tme]
      exact k.ops
    · obtain ⟨op, -⟩ | ⟨-, other, -⟩ := k.ops
      · exact .inr ⟨op.trans lock, apart, test⟩
      · exact absurd lock other
  · rw [k.rest, h.rest]

/-- A part that stays in its state. -/
theorem Judged.of_ops {s t : State} (h : Judged s t) (lock : t.stc.op ≠ .lockout ∨ s.stc.op = .lockout ∨ s.stc.op = .selftest) :
    t.stc.op = s.stc.op ∧ t.tme = s.tme := by
  obtain same | ⟨a, b, c⟩ := h.ops
  · exact same
  · exact (lock.elim (absurd a) (Or.rec (fun h => absurd h b) fun h => absurd h c))

section
variable (s : State)

theorem setDru_judged (d : Dru) : Judged s (s.setDru d) :=
  ⟨rfl, rfl, PostsStay.of_ports rfl, fun _ h => h, ⟨fun _ h => h, fun _ h => h⟩, fun _ _ _ _ => rfl, fun h => h, .inl ⟨rfl, rfl⟩, rfl,
    rfl⟩

theorem postTo_judged (c : EventClass) (who : Port → Bool) : Judged s (s.postTo c who) :=
  ⟨rfl, rfl, (postTo_portsAfter s c who).postsStay, fun _ h => h, ⟨fun _ h => h, fun _ h => h⟩, fun _ _ _ _ => rfl, fun h => h,
    .inl ⟨rfl, rfl⟩, rfl, rfl⟩

theorem latch_judged (i : FaultId) : Judged s (s.latch i) := by
  have frame := State.latch_frame s i
  refine ⟨?_, ?_, latch_postsStay s i, fun j latched => by rw [State.latch_get, latched, Bool.true_or], ?_,
    fun x o _ _ => by rw [State.latch_ptc], fun marks => ?_, .inl ⟨State.latch_op s i, State.latch_tme s i⟩, State.latch_holds s i,
    ?_⟩
  · unfold PlannerKept
    rw [State.latch_spl]
  · unfold DemandKept
    rw [State.latch_ptc]
  · rw [State.latch_ptc]
    exact ⟨fun _ h => h, fun _ h => h⟩
  · unfold State.FaultMarks
    rw [State.latch_ptc]
    exact marks
  · rw [frame]

theorem setAttribution_judged (a : Attribution)
    (members : (∀ l, s.ptc.attribution.drive.get l = true → a.drive.get l = true) ∧
      ∀ z, s.ptc.attribution.valveUnexpected.get z = true → a.valveUnexpected.get z = true) : Judged s (s.setAttribution a) := by
  obtain ⟨ptc, planner, -, rest⟩ := State.setAttribution_gateFrame s a
  have attribution := State.setAttribution_attribution s a
  have reasons := setAttribution_reasons s a
  obtain ⟨stc, -, tme, -⟩ := setAttribution_frame s a
  refine ⟨planner, ?_, setAttribution_postsStay s a, fun i latched => by rw [stc]; exact latched, by rw [attribution]; exact members,
    fun x o _ other => ?_, fun marks x => ?_, .inl ⟨by rw [stc], tme⟩, by rw [stc], ?_⟩
  · unfold DemandKept
    rw [ptc]
    rfl
  · rw [reasons x]
    split
    · rfl
    · exact PerReason.get_set_ne _ _ other
  · rw [attribution, reasons x]
    split
    · next same =>
      rw [marks x]
      unfold Attribution.holds
      rw [same]
    · exact PerReason.get_set_self _ .fault _
  · rw [rest]
    rfl

theorem enterLockout_judged (apart : s.stc.op ≠ .lockout) (test : s.stc.op ≠ .selftest) : Judged s (s.enterState .lockout) := by
  obtain ⟨stc, -, -, -, reasons, ⟨planner, ⟨points, attribution⟩, -, -, -, rest⟩, -⟩ := enterState_entered s .lockout
  have alc : (s.enterState .lockout).alc = s.alc := by
    rw [(enterState_gateFrame s .lockout).rest]
    simp only [State.enteredBeforeGates, State.setMasters, State.setTme, State.setDru]
    rw [stamped_eq]
  refine ⟨planner, points, enterState_postsStay s _, fun i latched => by rw [stc]; exact latched, ?_, fun x o other _ => ?_,
    fun marks x => ?_, .inr ⟨by rw [stc], apart, test⟩, by rw [stc], ?_⟩
  · rw [attribution]
    exact ⟨fun _ h => h, fun _ h => h⟩
  · rw [reasons x]
    exact PerReason.get_set_ne _ _ other
  · rw [attribution, reasons x, ← marks x]
    exact PerReason.get_set_ne (s.ptc.reasons.get x) (i := .halted) (j := .fault) _ nofun
  · have pins : (s.enterState .lockout).pins = s.pins := by
      rw [(enterState_gateFrame s .lockout).rest]
      simp only [State.enteredBeforeGates, State.setMasters, State.setTme, State.setDru]
      rw [stamped_eq]
    rw [rest, alc, pins]

theorem requestLockout_judged : Judged s s.requestLockout := by
  unfold State.requestLockout
  cases op : s.stc.op with
  | selftest | lockout => exact Judged.refl s
  | config | run | hold => exact enterLockout_judged s (by rw [op]; nofun) (by rw [op]; nofun)

end

end Sys2Proof.Machine

/-! # SLICE_MIDDLE_SAMPLE and VALVE_GRACE_OVER (R125 to R130) -/

namespace Sys2Proof.Machine

/-! ## A latching that takes the part to LOCKOUT (R128, R134, R178) -/

section
variable (s : State)

theorem setAttribution_drive (a : Attribution) : (s.setAttribution a).dru =
    { s.dru with withdrawLoads := (s.setAttribution a).dru.withdrawLoads, withdrawGas := (s.setAttribution a).dru.withdrawGas } :=
  (State.setAttribution_gateFrame s a).dru

theorem requestLockout_drive : DriveKept s s.requestLockout := by
  obtain eq | ⟨eq, -⟩ := requestLockout_cases s <;> rw [eq]
  · exact (enterState_dru s .lockout).2.2
  · rfl

theorem requestLockout_op (busy : s.stc.op ≠ .selftest) : s.requestLockout.stc.op = .lockout := by
  obtain eq | ⟨eq, test | lock⟩ := requestLockout_cases s
  · rw [eq, State.enterState_stc]
  · exact absurd test busy
  · rw [eq, lock]

theorem requestLockout_low : (s.dru.gms = false → s.requestLockout.dru.gms = false) ∧
    (s.dru.ems = false → s.requestLockout.dru.ems = false) := by
  obtain eq | ⟨eq, -⟩ := requestLockout_cases s
  · obtain ⟨gms, ems⟩ := enterState_masters_low s
    rw [eq]
    exact ⟨fun _ => gms, fun _ => ems⟩
  · rw [eq]
    exact ⟨fun h => h, fun h => h⟩

/-- A flag or member latched with its attribution, and LOCKOUT requested. -/
structure Tripped (i : FaultId) (s t : State) : Prop where
  judged : Judged s t
  drive : DriveKept s t
  faults : ∀ j, t.stc.faults.get j = (s.stc.faults.get j || decide (j = i))
  op : s.stc.op ≠ .selftest → t.stc.op = .lockout

theorem trip {i : FaultId} {a : Attribution} {d : Dru}
    (members : (∀ l, s.ptc.attribution.drive.get l = true → a.drive.get l = true) ∧
      ∀ z, s.ptc.attribution.valveUnexpected.get z = true → a.valveUnexpected.get z = true)
    (masters : d = { ((s.latch i).setAttribution a).dru with gms := d.gms, ems := d.ems }) :
    Tripped i s (((s.latch i).setAttribution a).setDru d).requestLockout := by
  have latched := latch_judged s i
  have sets := setAttribution_judged (s.latch i) a (by rw [State.latch_ptc]; exact members)
  obtain ⟨stc, -⟩ := setAttribution_frame (s.latch i) a
  have drive := setAttribution_drive (s.latch i) a
  rw [State.latch_dru] at drive
  have lock := requestLockout_drive (((s.latch i).setAttribution a).setDru d)
  refine ⟨((latched.trans sets).trans (setDru_judged _ d)).trans (requestLockout_judged _), ?_, fun j => ?_, fun busy => ?_⟩
  · unfold DriveKept at lock ⊢
    rw [lock]
    dsimp only [State.setDru]
    rw [masters, drive]
  · rw [(requestLockout_faults _).1]
    change ((s.latch i).setAttribution a).stc.faults.get j = _
    rw [stc, State.latch_get]
  · refine requestLockout_op _ ?_
    change ((s.latch i).setAttribution a).stc.op ≠ _
    rw [stc, State.latch_op]
    exact busy

theorem latchValve_trips {z : Gas} (clear : s.stc.faults.valve.get z = false) :
    Tripped (.valve z) s (s.latchValve z) ∧ (s.latchValve z).dru.gms = false := by
  have eq : s.latchValve z = _ := if_neg (by rw [clear]; nofun)
  rw [eq]
  exact ⟨trip s ⟨fun _ h => h, fun _ h => h⟩ rfl, (requestLockout_low _).1 rfl⟩

theorem latchStuck_trips {l : Load} (clear : s.stc.faults.stuckOn.get l = false) :
    Tripped (.stuckOn l) s (s.latchStuck l) ∧ (s.latchStuck l).dru.ems = false := by
  have eq : s.latchStuck l = _ := if_neg (by rw [clear]; nofun)
  rw [eq]
  exact ⟨trip s ⟨fun _ h => h, fun _ h => h⟩ rfl, (requestLockout_low _).2 rfl⟩

end

/-! ## What a rule that trips leaves of the operating state and the masters -/

/-- A rule that may latch members of `group` and lower `low` with it (R128, R134, R178). -/
structure Guarded (group : FaultId → Prop) (low : Dru → Bool) (s t : State) : Prop where
  judged : Judged s t
  quiet : (∀ i, group i → t.stc.faults.get i = s.stc.faults.get i) →
    t.stc.op = s.stc.op ∧ t.dru.gms = s.dru.gms ∧ t.dru.ems = s.dru.ems
  trips : ∀ i, group i → s.stc.faults.get i = false → t.stc.faults.get i = true →
    low t.dru = false ∧ (s.stc.op ≠ .selftest → t.stc.op = .lockout)
  stays : low s.dru = false → low t.dru = false

section
variable {group : FaultId → Prop} {low : Dru → Bool} {s t u : State}

theorem Guarded.refl (s : State) : Guarded group low s s :=
  ⟨Judged.refl s, fun _ => ⟨rfl, rfl, rfl⟩, fun _ _ clear latched => absurd (clear.symm.trans latched) nofun, fun h => h⟩

theorem Judged.lockout (h : Judged s t) (lock : s.stc.op = .lockout) : t.stc.op = .lockout := by
  obtain ⟨op, -⟩ | ⟨op, -⟩ := h.ops
  · rw [op, lock]
  · exact op

theorem Judged.busy (h : Judged s t) (busy : s.stc.op ≠ .selftest) : t.stc.op ≠ .selftest := by
  obtain ⟨op, -⟩ | ⟨op, -⟩ := h.ops <;> rw [op]
  · exact busy
  · nofun

theorem Guarded.trans (h : Guarded group low s t) (k : Guarded group low t u) : Guarded group low s u := by
  refine ⟨h.judged.trans k.judged, fun same => ?_, fun i member clear latched => ?_, fun lowered => k.stays (h.stays lowered)⟩
  · have first : ∀ i, group i → t.stc.faults.get i = s.stc.faults.get i := fun i member => by
      cases was : s.stc.faults.get i with
      | true => exact h.judged.faults i was
      | false =>
        cases now : t.stc.faults.get i with
        | false => rfl
        | true =>
          have := (same i member).symm.trans (k.judged.faults i now)
          rw [was] at this
          cases this
    obtain ⟨op, gms, ems⟩ := h.quiet first
    obtain ⟨op', gms', ems'⟩ := k.quiet fun i member => (same i member).trans (first i member).symm
    exact ⟨op'.trans op, gms'.trans gms, ems'.trans ems⟩
  · cases now : t.stc.faults.get i with
    | true =>
      obtain ⟨lowered, lock⟩ := h.trips i member clear now
      exact ⟨k.stays lowered, fun busy => k.judged.lockout (lock busy)⟩
    | false =>
      obtain ⟨lowered, lock⟩ := k.trips i member now latched
      exact ⟨lowered, fun busy => lock (h.judged.busy busy)⟩

theorem Tripped.guarded {i : FaultId} (h : Tripped i s t) (member : group i) (clear : s.stc.faults.get i = false)
    (lowered : low t.dru = false) : Guarded group low s t := by
  refine ⟨h.judged, fun same => ?_, fun _ _ _ _ => ⟨lowered, h.op⟩, fun _ => lowered⟩
  have latched := same i member
  rw [h.faults i, clear, decide_eq_true rfl] at latched
  cases latched

end

end Sys2Proof.Machine

/-! # SLICE_MIDDLE_SAMPLE: its rules one by one (R125 to R130) -/

namespace Sys2Proof.Machine

/-! ## The conformity groups (R126, R127) -/

section
variable (s : State) (t : Sample)

/-- The lowest masked relay line that mismatches (R126). -/
def State.relayFound (s : State) (t : Sample) : Option Load := Load.all.find? fun l => s.dru.relay.mask.get l && t.relayOff l

/-- The lowest masked valve line that mismatches (R126). -/
def State.valveFound (s : State) (t : Sample) : Option Gas :=
  Gas.all.find? fun z => s.dru.valve.mask.get z && t.valveOff (s.ptc.gas.get z) (s.dru.grace.get z) z

theorem evalRelay_dru : (s.evalRelay t).dru = { s.dru with relay := { s.dru.relay with
    mismatch := (s.relayFound t).isSome
    recorded := if s.dru.relay.mismatch then s.dru.relay.recorded else (s.relayFound t).or s.dru.relay.recorded } } := by
  unfold State.evalRelay State.relayFound
  split
  · next none =>
    rw [none]
    cases s.dru.relay.mismatch <;> rfl
  · next l found =>
    rw [found]
    cases mismatch : s.dru.relay.mismatch with
    | false => rfl
    | true =>
      rw [if_pos rfl, if_pos rfl, Option.isSome_some, ← mismatch]

theorem evalValve_dru : (s.evalValve t).dru = { s.dru with valve := { s.dru.valve with
    mismatch := (s.valveFound t).isSome
    recorded := if s.dru.valve.mismatch then s.dru.valve.recorded else (s.valveFound t).or s.dru.valve.recorded } } := by
  unfold State.evalValve State.valveFound
  split
  · next none =>
    rw [none]
    cases s.dru.valve.mismatch <;> rfl
  · next z found =>
    rw [found]
    cases mismatch : s.dru.valve.mismatch with
    | false => rfl
    | true =>
      rw [if_pos rfl, if_pos rfl, Option.isSome_some, ← mismatch]

theorem evalRelay_judged : Judged s (s.evalRelay t) ∧ (s.evalRelay t).stc = s.stc ∧ (s.evalRelay t).ptc = s.ptc := by
  unfold State.evalRelay
  split
  · exact ⟨setDru_judged s _, rfl, rfl⟩
  · split
    · exact ⟨Judged.refl s, rfl, rfl⟩
    · exact ⟨(setDru_judged s _).trans (postTo_judged _ _ _), rfl, rfl⟩

theorem evalValve_judged : Judged s (s.evalValve t) ∧ (s.evalValve t).stc = s.stc ∧ (s.evalValve t).ptc = s.ptc := by
  unfold State.evalValve
  split
  · exact ⟨setDru_judged s _, rfl, rfl⟩
  · split
    · exact ⟨Judged.refl s, rfl, rfl⟩
    · exact ⟨(setDru_judged s _).trans (postTo_judged _ _ _), rfl, rfl⟩

theorem evalRelay_told {l : Load} (found : s.relayFound t = some l) (entry : s.dru.relay.mismatch = false) :
    ((s.evalRelay t).ports.get .supervisor).posted.get .feedback = true := by
  unfold State.relayFound at found
  simp [State.evalRelay, found, entry, State.postTo_posted]

theorem evalValve_told {z : Gas} (found : s.valveFound t = some z) (entry : s.dru.valve.mismatch = false) {q : Port}
    (audience : s.pointAudience z.point q = true) : ((s.evalValve t).ports.get q).posted.get .feedback = true := by
  unfold State.valveFound at found
  simp [State.evalValve, found, entry, State.postTo_posted, audience]

end

/-! ## The valve rule (R128) -/

/-- A VALVE member. -/
def FaultId.isValve : FaultId → Prop
  | .valve _ => True
  | _ => False

section
variable (s : State) (t : Sample) (z : Gas)

/-- Whether the rule of R128 finds a gas point's valve open. -/
def Sample.opens (t : Sample) (s : State) (z : Gas) : Bool := s.dru.grace.get z = .over && t.opened.get z

/-- The rule of R128 on some gas points. -/
structure ValveRuled (s u : State) : Prop where
  guarded : Guarded FaultId.isValve Dru.gms s u
  drive : DriveKept s u
  others : ∀ i, ¬ i.isValve → u.stc.faults.get i = s.stc.faults.get i

theorem ValveRuled.refl (s : State) : ValveRuled s s := ⟨Guarded.refl s, rfl, fun _ _ => rfl⟩

theorem ValveRuled.trans {s u v : State} (h : ValveRuled s u) (k : ValveRuled u v) : ValveRuled s v := by
  refine ⟨h.guarded.trans k.guarded, ?_, fun i other => (k.others i other).trans (h.others i other)⟩
  have a := h.drive
  have b := k.drive
  unfold DriveKept at *
  rw [b, a]

theorem valveRule_ruled : ValveRuled s (s.valveRule t z) := by
  unfold State.valveRule
  split
  · cases latched : s.stc.faults.valve.get z with
    | true =>
      have same : s.latchValve z = s := if_pos latched
      rw [same]
      exact ValveRuled.refl s
    | false =>
      obtain ⟨tripped, low⟩ := latchValve_trips s latched
      refine ⟨tripped.guarded (i := .valve z) trivial latched low, tripped.drive, fun i other => ?_⟩
      have apart : i ≠ .valve z := fun is => other (is ▸ trivial)
      rw [tripped.faults i, decide_eq_false apart, Bool.or_false]
  · exact ValveRuled.refl s

theorem valveRule_flag (y : Gas) : (s.valveRule t z).stc.faults.valve.get y =
    (s.stc.faults.valve.get y || (decide (y = z) && t.opens s z)) := by
  unfold State.valveRule Sample.opens
  split
  · next found =>
    obtain ⟨over_, opened⟩ := found
    rw [decide_eq_true over_, opened, Bool.and_self, Bool.and_true]
    cases latched : s.stc.faults.valve.get z with
    | true =>
      have same : s.latchValve z = s := if_pos latched
      rw [same]
      by_cases is : y = z
      · rw [is, latched]; rfl
      · rw [decide_eq_false is, Bool.or_false]
    | false =>
      refine ((latchValve_trips s latched).1.faults (.valve y)).trans ?_
      simp [Faults.get]
  · next found =>
    have none : (decide (s.dru.grace.get z = .over) && t.opened.get z) = false := by simpa using found
    rw [none, Bool.and_false, Bool.or_false]

end

end Sys2Proof.Machine

/-! # SLICE_MIDDLE_SAMPLE: the runs, the burners and the whole sample (R125 to R130) -/

namespace Sys2Proof.Machine

section
variable (s : State) (t : Sample)

theorem valveRules_ruled : ValveRuled s (Gas.all.foldl (State.valveRule t) s) :=
  foldl_keeps ValveRuled ValveRuled.refl ValveRuled.trans (fun u z => valveRule_ruled u t z) Gas.all s

theorem valveRules_flag (z : Gas) : (Gas.all.foldl (State.valveRule t) s).stc.faults.valve.get z =
    (s.stc.faults.valve.get z || t.opens s z) := by
  refine foldl_gas (fun u y => u.stc.faults.valve.get y) (fun u y => u.stc.faults.valve.get y || t.opens u y) (fun u x => ?_)
    (fun u x y other => ?_) (fun u x y other => ?_) s z
  · rw [valveRule_flag, decide_eq_true rfl, Bool.true_and]
  · rw [valveRule_flag, decide_eq_false other, Bool.false_and, Bool.or_false]
  · have grace : (u.valveRule t x).dru.grace = u.dru.grace := by rw [(valveRule_ruled u t x).drive]
    unfold Sample.opens
    rw [valveRule_flag, decide_eq_false other, Bool.false_and, Bool.or_false, grace]

/-! ## The unexpected-open runs (R129, log 25) -/

/-- The unexpected-open run that a sample gives a gas point, before a latching empties it. -/
def Sample.runOf (t : Sample) (s : State) (z : Gas) : Nat :=
  nextRun (s.dru.atSlice.openRun.get z) (t.unexpectedOpen (s.ptc.gas.get z) z)

/-- Whether the rule of R129 latches VALVE_UNEXPECTED for a gas point. -/
def Sample.trips (t : Sample) (s : State) (z : Gas) : Bool :=
  !s.dru.runSpent.get z && (decide (t.runOf s z = 6) && !s.stc.faults.valveUnexpected.get z)

/-- The run that the rule of R129 leaves a gas point. -/
def Sample.runAfter (t : Sample) (s : State) (z : Gas) : Nat := if s.dru.runSpent.get z || t.trips s z then 0 else t.runOf s z

/-- The rule of R129 on one gas point. -/
structure RunRuled (t : Sample) (z : Gas) (s u : State) : Prop where
  judged : Judged s u
  dru : u.dru = { s.dru with
    withdrawLoads := u.dru.withdrawLoads, withdrawGas := u.dru.withdrawGas
    counts := { s.dru.counts with openRun := s.dru.counts.openRun.set z (t.runAfter s z) }
    runSpent := if t.trips s z then s.dru.runSpent.set z true else s.dru.runSpent }
  faults : ∀ i, u.stc.faults.get i = (s.stc.faults.get i || (decide (i = .valveUnexpected z) && t.trips s z))
  members : ∀ y, u.ptc.attribution.valveUnexpected.get y =
    (s.ptc.attribution.valveUnexpected.get y || (decide (y = z) && t.trips s z))
  op : u.stc.op = s.stc.op

theorem unexpectedRule_quiet {z : Gas} (quiet : t.trips s z = false) : s.unexpectedRule t z = s.setRun z (t.runAfter s z) := by
  unfold Sample.runAfter
  rw [quiet, Bool.or_false]
  unfold State.unexpectedRule
  dsimp only
  unfold Sample.trips at quiet
  cases spent : s.dru.runSpent.get z with
  | true => rfl
  | false =>
    rw [spent] at quiet
    rw [if_neg Bool.false_ne_true, if_neg Bool.false_ne_true]
    refine if_neg fun ⟨six, clear⟩ => ?_
    rw [show decide (t.runOf s z = 6) = true from decide_eq_true six, clear] at quiet
    cases quiet

theorem unexpectedRule_latches {z : Gas} (latches : t.trips s z = true) : s.unexpectedRule t z = s.latchUnexpected z := by
  obtain ⟨spent, six, clear⟩ : s.dru.runSpent.get z = false ∧ t.runOf s z = 6 ∧ s.stc.faults.valveUnexpected.get z = false := by
    simpa [Sample.trips] using latches
  unfold State.unexpectedRule
  dsimp only
  rw [if_neg (by rw [spent]; nofun)]
  exact if_pos ⟨six, clear⟩

theorem unexpectedRule_ruled (z : Gas) : RunRuled t z s (s.unexpectedRule t z) := by
  cases latches : t.trips s z with
  | false =>
    rw [unexpectedRule_quiet s t latches]
    refine ⟨setDru_judged s _, ?_, fun i => ?_, fun y => ?_, rfl⟩
    · rw [latches]
      rfl
    · rw [latches, Bool.and_false, Bool.or_false]
      rfl
    · rw [latches, Bool.and_false, Bool.or_false]
      rfl
  | true =>
    rw [unexpectedRule_latches s t latches]
    have run : t.runAfter s z = 0 := by
      unfold Sample.runAfter
      rw [latches, Bool.or_true]
      rfl
    let a : Attribution := { s.ptc.attribution with valveUnexpected := s.ptc.attribution.valveUnexpected.set z true }
    have grows : ∀ y, s.ptc.attribution.valveUnexpected.get y = true → a.valveUnexpected.get y = true := fun y was => by
      change (s.ptc.attribution.valveUnexpected.set z true).get y = true
      rw [PerGas.get_set, was]
      split <;> rfl
    have sets := (latch_judged s (.valveUnexpected z)).trans
      (setAttribution_judged (s.latch (.valveUnexpected z)) a (by rw [State.latch_ptc]; exact ⟨fun _ h => h, grows⟩))
    have drive := setAttribution_drive (s.latch (.valveUnexpected z)) a
    have attribution := State.setAttribution_attribution (s.latch (.valveUnexpected z)) a
    obtain ⟨stc, -⟩ := setAttribution_frame (s.latch (.valveUnexpected z)) a
    have eq : s.latchUnexpected z = (((s.latch (.valveUnexpected z)).setAttribution a).setRun z 0).setDru
      { (((s.latch (.valveUnexpected z)).setAttribution a).setRun z 0).dru with
        runSpent := (((s.latch (.valveUnexpected z)).setAttribution a).setRun z 0).dru.runSpent.set z true } := rfl
    rw [State.latch_dru] at drive
    generalize (s.latch (.valveUnexpected z)).setAttribution a = v at *
    rw [eq]
    refine ⟨(sets.trans (setDru_judged v _)).trans (setDru_judged _ _), ?_, fun i => ?_, fun y => ?_, ?_⟩
    · rw [latches, run]
      change { { v.dru with counts := { v.dru.counts with openRun := v.dru.counts.openRun.set z 0 } } with
        runSpent := v.dru.runSpent.set z true } = _
      rw [drive]
      rfl
    · change v.stc.faults.get i = _
      rw [stc, State.latch_get, latches, Bool.and_true]
    · change v.ptc.attribution.valveUnexpected.get y = _
      rw [attribution, latches, Bool.and_true]
      change (s.ptc.attribution.valveUnexpected.set z true).get y = _
      rw [PerGas.get_set]
      by_cases is : y = z <;> simp [is]
    · change v.stc.op = _
      rw [stc, State.latch_op]

/-! ## The burners (R130) -/

theorem burnerRule_judged (z : Gas) : Judged s (s.burnerRule t z) ∧ (s.burnerRule t z).stc = s.stc ∧
    (s.burnerRule t z).dru = { s.dru with burnerOut := s.dru.burnerOut.set z (t.burnerOut (s.ptc.gas.get z) z) } := by
  unfold State.burnerRule
  dsimp only
  split
  · exact ⟨(setDru_judged s _).trans (postTo_judged _ _ _), rfl, rfl⟩
  · exact ⟨setDru_judged s _, rfl, rfl⟩

end

end Sys2Proof.Machine

/-! # SLICE_MIDDLE_SAMPLE: the whole sample, and O46 (R125 to R130) -/

namespace Sys2Proof.Machine

/-! ## The runs of all gas points -/

/-- The rule of R129 on some gas points. -/
structure RunsRuled (s u : State) : Prop where
  judged : Judged s u
  dru : u.dru = { s.dru with
    withdrawLoads := u.dru.withdrawLoads, withdrawGas := u.dru.withdrawGas
    counts := { s.dru.counts with openRun := u.dru.counts.openRun }, runSpent := u.dru.runSpent }
  others : ∀ i, (∀ z, i ≠ .valveUnexpected z) → u.stc.faults.get i = s.stc.faults.get i
  op : u.stc.op = s.stc.op

theorem RunsRuled.refl (s : State) : RunsRuled s s := ⟨Judged.refl s, rfl, fun _ _ => rfl, rfl⟩

theorem RunsRuled.trans {s u v : State} (h : RunsRuled s u) (k : RunsRuled u v) : RunsRuled s v := by
  refine ⟨h.judged.trans k.judged, ?_, fun i other => (k.others i other).trans (h.others i other), k.op.trans h.op⟩
  rw [k.dru, h.dru]

theorem RunRuled.runs {t : Sample} {z : Gas} {s u : State} (h : RunRuled t z s u) : RunsRuled s u := by
  refine ⟨h.judged, ?_, fun i other => ?_, h.op⟩
  · rw [h.dru]
  · rw [h.faults i, decide_eq_false (other z), Bool.false_and, Bool.or_false]

section
variable (s : State) (t : Sample)

/-- What the rule of R129 makes of one gas point, it reads of no other. -/
theorem RunRuled.apart {t : Sample} {z y : Gas} {s u : State} (h : RunRuled t z s u) (other : y ≠ z) :
    t.trips u y = t.trips s y ∧ t.runAfter u y = t.runAfter s y ∧
      u.stc.faults.valveUnexpected.get y = s.stc.faults.valveUnexpected.get y := by
  have gas : u.ptc.gas = s.ptc.gas := by rw [h.judged.points]
  have slice : u.dru.atSlice = s.dru.atSlice := by rw [h.dru]
  have spent : u.dru.runSpent.get y = s.dru.runSpent.get y := by
    rw [h.dru]
    dsimp only
    split
    · exact PerGas.get_set_ne _ _ other
    · rfl
  have flag : u.stc.faults.valveUnexpected.get y = s.stc.faults.valveUnexpected.get y := by
    refine (h.faults (.valveUnexpected y)).trans ?_
    rw [decide_eq_false (by simpa using other), Bool.false_and, Bool.or_false]
    rfl
  have trips : t.trips u y = t.trips s y := by
    unfold Sample.trips Sample.runOf
    rw [gas, slice, spent, flag]
  refine ⟨trips, ?_, flag⟩
  unfold Sample.runAfter
  rw [trips]
  unfold Sample.runOf
  rw [gas, slice, spent]

/-- What the rule of R129 leaves of all gas points. -/
theorem unexpectedRules : RunsRuled s (Gas.all.foldl (State.unexpectedRule t) s) ∧ ∀ z,
    (Gas.all.foldl (State.unexpectedRule t) s).dru.counts.openRun.get z = t.runAfter s z ∧
    (Gas.all.foldl (State.unexpectedRule t) s).stc.faults.valveUnexpected.get z =
      (s.stc.faults.valveUnexpected.get z || t.trips s z) ∧
    (Gas.all.foldl (State.unexpectedRule t) s).ptc.attribution.valveUnexpected.get z =
      (s.ptc.attribution.valveUnexpected.get z || t.trips s z) := by
  have ruled := fun u z => unexpectedRule_ruled u t z
  refine ⟨foldl_keeps RunsRuled RunsRuled.refl RunsRuled.trans (fun u z => (ruled u z).runs) Gas.all s, fun z => ⟨?_, ?_, ?_⟩⟩
  · refine foldl_gas (fun u y => u.dru.counts.openRun.get y) (fun u y => t.runAfter u y) (fun u x => ?_) (fun u x y other => ?_)
      (fun u x y other => ((ruled u x).apart other).2.1) s z
    · rw [(ruled u x).dru]
      exact PerGas.get_set_self _ _ _
    · rw [(ruled u x).dru]
      exact PerGas.get_set_ne _ _ other
  · refine foldl_gas (fun u y => u.stc.faults.valveUnexpected.get y) (fun u y => u.stc.faults.valveUnexpected.get y || t.trips u y)
      (fun u x => ?_) (fun u x y other => ((ruled u x).apart other).2.2) (fun u x y other => ?_) s z
    · refine ((ruled u x).faults (.valveUnexpected x)).trans ?_
      rw [decide_eq_true rfl, Bool.true_and]
      rfl
    · obtain ⟨trips, -, flag⟩ := (ruled u x).apart other
      rw [trips, flag]
  · have apart : ∀ (u : State) (x y : Gas), y ≠ x → (u.unexpectedRule t x).ptc.attribution.valveUnexpected.get y =
        u.ptc.attribution.valveUnexpected.get y := fun u x y other => by
      rw [(ruled u x).members y, decide_eq_false other, Bool.false_and, Bool.or_false]
    refine foldl_gas (fun u y => u.ptc.attribution.valveUnexpected.get y)
      (fun u y => u.ptc.attribution.valveUnexpected.get y || t.trips u y) (fun u x => ?_) apart (fun u x y other => ?_) s z
    · rw [(ruled u x).members x, decide_eq_true rfl, Bool.true_and]
    · rw [((ruled u x).apart other).1, apart u x y other]

/-- What the rule of R130 leaves of all gas points. -/
theorem burnerRules : Judged s (Gas.all.foldl (State.burnerRule t) s) ∧ (Gas.all.foldl (State.burnerRule t) s).stc = s.stc ∧
    (Gas.all.foldl (State.burnerRule t) s).dru = { s.dru with burnerOut := .of fun z => t.burnerOut (s.ptc.gas.get z) z } := by
  have ruled := fun u z => burnerRule_judged u t z
  have gas : ∀ (u : State) (x : Gas), (u.burnerRule t x).ptc.gas = u.ptc.gas := fun u x => by rw [(ruled u x).1.points]
  have frame : Judged s (Gas.all.foldl (State.burnerRule t) s) :=
    foldl_keeps Judged Judged.refl Judged.trans (fun u z => (ruled u z).1) Gas.all s
  have stc : (Gas.all.foldl (State.burnerRule t) s).stc = s.stc :=
    foldl_keeps (fun u v => v.stc = u.stc) (fun _ => rfl) (fun h k => k.trans h) (fun u z => (ruled u z).2.1) Gas.all s
  have dru : (Gas.all.foldl (State.burnerRule t) s).dru =
      { s.dru with burnerOut := (Gas.all.foldl (State.burnerRule t) s).dru.burnerOut } :=
    foldl_keeps (fun u v => v.dru = { u.dru with burnerOut := v.dru.burnerOut }) (fun _ => rfl)
      (fun h k => by rw [k, h]) (fun u z => by rw [(ruled u z).2.2]) Gas.all s
  refine ⟨frame, stc, ?_⟩
  rw [dru]
  have each : ∀ z, (Gas.all.foldl (State.burnerRule t) s).dru.burnerOut.get z = t.burnerOut (s.ptc.gas.get z) z := fun z => by
    refine foldl_gas (fun u y => u.dru.burnerOut.get y) (fun u y => t.burnerOut (u.ptc.gas.get y) y) (fun u x => ?_)
      (fun u x y other => ?_) (fun u x y _ => by rw [gas]) s z
    · rw [(ruled u x).2.2]
      exact PerGas.get_set_self _ _ _
    · rw [(ruled u x).2.2]
      exact PerGas.get_set_ne _ _ other
  have all : (Gas.all.foldl (State.burnerRule t) s).dru.burnerOut = .of fun z => t.burnerOut (s.ptc.gas.get z) z :=
    PerGas.eq_of_get fun z => by rw [each z, PerGas.get_of]
  rw [all]

/-! ## The whole sample -/

/-- The sample recorded and counted, before the groups and the valve rules. -/
def State.sampled (s : State) (t : Sample) : State :=
  s.setDru { s.dru with lastSample := some t, sampled := true, counts := s.sampleCounts t }

/-- What a sample leaves (R125 to R130). -/
structure SampleTaken (s : State) (t : Sample) (e : State) : Prop where
  judged : Judged s e
  dru : e.dru = { s.dru with
    withdrawLoads := e.dru.withdrawLoads, withdrawGas := e.dru.withdrawGas, gms := e.dru.gms, ems := e.dru.ems
    test := { s.dru.test with status := e.dru.test.status }
    lastSample := some t, sampled := true
    counts := { s.sampleCounts t with openRun := e.dru.counts.openRun }, runSpent := e.dru.runSpent
    relay := { s.dru.relay with
      mismatch := (s.relayFound t).isSome
      recorded := if s.dru.relay.mismatch then s.dru.relay.recorded else (s.relayFound t).or s.dru.relay.recorded }
    valve := { s.dru.valve with
      mismatch := (s.valveFound t).isSome
      recorded := if s.dru.valve.mismatch then s.dru.valve.recorded else (s.valveFound t).or s.dru.valve.recorded }
    burnerOut := .of fun z => t.burnerOut (s.ptc.gas.get z) z }
  relayTold : ∀ l, s.relayFound t = some l → s.dru.relay.mismatch = false → (e.ports.get .supervisor).posted.get .feedback = true
  valveTold : ∀ z, s.valveFound t = some z → s.dru.valve.mismatch = false → ∀ q, s.pointAudience z.point q = true →
    (e.ports.get q).posted.get .feedback = true
  valve : ∀ z, e.stc.faults.valve.get z = (s.stc.faults.valve.get z || t.opens s z)
  quiet : e.stc.faults.valve = s.stc.faults.valve → e.stc.op = s.stc.op ∧ e.dru.gms = s.dru.gms ∧ e.dru.ems = s.dru.ems
  trips : s.stc.op ≠ .selftest → e.stc.faults.valve ≠ s.stc.faults.valve → e.stc.op = .lockout ∧ e.dru.gms = false
  run : ∀ z, e.dru.counts.openRun.get z = t.runAfter s z
  unexpected : ∀ z, e.stc.faults.valveUnexpected.get z = (s.stc.faults.valveUnexpected.get z || t.trips s z)
  members : ∀ z, t.trips s z = true → e.ptc.attribution.valveUnexpected.get z = true

theorem takeSample_taken : SampleTaken s t (s.takeSample t) := by
  have eq : s.takeSample t = Gas.all.foldl (State.burnerRule t) (Gas.all.foldl (State.unexpectedRule t)
      (Gas.all.foldl (State.valveRule t) (((s.sampled t).evalRelay t).evalValve t))) := rfl
  obtain ⟨relayJudged, relayStc, relayPtc⟩ := evalRelay_judged (s.sampled t) t
  have relayDru := evalRelay_dru (s.sampled t) t
  have relayTold := fun l => evalRelay_told (s.sampled t) t (l := l)
  rw [eq]
  generalize (s.sampled t).evalRelay t = a at *
  obtain ⟨valveJudged, valveStc, valvePtc⟩ := evalValve_judged a t
  have valveDru := evalValve_dru a t
  have valveTold := fun z => evalValve_told a t (z := z)
  have aDru : a.dru = { (s.sampled t).dru with relay := a.dru.relay } := by rw [relayDru]
  have aPtc : a.ptc = s.ptc := relayPtc
  have aStc : a.stc = s.stc := relayStc
  have valveFound : a.valveFound t = s.valveFound t := by
    unfold State.valveFound
    rw [aPtc, aDru]
    rfl
  rw [valveFound] at valveDru
  simp only [valveFound] at valveTold
  generalize a.evalValve t = b at *
  have bStc : b.stc = s.stc := valveStc.trans aStc
  have bPtc : b.ptc = s.ptc := valvePtc.trans aPtc
  have first : Judged s b := (setDru_judged s _).trans (relayJudged.trans valveJudged)
  have bDru : b.dru = { s.dru with
      lastSample := some t, sampled := true, counts := s.sampleCounts t, relay := b.dru.relay, valve := b.dru.valve } := by
    rw [valveDru, aDru]
    rfl
  have bRelay : b.dru.relay = a.dru.relay := by rw [valveDru]
  have bMasters : b.dru.gms = s.dru.gms ∧ b.dru.ems = s.dru.ems := by rw [bDru]; exact ⟨rfl, rfl⟩
  obtain ⟨guarded, cDrive, others⟩ := valveRules_ruled b t
  have flag := valveRules_flag b t
  generalize Gas.all.foldl (State.valveRule t) b = c at *
  have opens : ∀ z, t.opens b z = t.opens s z := fun z => by
    unfold Sample.opens
    rw [bDru]
  have cGas : c.ptc.gas = s.ptc.gas := by rw [guarded.judged.points, bPtc]
  have cFlag : ∀ z, c.stc.faults.valveUnexpected.get z = s.stc.faults.valveUnexpected.get z := fun z => by
    rw [← bStc]
    exact others (.valveUnexpected z) nofun
  have cSpent : c.dru.runSpent = s.dru.runSpent := by rw [cDrive, bDru]
  have cSlice : c.dru.atSlice = s.dru.atSlice := by rw [cDrive, bDru]
  have trips : ∀ z, t.trips c z = t.trips s z := fun z => by
    unfold Sample.trips Sample.runOf
    rw [cGas, cFlag, cSpent, cSlice]
  have runAfter : ∀ z, t.runAfter c z = t.runAfter s z := fun z => by
    unfold Sample.runAfter
    rw [trips, cSpent]
    unfold Sample.runOf
    rw [cGas, cSlice]
  obtain ⟨⟨dJudged, dDru, dOthers, dOp⟩, dEach⟩ := unexpectedRules c t
  generalize Gas.all.foldl (State.unexpectedRule t) c = d at *
  have dGas : d.ptc.gas = s.ptc.gas := by rw [dJudged.points, cGas]
  obtain ⟨eJudged, eStc, eDru⟩ := burnerRules d t
  generalize Gas.all.foldl (State.burnerRule t) d = e at *
  have last : Judged b e := (guarded.judged.trans dJudged).trans eJudged
  have valves : ∀ i : FaultId, i.isValve → e.stc.faults.get i = c.stc.faults.get i := fun i valve => by
    rw [eStc]
    exact dOthers i fun z is => by rw [is] at valve; exact valve
  have masters : e.dru.gms = c.dru.gms ∧ e.dru.ems = c.dru.ems := by rw [eDru, dDru]; exact ⟨rfl, rfl⟩
  have op : e.stc.op = c.stc.op := by rw [eStc, dOp]
  refine ⟨first.trans last, ?_, fun l found entry => last.posts _ _ (valveJudged.posts _ _ (relayTold l found entry)),
    fun z found entry q audience => last.posts _ _ (valveTold z found ?_ ?_), fun z => ?_, fun same => ?_, fun busy changed => ?_,
    fun z => ?_, fun z => ?_, fun z latches => ?_⟩
  · have bValve : b.dru.valve = { s.dru.valve with
        mismatch := (s.valveFound t).isSome
        recorded := if s.dru.valve.mismatch then s.dru.valve.recorded else (s.valveFound t).or s.dru.valve.recorded } := by
      rw [valveDru, aDru]
      rfl
    unfold DriveKept at cDrive
    rw [eDru, dDru, cDrive, bDru, bRelay, relayDru, bValve, dGas]
    rfl
  · rw [aDru]
    exact entry
  · unfold State.pointAudience at audience ⊢
    rw [aPtc]
    exact audience
  · rw [← opens, ← bStc]
    exact (valves (.valve z) trivial).trans (flag z)
  · rw [← bStc] at same
    obtain ⟨opC, gms, ems⟩ := guarded.quiet fun i valve => by
      rw [← valves i valve]
      cases i with
      | valve z => exact congrArg (fun f => f.get z) same
      | _ => exact absurd valve id
    rw [op, opC, bStc, masters.1, masters.2, gms, ems]
    exact ⟨rfl, bMasters⟩
  · obtain ⟨z, latched⟩ : ∃ z, e.stc.faults.valve.get z ≠ b.stc.faults.valve.get z := by
      by_contra none
      simp only [not_exists, not_not] at none
      exact changed ((PerGas.eq_of_get none).trans (by rw [bStc]))
    have valve : e.stc.faults.valve.get z = c.stc.faults.valve.get z := valves (.valve z) trivial
    rw [valve] at latched
    have clear : b.stc.faults.valve.get z = false := by
      cases was : b.stc.faults.valve.get z with
      | false => rfl
      | true =>
        rw [was, flag z, was] at latched
        exact absurd rfl latched
    rw [clear] at latched
    obtain ⟨low, lock⟩ := guarded.trips (.valve z) trivial clear (Bool.not_eq_false _ ▸ latched)
    rw [op, masters.1]
    exact ⟨lock (by rw [bStc]; exact busy), low⟩
  · rw [eDru]
    exact (dEach z).1.trans (runAfter z)
  · rw [eStc, (dEach z).2.1, cFlag, trips]
  · refine eJudged.members.2 z ?_
    rw [(dEach z).2.2, trips, latches, Bool.or_true]

end

end Sys2Proof.Machine

/-! # O46 (R125 to R130) -/

namespace Sys2Proof.Machine

section
variable (s : State) (closed : PerLoad Bool) (opened : PerGas Bool)

/-- Whether a masked valve line of a sample is off its expected value (R126). -/
abbrev State.valveLineOff (s : State) (opened : PerGas Bool) (z : Gas) : Prop :=
  s.dru.valve.mask.get z = true ∧
    if s.dru.gp.get z then opened.get z ≠ s.ptc.gas.get z else s.dru.grace.get z = .over ∧ opened.get z = true

theorem valveLineOff_iff (z : Gas) : s.valveLineOff opened z ↔ (s.dru.valve.mask.get z &&
    (s.sampleOf closed opened).valveOff (s.ptc.gas.get z) (s.dru.grace.get z) z) = true := by
  unfold Sample.valveOff State.sampleOf
  rw [Bool.and_eq_true]
  refine and_congr_right fun _ => ?_
  dsimp only
  split <;> simp

theorem valveFound_isSome : (s.valveFound (s.sampleOf closed opened)).isSome = true ↔ ∃ z, s.valveLineOff opened z := by
  unfold State.valveFound
  rw [List.find?_isSome]
  exact ⟨fun ⟨z, _, off⟩ => ⟨z, (valveLineOff_iff s closed opened z).2 off⟩,
    fun ⟨z, off⟩ => ⟨z, Gas.mem_all z, (valveLineOff_iff s closed opened z).1 off⟩⟩

theorem relayFound_isSome : (s.relayFound (s.sampleOf closed opened)).isSome = true ↔
    ∃ l, s.dru.relay.mask.get l = true ∧ closed.get l ≠ s.dru.en.get l := by
  unfold State.relayFound Sample.relayOff State.sampleOf
  rw [List.find?_isSome]
  simp [Load.mem_all]

/-- The lowest valve line that is off is the one found. -/
theorem valveFound_lowest {z : Gas} (off : s.valveLineOff opened z) (lower : ∀ y, y.index < z.index → ¬ s.valveLineOff opened y) :
    s.valveFound (s.sampleOf closed opened) = some z := by
  unfold State.valveFound
  rw [List.find?_eq_some_iff_append]
  refine ⟨(valveLineOff_iff s closed opened z).1 off, Gas.all.take z.index, Gas.all.drop (z.index + 1), by cases z <;> rfl,
    fun y member => ?_⟩
  have before : y.index < z.index := by
    revert member
    cases z <;> cases y <;> decide
  have on := mt (valveLineOff_iff s closed opened y).2 (lower y before)
  rw [Bool.not_eq_true] at on
  rw [on]
  rfl

end

/-- A run of less than 6 after a sample that shows the condition. -/
theorem nextRun_low {n : Nat} (low : n < 5) : nextRun n true = n + 1 := by
  unfold nextRun
  rw [if_pos rfl]
  omega

theorem nextRun_high {n : Nat} (high : ¬ n < 5) : nextRun n true = 6 := by
  unfold nextRun
  rw [if_pos rfl]
  omega

section
variable {s : State} {closed : PerLoad Bool} {opened : PerGas Bool} {z : Gas}

/-- Whether a gas point shows the condition of R129. -/
theorem runOf_found (line : s.dru.gp.get z = true) (off : s.ptc.gas.get z = false) (open_ : opened.get z = true) :
    (s.sampleOf closed opened).runOf s z = nextRun (s.dru.atSlice.openRun.get z) true := by
  unfold Sample.runOf Sample.unexpectedOpen State.sampleOf
  dsimp only
  rw [line, off, open_]
  rfl

theorem runOf_none (none : s.dru.gp.get z = false ∨ s.ptc.gas.get z = true ∨ opened.get z = false) :
    (s.sampleOf closed opened).runOf s z = 0 := by
  have found : (s.sampleOf closed opened).unexpectedOpen (s.ptc.gas.get z) z = false := by
    unfold Sample.unexpectedOpen State.sampleOf
    obtain h | h | h := none <;> simp [h]
  unfold Sample.runOf
  rw [found]
  rfl

end

/-- A bar is in progress exactly while a drive test that has begun has bars left (R136). -/
theorem testLoad_isSome (d : DriveTest) : d.load.isSome = true ↔ d.status = .running ∧ d.begun = true ∧ d.left ≠ [] := by
  unfold DriveTest.load
  split
  · next runs =>
    cases left : d.left with
    | nil => simp
    | cons b bs => simp [runs.1, runs.2]
  · next still =>
    refine iff_of_false nofun fun ⟨status, begun, _⟩ => still ⟨status, begun⟩

/-- Settles O46. -/
theorem samplesAreJudged : Obligations.SamplesAreJudged := by
  intro closed opened s
  refine ⟨fun busy => ?_, fun lines => ?_⟩
  · obtain ⟨t, ran, done⟩ := event_closed (i := .sliceMiddleSample closed opened) rfl nofun s
    have effect : s.effect (.sliceMiddleSample closed opened) = s.takeSample (s.sampleOf closed opened) := if_neg busy
    rw [effect] at done
    have taken := takeSample_taken s (s.sampleOf closed opened)
    generalize s.takeSample (s.sampleOf closed opened) = e at *
    have dru := taken.dru
    rw [← done.dru] at dru
    have faults : t.stc.faults = e.stc.faults := by rw [done.stc]
    have run : ∀ z, t.dru.counts.openRun.get z = (s.sampleOf closed opened).runAfter s z := fun z => by
      rw [done.dru, taken.run z]
    have unexpected : ∀ z, t.stc.faults.valveUnexpected.get z =
        (s.stc.faults.valveUnexpected.get z || (s.sampleOf closed opened).trips s z) := fun z => by rw [faults, taken.unexpected z]
    have judged := taken.judged
    refine ⟨t, ran, by rw [dru]; rfl, by rw [dru], by rw [dru], by rw [dru], by rw [dru], fun l => ?_, ?_, fun l => ?_, ?_,
      fun entry mismatch => ?_, by rw [dru], by rw [dru], by rw [dru]; rfl, ?_, fun z => ?_, fun changed => ?_, fun same => ?_,
      fun z spent => ?_, fun z none => ?_, fun z unspent latched line off open_ => ?_, fun z unspent clear line off open_ => ?_,
      fun z => ?_, ?_, ?_, by rw [dru], by rw [dru], by rw [dru], by rw [dru], ?_⟩
    · rw [dru]
      simp [State.sampleCounts, State.sampleOf]
    · rw [dru]
      dsimp only [State.sampleCounts]
      cases s.dru.verifier.verified with
      | none => rfl
      | some l =>
        unfold Sample.relayOff State.sampleOf
        dsimp only
        cases closed.get l <;> cases s.dru.en.get l <;> rfl
    · rw [dru]
      dsimp only [State.sampleCounts]
      by_cases bar : s.dru.test.load.isSome = true
      · rw [if_pos bar, if_pos ((testLoad_isSome _).1 bar), PerLoad.get_of]
        unfold Sample.relayOff State.sampleOf
        dsimp only
        cases s.dru.test.mask.get l <;> cases closed.get l <;> cases s.dru.en.get l <;> rfl
      · rw [if_neg bar, if_neg (mt (testLoad_isSome _).2 bar)]
    · rw [dru]
      exact relayFound_isSome s closed opened
    · rw [dru] at mismatch
      obtain ⟨l, found⟩ := Option.isSome_iff_exists.1 mismatch
      exact done.keeps (c := .feedback) nofun (taken.relayTold l found entry)
    · refine ⟨?_, ?_, fun entry z off lower q audience => ?_⟩
      · rw [dru]
        exact valveFound_isSome s closed opened
      · rw [dru]
        have same : (fun z => decide (s.valveLineOff opened z)) = fun z => s.dru.valve.mask.get z &&
            (s.sampleOf closed opened).valveOff (s.ptc.gas.get z) (s.dru.grace.get z) z := funext fun z =>
          Bool.eq_iff_iff.2 (by rw [decide_eq_true_iff]; exact valveLineOff_iff s closed opened z)
        unfold State.valveFound
        rw [← same]
      · refine done.keeps (c := .feedback) nofun (taken.valveTold z (valveFound_lowest s closed opened off lower) entry q ?_)
        unfold State.pointAudience
        rw [Bool.or_eq_true, decide_eq_true_iff, decide_eq_true_iff]
        exact audience
    · rw [faults]
      exact taken.valve z
    · rw [done.stc, done.dru]
      exact taken.trips busy (by rw [← faults]; exact changed)
    · rw [done.stc, done.dru]
      exact taken.quiet (by rw [← faults]; exact same)
    · rw [run, unexpected]
      simp [Sample.runAfter, Sample.trips, spent]
    · rw [run, unexpected]
      simp [Sample.runAfter, Sample.trips, runOf_none none]
    · rw [run]
      simp [Sample.runAfter, Sample.trips, unspent, latched, runOf_found line off open_, nextRun]
    · rw [run, unexpected]
      split
      · next low =>
        have less : s.dru.atSlice.openRun.get z + 1 ≠ 6 := by omega
        simp [Sample.runAfter, Sample.trips, unspent, clear, runOf_found line off open_, nextRun_low low, less]
      · next high =>
        have trips : (s.sampleOf closed opened).trips s z = true := by
          simp [Sample.trips, unspent, clear, runOf_found line off open_, nextRun_high high]
        refine ⟨by simp [Sample.runAfter, trips], by rw [trips, Bool.or_true], fun gates => ?_⟩
        rw [done.ptc, judged.marks gates.faultMarks z.point, holds_iff]
        exact .inr (.inl ⟨z, rfl, .inr (taken.members z trips)⟩)
    · rw [dru]
      exact PerGas.get_of _ _
    · have planner := judged.planner
      unfold PlannerKept at planner ⊢
      rw [done.pass, planner]
    · have points := judged.points
      unfold DemandKept at points ⊢
      rw [done.ptc, points]
    · have rest := judged.rest
      rw [show s.tbu = t.tbu by rw [done.tbu, rest], show s.squ = t.squ by rw [done.squ, rest],
        show s.pmc = t.pmc by rw [done.pmc, rest],
        show s.snu = t.snu by rw [done.snu, rest], show s.presence = t.presence by rw [done.presence, rest],
        show s.watchdog = t.watchdog by rw [done.watchdog, rest], show s.free = t.free by rw [done.free, rest],
        show s.pending = t.pending by rw [done.pending, rest]]
  · exact event_exact lines rfl nofun rfl rfl rfl rfl rfl rfl

end Sys2Proof.Machine

/-! # DRIVE_TEST, DRIVE_TEST_ABORT and DRIVE_TEST_COMPLETE (R135 to R139) -/

namespace Sys2Proof.Machine

/-! ## A verdict (R132, R137) -/

/-- The verdict on a load's count of mismatches. -/
structure Verdict (l : Load) (count : Nat) (s u : State) : Prop where
  judged : Judged s u
  dru : u.dru = { s.dru with
    withdrawLoads := u.dru.withdrawLoads, withdrawGas := u.dru.withdrawGas
    standing := s.dru.standing.set l (testOutcome s.dru.verifier.tolerance count) }
  faults : ∀ i, u.stc.faults.get i = (s.stc.faults.get i || (decide (i = .drive l) && decide (s.dru.verifier.tolerance < count)))
  op : u.stc.op = s.stc.op

section
variable (s : State) (l : Load)

/-- DRIVE latched for a load, with its member (R31, R132). -/
theorem latchDrive_frame : Judged s (s.latchDrive l) ∧
    (s.latchDrive l).dru = { s.dru with
      withdrawLoads := (s.latchDrive l).dru.withdrawLoads, withdrawGas := (s.latchDrive l).dru.withdrawGas } ∧
    (∀ i, (s.latchDrive l).stc.faults.get i = (s.stc.faults.get i || decide (i = .drive l))) ∧
    (s.latchDrive l).stc.op = s.stc.op := by
  cases latched : s.stc.faults.drive.get l with
  | true =>
    have same : s.latchDrive l = s := if_pos latched
    rw [same]
    refine ⟨Judged.refl s, rfl, fun i => ?_, rfl⟩
    by_cases is : i = .drive l
    · subst is
      rw [show s.stc.faults.get (.drive l) = true from latched]
      rfl
    · rw [decide_eq_false is, Bool.or_false]
  | false =>
    have eq : s.latchDrive l = _ := if_neg (by rw [latched]; nofun)
    let a : Attribution := { s.ptc.attribution with drive := s.ptc.attribution.drive.set l true }
    have grows : ∀ k, s.ptc.attribution.drive.get k = true → a.drive.get k = true := fun k was => by
      change (s.ptc.attribution.drive.set l true).get k = true
      rw [PerLoad.get_set, was]
      split <;> rfl
    have sets := (latch_judged s (.drive l)).trans
      (setAttribution_judged (s.latch (.drive l)) a (by rw [State.latch_ptc]; exact ⟨grows, fun _ h => h⟩))
    have drive := setAttribution_drive (s.latch (.drive l)) a
    obtain ⟨stc, -⟩ := setAttribution_frame (s.latch (.drive l)) a
    rw [State.latch_dru] at drive
    rw [eq]
    refine ⟨sets, drive, fun i => ?_, ?_⟩
    · change ((s.latch (.drive l)).setAttribution a).stc.faults.get i = _
      rw [stc, State.latch_get]
    · change ((s.latch (.drive l)).setAttribution a).stc.op = _
      rw [stc, State.latch_op]

theorem judge_verdict (count : Nat) : Verdict l count s (s.judge l count) := by
  unfold State.judge
  by_cases over_ : s.dru.verifier.tolerance < count
  · rw [if_pos over_]
    obtain ⟨judged, dru, faults, op⟩ := latchDrive_frame (s.setStanding l .fail) l
    refine ⟨(setDru_judged s _).trans judged, ?_, fun i => ?_, op⟩
    · rw [dru, testOutcome, if_pos over_]
      rfl
    · rw [faults i, decide_eq_true over_, Bool.and_true]
      rfl
  · rw [if_neg over_]
    refine ⟨setDru_judged s _, ?_, fun i => ?_, rfl⟩
    · rw [testOutcome, if_neg over_]
      rfl
    · rw [decide_eq_false over_, Bool.and_false, Bool.or_false]
      rfl

end

/-! ## The verdicts on the loads of a test (R137) -/

/-- The verdicts on some loads. -/
structure Verdicts (s u : State) : Prop where
  judged : Judged s u
  dru : u.dru = { s.dru with
    withdrawLoads := u.dru.withdrawLoads, withdrawGas := u.dru.withdrawGas, standing := u.dru.standing }
  op : u.stc.op = s.stc.op

theorem Verdicts.refl (s : State) : Verdicts s s := ⟨Judged.refl s, rfl, rfl⟩

theorem Verdicts.trans {s u v : State} (h : Verdicts s u) (k : Verdicts u v) : Verdicts s v :=
  ⟨h.judged.trans k.judged, by rw [k.dru, h.dru], k.op.trans h.op⟩

theorem Verdict.many {l : Load} {count : Nat} {s u : State} (h : Verdict l count s u) : Verdicts s u :=
  ⟨h.judged, by rw [h.dru], h.op⟩

section
variable (s : State) (count : Load → Nat) (mask : PerLoad Bool)

theorem members_nodup : (PerLoad.members mask).Nodup := List.Nodup.filter _ (by decide)

theorem mem_members (l : Load) : l ∈ PerLoad.members mask ↔ mask.get l = true := by
  simp [PerLoad.members, Load.mem_all]

/-- What the verdicts on the loads of a mask leave. -/
theorem judge_members : Verdicts s ((PerLoad.members mask).foldl (fun t l => t.judge l (count l)) s) ∧ ∀ l,
    ((PerLoad.members mask).foldl (fun t l => t.judge l (count l)) s).dru.standing.get l =
      (if mask.get l then testOutcome s.dru.verifier.tolerance (count l) else s.dru.standing.get l) ∧
    ((PerLoad.members mask).foldl (fun t l => t.judge l (count l)) s).stc.faults.drive.get l =
      (s.stc.faults.drive.get l || (mask.get l && decide (s.dru.verifier.tolerance < count l))) := by
  have verdict := fun (u : State) l => judge_verdict u l (count l)
  refine ⟨foldl_keeps Verdicts Verdicts.refl Verdicts.trans (fun u l => (verdict u l).many) _ s, fun l => ⟨?_, ?_⟩⟩
  · rw [foldl_each (fun u l => u.dru.standing.get l) (fun u l => testOutcome u.dru.verifier.tolerance (count l)) (fun u k => ?_)
      (fun u k l other => ?_) (fun u k l _ => by rw [(verdict u k).dru]) _ s (members_nodup mask) l]
    · simp only [mem_members]
    · rw [(verdict u k).dru]
      exact PerLoad.get_set_self _ _ _
    · rw [(verdict u k).dru]
      exact PerLoad.get_set_ne _ _ other
  · have flag : ∀ (u : State) (k l : Load), (u.judge k (count k)).stc.faults.drive.get l =
        (u.stc.faults.drive.get l || (decide (l = k) && decide (u.dru.verifier.tolerance < count k))) := fun u k l => by
      refine ((verdict u k).faults (.drive l)).trans ?_
      simp [Faults.get]
    rw [foldl_each (fun u l => u.stc.faults.drive.get l)
      (fun u l => u.stc.faults.drive.get l || decide (u.dru.verifier.tolerance < count l)) (fun u k => ?_)
      (fun u k l other => ?_) (fun u k l other => ?_) _ s (members_nodup mask) l]
    · simp only [mem_members]
      cases mask.get l
      · rw [if_neg nofun, Bool.false_and, Bool.or_false]
      · rw [if_pos rfl, Bool.true_and]
    · rw [flag, decide_eq_true rfl, Bool.true_and]
    · rw [flag, decide_eq_false other, Bool.false_and, Bool.or_false]
    · have tolerance : (u.judge k (count k)).dru.verifier.tolerance = u.dru.verifier.tolerance := by rw [(verdict u k).dru]
      rw [flag, decide_eq_false other, Bool.false_and, Bool.or_false, tolerance]

end

end Sys2Proof.Machine

/-! # O47 (R135 to R139) -/

namespace Sys2Proof.Machine

section
variable (l : Load) (n : Nat)

/-- The loads of a mask that names one. -/
theorem loadsOfBits_one : loadsOfBits (2 ^ l.index) = some (.of fun x => x = l) := by cases l <;> decide

theorem members_one : PerLoad.members (.of fun x => x = l) = [l] := by cases l <;> decide

theorem barsOf_one : barsOf n [l] = [⟨l, n⟩] := by simp [barsOf]

end

section
variable {s : State} (l : Load) (n : Nat)

theorem takeDriveTest_refused (op : s.stc.op ≠ .config) (bits : Nat) : s.takeDriveTest bits n = s.refuse .refusedState := if_pos op

theorem takeDriveTest_busy (op : s.stc.op = .config) (runs : s.dru.test.status = .running) (bits : Nat) :
    s.takeDriveTest bits n = s.refuse .busy := by
  rw [State.takeDriveTest, if_neg (not_not_intro op), if_pos runs]

/-- The Drive Unit with a test of one load begun in CONFIG (R124, R135). -/
def State.testing1 (s : State) (l : Load) (n : Nat) : State := s.setDru { s.dru with
  test := { status := .running, mask := .of fun x => x = l, length := n, bars := [⟨l, n⟩], begun := false, left := [⟨l, n⟩]
            outcome := .of fun _ => .none }
  counts := { s.dru.counts with test := .of fun _ => 0 }
  atSlice := { s.dru.atSlice with test := .of fun _ => 0 }
  verifier := { s.dru.verifier with usable := false }
  gms := false
  ems := true }

theorem takeDriveTest_taken (op : s.stc.op = .config) (idle : s.dru.test.status ≠ .running) (fitted : (s.spl.loads.get l).power ≠ 0)
    (within : (s.spl.loads.get l).power ≤ s.spl.budget) :
    s.takeDriveTest (2 ^ l.index) n = ⟨s.testing1 l (max 10 (min 400 n)), .accepted, []⟩ := by
  have begun : s.beginTest (.of fun x => x = l) (clampNat 10 400 n) = s.testing1 l (max 10 (min 400 n)) := by
    unfold State.beginTest
    dsimp only
    rw [members_one, barsOf_one]
    simp [State.setMasters, State.testing1, State.setDru, op, gmsOf, emsOf, clampNat]
  rw [State.takeDriveTest, if_neg (not_not_intro op), if_neg idle, loadsOfBits_one]
  dsimp only
  rw [members_one, begun]
  simp [State.checked, firstFailure, State.fitted, fitted, Nat.not_lt.2 within, State.accepted]

end

/-- The master lines are low in CONFIG while no drive test runs (R124). -/
theorem setMasters_idle (s : State) (op : s.stc.op = .config) (idle : s.dru.test.status ≠ .running) :
    s.setMasters = s.setDru { s.dru with gms := false, ems := false } := by
  have low : gmsOf s.stc.op = false ∧ emsOf s.stc.op s.dru.test.status = false := by
    rw [op]
    exact ⟨rfl, by simp [emsOf, idle]⟩
  rw [State.setMasters, low.1, low.2]

/-- The Drive Unit with its test COMPLETE, before the verdicts latch (R137). -/
def State.testDone (s : State) : State := s.setDru { s.dru with
  test := { s.dru.test with
    status := .complete
    outcome := .of fun l =>
      if s.dru.test.mask.get l then testOutcome s.dru.verifier.tolerance (s.dru.counts.test.get l) else .none }
  gms := false
  ems := false }

theorem completeTest_config (s : State) (op : s.stc.op = .config) : s.completeTest =
    ((PerLoad.members s.dru.test.mask).foldl (fun t l => t.judge l (s.dru.counts.test.get l)) s.testDone).postAll .stateChanged := by
  unfold State.completeTest
  dsimp only
  rw [setMasters_idle]
  · rfl
  · exact op
  · nofun

/-- Settles O47. -/
theorem driveTestsRun : Obligations.DriveTestsRun := by
  intro s
  refine ⟨fun l n lines busy fitted within => ?_, fun op runs => ⟨?_, fun begun left => ?_⟩⟩
  · have passed := dispatch_supervisor (s := s) (code := 0x33) (s.takeDriveTest (2 ^ l.index) n) busy
    by_cases config : s.stc.op = .config
    · by_cases running : s.dru.test.status = .running
      · obtain ⟨t, ran, only⟩ := request_onlyReplied (i := .driveTest .supervisor (2 ^ l.index) n) lines
          (passed.trans (takeDriveTest_busy n config running _))
        exact ⟨t, ran, fun other => absurd config other, fun _ _ => only, fun _ idle => absurd running idle⟩
      · obtain ⟨t, ran, whole, posts, replied⟩ := request_stored (i := .driveTest .supervisor (2 ^ l.index) n) lines passed
          (takeDriveTest_taken l n config running fitted within) rfl rfl rfl rfl rfl
        refine ⟨t, ran, fun other => absurd config other, fun _ runs => absurd runs running, fun _ _ => ?_⟩
        have dru : t.dru = (s.testing1 l (max 10 (min 400 n))).dru := by rw [whole]
        refine ⟨by rw [dru]; rfl, by rw [dru]; rfl, by rw [dru]; rfl, fun x => by rw [dru]; exact PerLoad.get_of _ _, ?_, posts, replied⟩
        rw [dru]
        exact whole
    · obtain ⟨t, ran, only⟩ := request_onlyReplied (i := .driveTest .supervisor (2 ^ l.index) n) lines
        (passed.trans (takeDriveTest_refused n config _))
      exact ⟨t, ran, fun _ => only, fun op => absurd op config, fun op => absurd op config⟩
  · have passed := dispatch_supervisor (s := s) (code := 0x34) s.takeDriveTestAbort (by rw [op]; nofun)
    have took : s.takeDriveTestAbort = ⟨(s.setDru { s.dru with
        test := { s.dru.test with status := .aborted }, gms := false, ems := false }).postAll .stateChanged, .ok, []⟩ := by
      rw [State.takeDriveTestAbort, if_pos runs, State.abortTest, if_pos runs, setMasters_idle]
      · rfl
      · exact op
      · nofun
    obtain ⟨t, ran, whole, -, posts, replied⟩ := request_taken (i := .driveTestAbort .supervisor) (posts := toAll .stateChanged) passed
      took (fun c => causePresent_of_stc rfl c) rfl (((postTo_portsAfter _ _ _).congr rfl rfl fun _ _ => by simp [toAll, toPorts]))
    exact ⟨t, ran, whole, posts, replied⟩
  · obtain ⟨t, ran, closed⟩ := event_closed (i := .driveTestComplete) rfl nofun s
    have exhausted : s.dru.test.exhausted = true := by simp [DriveTest.exhausted, runs, begun, left]
    have effect : s.effect .driveTestComplete = s.completeTest := if_pos exhausted
    rw [effect, completeTest_config s op] at closed
    obtain ⟨⟨judged, dru, opKept⟩, each⟩ := judge_members s.testDone s.dru.counts.test.get s.dru.test.mask
    generalize (PerLoad.members s.dru.test.mask).foldl (fun t l => t.judge l (s.dru.counts.test.get l)) s.testDone = u at *
    have drive : t.dru = u.dru := closed.dru
    have stc : t.stc = u.stc := closed.stc
    rw [← drive] at dru
    have whole := judged.rest
    obtain ⟨-, tme⟩ := judged.of_ops (.inl (by rw [opKept]; exact fun lock => absurd (op.symm.trans lock) nofun))
    refine ⟨t, ran, by rw [dru]; rfl, by rw [dru]; rfl, by rw [dru]; rfl, by rw [stc, opKept]; exact op, fun l => ?_, fun l => ?_, ?_, ?_,
      by rw [dru]; rfl, by rw [dru]; rfl, by rw [dru]; rfl, ?_, fun q => ?_⟩
    · rw [drive]
      exact (each l).1
    · rw [stc]
      exact (each l).2
    · have planner := judged.planner
      unfold PlannerKept at planner ⊢
      rw [closed.pass]
      exact congrArg (fun m : Spl => { m with pending := retaken s.spl.serial u.spl.serial u.spl.pending u.snapshot }) planner
    · have points := judged.points
      unfold DemandKept at points ⊢
      rw [closed.ptc]
      exact points
    · rw [show s.tbu = t.tbu by rw [closed.tbu]; exact (congrArg State.tbu whole).symm,
        show s.tme = t.tme by rw [closed.tme]; exact tme.symm,
        show s.squ = t.squ by rw [closed.squ]; exact (congrArg State.squ whole).symm,
        show s.pmc = t.pmc by rw [closed.pmc]; exact (congrArg State.pmc whole).symm,
        show s.snu = t.snu by rw [closed.snu]; exact (congrArg State.snu whole).symm,
        show s.presence = t.presence by rw [closed.presence]; exact (congrArg State.presence whole).symm,
        show s.watchdog = t.watchdog by rw [closed.watchdog]; exact (congrArg State.watchdog whole).symm,
        show s.free = t.free by rw [closed.free]; exact (congrArg State.free whole).symm,
        show s.pending = t.pending by rw [closed.pending]; exact (congrArg State.pending whole).symm]
    · exact closed.keeps (c := .stateChanged) nofun (by simp [State.postTo_posted])

end Sys2Proof.Machine

/-! # A reading handed on (R33, R49, R57, R148 to R153) -/

namespace Sys2Proof.Machine

/-! ## What a reading can reach -/

theorem enterState_rest (s : State) (op : OpState) : s.enterState op = { s with
    ptc := (s.enterState op).ptc, tme := (s.enterState op).tme, spl := (s.enterState op).spl, dru := (s.enterState op).dru
    stc := (s.enterState op).stc, ports := (s.enterState op).ports } := by
  have rest := (enterState_gateFrame s op).rest
  have before : s.enteredBeforeGates op = { s with
      stc := (s.enteredBeforeGates op).stc, dru := (s.enteredBeforeGates op).dru
      tme := (s.enteredBeforeGates op).tme, ports := (s.enteredBeforeGates op).ports } := by
    simp only [State.enteredBeforeGates, State.setMasters, State.setTme, State.setDru]
    rw [stamped_eq]
  rw [before] at rest
  rw [rest]

/-- What a rule on a reading can reach and what it keeps (R148). -/
structure Handed (s t : State) : Prop where
  planner : PlannerKept s t
  points : DemandKept s t
  drive : DriveKept s t
  posts : PostsStay s t
  faults : ∀ i, s.stc.faults.get i = true → t.stc.faults.get i = true
  marks : s.FaultMarks → t.FaultMarks
  ops : t.stc.op = s.stc.op ∨ t.stc.op = .hold ∧ s.stc.op = .run
  rest : t = { s with ptc := t.ptc, tme := t.tme, spl := t.spl, dru := t.dru, stc := t.stc, ports := t.ports }

theorem Handed.refl (s : State) : Handed s s :=
  ⟨rfl, rfl, rfl, PostsStay.refl s, fun _ h => h, fun h => h, .inl rfl, rfl⟩

theorem Handed.trans {s t u : State} (h : Handed s t) (k : Handed t u) : Handed s u := by
  refine ⟨?_, ?_, ?_, h.posts.trans k.posts, fun i latched => k.faults i (h.faults i latched), fun m => k.marks (h.marks m), ?_, ?_⟩
  · have a := h.planner
    have b := k.planner
    unfold PlannerKept at *
    rw [b, a]
  · have a := h.points
    have b := k.points
    unfold DemandKept at *
    rw [b, a]
  · have a := h.drive
    have b := k.drive
    unfold DriveKept at *
    rw [b, a]
  · obtain same | ⟨hold, run⟩ := h.ops
    · rw [← same]
      exact k.ops
    · obtain same | ⟨-, run'⟩ := k.ops
      · exact .inr ⟨same.trans hold, run⟩
      · rw [hold] at run'
        cases run'
  · rw [k.rest, h.rest]

theorem Judged.handed {s t : State} (h : Judged s t) (drive : DriveKept s t) (op : t.stc.op = s.stc.op) : Handed s t :=
  ⟨h.planner, h.points, drive, h.posts, h.faults, h.marks, .inl op, h.rest⟩

section
variable (s : State)

theorem latch_handed (i : FaultId) : Handed s (s.latch i) :=
  (latch_judged s i).handed (by unfold DriveKept; rw [State.latch_dru]) (State.latch_op s i)

theorem setTme_handed (m : Tme) : Handed s (s.setTme m) :=
  ⟨rfl, rfl, rfl, PostsStay.of_ports rfl, fun _ h => h, fun h => h, .inl rfl, rfl⟩

theorem postTo_handed (c : EventClass) (who : Port → Bool) : Handed s (s.postTo c who) := (postTo_judged s c who).handed rfl rfl

theorem setAttribution_handed (a : Attribution)
    (members : (∀ l, s.ptc.attribution.drive.get l = true → a.drive.get l = true) ∧
      ∀ z, s.ptc.attribution.valveUnexpected.get z = true → a.valveUnexpected.get z = true) : Handed s (s.setAttribution a) := by
  refine (setAttribution_judged s a members).handed ?_ ?_
  · unfold DriveKept
    rw [setAttribution_drive]
  · rw [(setAttribution_frame s a).1]

theorem changeReasons_handed (x : Point) {r : PerReason Bool} (fault : r.fault = (s.ptc.reasons.get x).fault) :
    Handed s (s.changeReasons x r) := by
  obtain ⟨-, planner, drive, -⟩ := State.changeReasons_gateFrame s x r
  have ptc := changeReasons_ptc s x r
  have whole := changeReasons_whole s x r
  have posts := changeReasons_postsStay s x r
  have stc : (s.changeReasons x r).stc = s.stc := by rw [whole]
  refine ⟨planner, ?_, ?_, posts, fun i latched => by rw [stc]; exact latched, fun marks y => ?_, .inl (by rw [stc]), ?_⟩
  · unfold DemandKept
    rw [ptc]
  · unfold DriveKept
    rw [drive]
  · rw [ptc]
    dsimp only
    by_cases is : y = x
    · subst is
      rw [PerPoint.get_set_self, fault]
      exact marks y
    · rw [PerPoint.get_set_ne _ _ is]
      exact marks y
  · rw [whole]

theorem addHold_handed (h : Hold) : Handed s (s.addHold h) := by
  obtain ⟨holds, ⟨faults, -⟩, -, ⟨planner, ⟨points, attribution⟩, drive, -⟩, posts, -⟩ := addHold_joined s h
  obtain eq | eq | ⟨run, eq⟩ := addHold_stays_or_enters s h
  · rw [eq]
    exact Handed.refl s
  · rw [eq]
    exact ⟨rfl, rfl, rfl, storeHolds_postsStay s _, fun _ latched => latched, fun marks => marks, .inl rfl, rfl⟩
  · refine ⟨planner, points, drive, posts, fun i latched => by rw [faults]; exact latched, fun marks x => ?_, .inr ⟨?_, run⟩, ?_⟩
    · rw [attribution, ← marks x, eq, State.enterState_reasons]
      exact PerReason.get_set_ne _ (i := .halted) (j := .fault) _ nofun
    · rw [eq, State.enterState_stc]
    · rw [eq, enterState_rest]
      rfl

/-- A hold cause that joins leaves the slots alone where the operating state stays (R45, R173). -/
theorem addHold_tme (h : Hold) (op : (s.addHold h).stc.op = s.stc.op) : (s.addHold h).tme = s.tme := by
  obtain eq | eq | ⟨run, eq⟩ := addHold_stays_or_enters s h
  · rw [eq]
  · rw [eq]
    rfl
  · rw [eq, State.enterState_stc, run] at op
    cases op

theorem removeHold_handed (h : Hold) : Handed s (s.removeHold h) := by
  have posts := removeHold_postsStay s h
  have eq := State.removeHold_eq s h
  refine ⟨?_, ?_, ?_, posts, ?_, ?_, .inl ?_, ?_⟩
  · unfold PlannerKept
    rw [eq]
  · unfold DemandKept
    rw [eq]
  · unfold DriveKept
    rw [eq]
  · rw [eq]
    exact fun _ latched => latched
  · rw [eq]
    exact fun marks => marks
  · rw [eq]
  · rw [eq]

end

/-! ## A reading of a point's channel (R33, R49, R149, R150) -/

section
variable (s : State)

theorem sensorFails_handed (c : Sensor) : Handed s (s.sensorFails c) := by
  unfold State.sensorFails
  dsimp only
  split
  · exact (latch_handed s _).trans (setAttribution_handed _ _ ⟨fun _ h => h, fun _ h => h⟩)
  · exact (latch_handed s _).trans (setAttribution_handed _ _ ⟨fun _ h => h, fun _ h => h⟩)
  · exact latch_handed s _

/-- A point whose channel fails has its member, and OVERTEMP as it was (R33, R149). -/
theorem sensorFails_point {c : Sensor} {x : Point} (of : c = .cav ∧ x = .ov ∨ c = .grl ∧ x = .gr) :
    (s.sensorFails c).stc.faults.plain.sensor = true ∧ (s.sensorFails c).ptc.attribution.member x ∧
      (∀ y, ((s.sensorFails c).ptc.reasons.get y).overtemp = (s.ptc.reasons.get y).overtemp) ∧
      (s.sensorFails c).tme = s.tme := by
  have latched : (s.latch (.plain .sensor)).stc.faults.plain.sensor = true := by
    refine (State.latch_get s (.plain .sensor) (.plain .sensor)).trans ?_
    rw [decide_eq_true rfl, Bool.or_true]
  have sets : ∀ a : Attribution, a.member x → s.sensorFails c = (s.latch (.plain .sensor)).setAttribution a →
      (s.sensorFails c).stc.faults.plain.sensor = true ∧ (s.sensorFails c).ptc.attribution.member x ∧
      (∀ y, ((s.sensorFails c).ptc.reasons.get y).overtemp = (s.ptc.reasons.get y).overtemp) ∧
      (s.sensorFails c).tme = s.tme := fun a member eq => by
    obtain ⟨stc, -, tme, -⟩ := setAttribution_frame (s.latch (.plain .sensor)) a
    rw [eq]
    refine ⟨by rw [stc]; exact latched, by rw [State.setAttribution_attribution]; exact member, fun y => ?_, ?_⟩
    · rw [setAttribution_reasons, State.latch_ptc]
      split
      · rfl
      · exact PerReason.get_set_ne _ (i := .fault) (j := .overtemp) _ nofun
    · rw [tme, State.latch_tme]
  obtain ⟨rfl, rfl⟩ | ⟨rfl, rfl⟩ := of
  · exact sets _ (.inr (.inr (.inl ⟨rfl, rfl⟩))) rfl
  · exact sets _ (.inr (.inr (.inr ⟨rfl, rfl⟩))) rfl

end

end Sys2Proof.Machine

/-! # CONVERSION_END: what each channel's reading does (R33, R49, R57, R149 to R153) -/

namespace Sys2Proof.Machine

section
variable (s : State)

theorem setReason_handed (x : Point) {o : Reason} (other : o ≠ .fault) (v : Bool) :
    Handed s (s.changeReasons x ((s.ptc.reasons.get x).set o v)) :=
  changeReasons_handed s x (PerReason.get_set_ne _ (j := .fault) _ other.symm)

theorem removeOvertemp (x : Point) : Handed s (s.removeReason x .overtemp) ∧ (s.removeReason x .overtemp).stc = s.stc ∧
    (s.removeReason x .overtemp).tme = s.tme ∧ ((s.removeReason x .overtemp).ptc.reasons.get x).overtemp = false := by
  have whole := changeReasons_whole s x ((s.ptc.reasons.get x).set .overtemp false)
  refine ⟨setReason_handed s x (o := .overtemp) nofun false, by rw [State.removeReason, whole], by rw [State.removeReason, whole], ?_⟩
  rw [State.removeReason, changeReasons_ptc, PerPoint.get_set_self]
  exact PerReason.get_set_self _ .overtemp _

theorem addOvertemp (x : Point) : Handed s (s.addReason x .overtemp) ∧ (s.addReason x .overtemp).tme = s.tme ∧
    ((s.addReason x .overtemp).ptc.reasons.get x).overtemp = true := by
  have whole := changeReasons_whole s x ((s.ptc.reasons.get x).set .overtemp true)
  refine ⟨setReason_handed s x (o := .overtemp) nofun true, by rw [State.addReason, whole], ?_⟩
  rw [State.addReason, changeReasons_ptc, PerPoint.get_set_self]
  exact PerReason.get_set_self _ .overtemp _

theorem latch_plain (f : PlainFlag) : (s.latch (.plain f)).stc.faults.plain.get f = true := by
  refine (State.latch_get s (.plain f) (.plain f)).trans ?_
  rw [decide_eq_true rfl, Bool.or_true]

/-- The limit rule on a reading (R33, R150). -/
structure Limited (x : Point) (limit : Int) (f : PlainFlag) (r : Reading) (s u : State) : Prop where
  handed : Handed s u
  tme : u.tme = s.tme
  failed : r = .open ∨ r = .short → u = s
  hot : ∀ d, r = .temp d → limit ≤ d → (u.ptc.reasons.get x).overtemp = true ∧ u.stc.faults.plain.get f = true
  cool : ∀ d, r = .temp d → d ≤ limit - 20 → (u.ptc.reasons.get x).overtemp = false ∧ u.stc.faults = s.stc.faults
  between : ∀ d, r = .temp d → limit - 20 < d → d < limit → u = s
  gone : r = .unavailable → (u.ptc.reasons.get x).overtemp = false ∧ u.stc.faults = s.stc.faults

theorem limitRule_limited (x : Point) (limit : Int) (f : PlainFlag) (r : Reading) :
    Limited x limit f r s (s.limitRule x limit f r) := by
  have removed := removeOvertemp s x
  cases r with
  | temp d =>
    by_cases hot : limit ≤ d
    · have eq : s.limitRule x limit f (.temp d) = (s.addReason x .overtemp).latch (.plain f) := if_pos hot
      obtain ⟨handed, tme, overtemp⟩ := addOvertemp s x
      rw [eq]
      refine ⟨handed.trans (latch_handed _ _), by rw [State.latch_tme, tme], nofun, fun _ _ _ => ⟨?_, latch_plain _ f⟩, ?_, ?_, nofun⟩
      · rw [State.latch_ptc]
        exact overtemp
      · intro e is cool
        cases is
        omega
      · intro e is _ below
        cases is
        omega
    · by_cases cool : d ≤ limit - 20
      · have eq : s.limitRule x limit f (.temp d) = s.removeReason x .overtemp := (if_neg hot).trans (if_pos cool)
        rw [eq]
        refine ⟨removed.1, removed.2.2.1, nofun, ?_, fun _ _ _ => ⟨removed.2.2.2, by rw [removed.2.1]⟩, ?_, nofun⟩
        · intro e is over_
          cases is
          exact absurd over_ hot
        · intro e is above
          cases is
          omega
      · have eq : s.limitRule x limit f (.temp d) = s := (if_neg hot).trans (if_neg cool)
        rw [eq]
        refine ⟨Handed.refl s, rfl, fun _ => rfl, ?_, ?_, fun _ _ _ _ => rfl, nofun⟩
        · intro e is over_
          cases is
          exact absurd over_ hot
        · intro e is below
          cases is
          exact absurd below cool
  | unavailable => exact ⟨removed.1, removed.2.2.1, nofun, nofun, nofun, nofun, fun _ => ⟨removed.2.2.2, by
      change (s.removeReason x .overtemp).stc.faults = _
      rw [removed.2.1]⟩⟩
  | _ => exact ⟨Handed.refl s, rfl, fun _ => rfl, nofun, nofun, nofun, nofun⟩

/-- A reading of a point's channel handed on (R148). -/
structure PointHanded (x : Point) (limit : Int) (f : PlainFlag) (r : Reading) (s u : State) : Prop where
  handed : Handed s u
  tme : u.tme = s.tme.mapTimers (Timer.offerTemp x r)
  failed : r = .open ∨ r = .short → u.stc.faults.plain.sensor = true ∧ (s.FaultMarks → (u.ptc.reasons.get x).fault = true) ∧
    (u.ptc.reasons.get x).overtemp = (s.ptc.reasons.get x).overtemp
  hot : ∀ d, r = .temp d → limit ≤ d → (u.ptc.reasons.get x).overtemp = true ∧ u.stc.faults.plain.get f = true
  cool : ∀ d, r = .temp d → d ≤ limit - 20 → (u.ptc.reasons.get x).overtemp = false ∧ u.stc.faults = s.stc.faults
  between : ∀ d, r = .temp d → limit - 20 < d → d < limit → u.ptc = s.ptc ∧ u.stc.faults = s.stc.faults
  gone : r = .unavailable → (u.ptc.reasons.get x).overtemp = false ∧ u.stc.faults = s.stc.faults

theorem handOnPoint_handed {c : Sensor} {x : Point} (of : c = .cav ∧ x = .ov ∨ c = .grl ∧ x = .gr) (limit : Int) (f : PlainFlag)
    (r : Reading) : PointHanded x limit f r s (s.handOnPoint c x limit f r) := by
  obtain ⟨a, prepared⟩ : ∃ a, (if r = .open ∨ r = .short then s.sensorFails c else s) = a := ⟨_, rfl⟩
  have first : Handed s a ∧ a.tme = s.tme ∧ (r ≠ .open → r ≠ .short → a = s) := by
    rw [← prepared]
    split
    · next bad => exact ⟨sensorFails_handed s c, (sensorFails_point s of).2.2.2, fun o h => absurd bad (not_or.2 ⟨o, h⟩)⟩
    · exact ⟨Handed.refl s, rfl, fun _ _ => rfl⟩
  obtain ⟨handed, tme, same⟩ := first
  have limited := limitRule_limited a x limit f r
  have eq : s.handOnPoint c x limit f r =
      (a.limitRule x limit f r).setTme ((a.limitRule x limit f r).tme.mapTimers (Timer.offerTemp x r)) := by
    rw [← prepared]
    rfl
  rw [eq]
  generalize a.limitRule x limit f r = b at *
  refine ⟨(handed.trans limited.handed).trans (setTme_handed b _), ?_, fun bad => ?_, fun d is over_ => limited.hot d is over_,
    fun d is below => ?_, fun d is above below => ?_, fun is => ?_⟩
  · change b.tme.mapTimers _ = _
    rw [limited.tme, tme]
  · rw [if_pos bad] at prepared
    obtain ⟨sensor, member, overtemp, -⟩ := sensorFails_point s of
    rw [prepared] at sensor member overtemp
    rw [limited.failed bad]
    refine ⟨sensor, fun marks => ?_, overtemp x⟩
    exact (handed.marks marks x).trans ((holds_iff _ _).2 member)
  · have is' : a = s := same (by rw [is]; nofun) (by rw [is]; nofun)
    subst is'
    exact limited.cool d is below
  · have is' : a = s := same (by rw [is]; nofun) (by rw [is]; nofun)
    subst is'
    rw [limited.between d is above below]
    exact ⟨rfl, rfl⟩
  · have is' : a = s := same (by rw [is]; nofun) (by rw [is]; nofun)
    subst is'
    exact limited.gone is

/-! ## A reading of the probe (R57, R153) -/

/-- A slot without its PROBE stop (R57). -/
def Timer.probeGone (u : Timer) : Timer := { u with probe := none, probeMark := false }

theorem loseProbe_handed : Handed s s.loseProbe ∧ s.loseProbe.ptc = s.ptc ∧ s.loseProbe.stc = s.stc ∧
    s.loseProbe.tme = s.tme.mapTimers fun u => if u.probe.isSome then u.probeGone else u :=
  ⟨(setTme_handed s _).trans (postTo_handed _ _ _), rfl, rfl, rfl⟩

theorem loseProbe_told {u : Timer} (slot : u ∈ s.tme.timers) (stop : u.probe ≠ none) {q : Port} (audience : s.timerAudience u q = true) :
    (s.loseProbe.ports.get q).posted.get .feedback = true := by
  have told : s.probeAudience q = true := by
    unfold State.probeAudience
    rw [List.any_eq_true]
    exact ⟨u, slot, by rw [audience, Option.isSome_iff_ne_none.2 stop]; rfl⟩
  unfold State.loseProbe
  rw [State.postTo_posted, told]
  simp

/-! ## A reading of the board (R152) -/

theorem boardHold (h : Hold) (i : FaultId) : Handed s ((s.latch i).addHold h) ∧ ((s.latch i).addHold h).stc.holds.get h = true ∧
    ((s.latch i).addHold h).stc.faults = (s.latch i).stc.faults ∧
    (s.stc.op = .run → s.stc.noHold = true → ((s.latch i).addHold h).stc.op = .hold) ∧
    (((s.latch i).addHold h).stc.op = s.stc.op → ((s.latch i).addHold h).tme = s.tme) := by
  obtain ⟨holds, ⟨faults, -⟩, run, -⟩ := addHold_joined (s.latch i) h
  refine ⟨(latch_handed s i).trans (addHold_handed _ h), by rw [holds, PerHold.get_set_self], faults, fun op clear => run ?_ ?_,
    fun op => ?_⟩
  · rw [State.latch_op]
    exact op
  · unfold Stc.noHold at clear ⊢
    rw [State.latch_holds]
    exact clear
  · rw [addHold_tme _ h (by rw [State.latch_op]; exact op), State.latch_tme]

end

end Sys2Proof.Machine

/-! # O48 (R143, R146, R148) -/

namespace Sys2Proof.Machine

section
variable {s u t : State} (h : Handed s u) {who : Option Port} {o : State} (closed : Closed who o u t)
include h closed

/-- What a rule on a reading reaches, to the end of the command. -/
theorem Handed.close : PlannerKept s t ∧ DemandKept s t ∧ DriveKept s t ∧ t = { s with
    ptc := t.ptc, tme := t.tme, spl := t.spl, dru := t.dru, alc := t.alc, stc := t.stc, ports := t.ports, pins := t.pins } := by
  refine ⟨?_, ?_, ?_, ?_⟩
  · have planner := h.planner
    unfold PlannerKept at planner ⊢
    rw [closed.pass, planner]
  · have points := h.points
    unfold DemandKept at points ⊢
    rw [closed.ptc, points]
  · have drive := h.drive
    unfold DriveKept at drive ⊢
    rw [closed.dru, drive]
  · have rest := h.rest
    rw [show s.tbu = t.tbu by rw [closed.tbu, rest], show s.squ = t.squ by rw [closed.squ, rest],
      show s.pmc = t.pmc by rw [closed.pmc, rest],
      show s.snu = t.snu by rw [closed.snu, rest], show s.presence = t.presence by rw [closed.presence, rest],
      show s.watchdog = t.watchdog by rw [closed.watchdog, rest], show s.free = t.free by rw [closed.free, rest],
      show s.pending = t.pending by rw [closed.pending, rest]]

end

/-- The Sensing Unit after a conversion, before its reading is handed on (R143, R146). -/
def Snu.converted (n : Snu) (c : Sensor) (rest : List Sensor) (r : Reading) (m : Nat) (now : BitVec 32) : Snu :=
  { n with
    scanLeft := rest
    channels := n.channels.set c { n.channels.get c with reading := r, mean := some m, updatedAt := some now } }

theorem endConversion_eq (s : State) {c : Sensor} {rest : List Sensor} {samples : List (BitVec 10)} (left : s.snu.scanLeft = c :: rest)
    (scan : s.snu.scanN = some samples.length) : s.endConversion samples =
      (s.setSnu (s.snu.converted c rest
        (readingOf (meanOf samples) (s.snu.channels.get c).gain (s.snu.channels.get c).offset) (meanOf samples) s.tbu.seconds)).handOn c
        (readingOf (meanOf samples) (s.snu.channels.get c).gain (s.snu.channels.get c).offset) := by
  unfold State.endConversion
  rw [left]
  dsimp only
  rw [if_pos scan]
  rfl

/-- A reading that a conversion gives is OPEN, SHORT or a temperature (R146). -/
theorem readingOf_cases (mean gain : Nat) (offset : Int) : readingOf mean gain offset = .open ∨ readingOf mean gain offset = .short ∨
    readingOf mean gain offset = .temp (calibrate (baseOf mean) gain offset) := by
  unfold readingOf
  split
  · exact .inl rfl
  · split
    · exact .inr (.inl rfl)
    · exact .inr (.inr rfl)

/-- What a reading of a point's channel makes of a slot (R49, log 6). -/
theorem offerTemp_eq (x : Point) (deg : Int) {r : Reading} (reads : r = .open ∨ r = .short ∨ r = .temp deg) (u : Timer) :
    u.offerTemp x r = (match u.phase, u.start with
      | .waiting, .atTemp threshold =>
        if u.point = some x then
          { u with tempMark := !u.pause.user && !u.pause.halt && r = .temp deg && threshold ≤ deg } else u
      | _, _ => u) := by
  unfold Timer.offerTemp Timer.paused
  cases u.phase with
  | waiting =>
    cases u.start with
    | atTemp threshold =>
      dsimp only
      obtain rfl | rfl | rfl := reads
      · simp
      · simp
      · simp [Bool.and_assoc]
    | _ => rfl
  | _ => rfl

/-- What a reading of the probe makes of a slot (R57, log 6). -/
theorem offerProbe_eq (deg : Int) (u : Timer) : u.offerProbe deg = (match u.probe with
    | none => u
    | some threshold =>
      if Reading.temp deg = .temp deg then { u with probeMark := u.phase = .started && threshold ≤ deg }
      else { u with probe := none, probeMark := false }) := by
  unfold Timer.offerProbe
  cases u.probe with
  | none => rfl
  | some threshold => exact (if_pos rfl).symm

theorem probeGone_eq (deg : Int) {r : Reading} (bad : r ≠ .temp deg) (u : Timer) : (if u.probe.isSome then u.probeGone else u) =
    (match u.probe with
    | none => u
    | some threshold =>
      if r = .temp deg then { u with probeMark := u.phase = .started && threshold ≤ deg }
      else { u with probe := none, probeMark := false }) := by
  cases u.probe with
  | none => rfl
  | some threshold => exact (if_neg bad).symm

theorem mapTimers_congr (m : Tme) {f g : Timer → Timer} (same : ∀ u, f u = g u) :
    m.mapTimers f = { m with slots := m.slots.map fun y => { y with timer := y.timer.map g } } := by
  rw [funext same]
  rfl

section
variable (s : State) (r : Reading)

/-- The point, limit and flag of a channel that has one (R33, R150). -/
theorem handOn_point {c : Sensor} {x : Point} {limit : Int} {f : PlainFlag}
    (of : c = .cav ∧ x = .ov ∧ limit = s.snu.cavLimit ∧ f = .cavOvertemp ∨
      c = .grl ∧ x = .gr ∧ limit = s.snu.grlLimit ∧ f = .grlOvertemp) : PointHanded x limit f r s (s.handOn c r) := by
  obtain ⟨rfl, rfl, rfl, rfl⟩ | ⟨rfl, rfl, rfl, rfl⟩ := of
  · exact handOnPoint_handed s (.inl ⟨rfl, rfl⟩) _ _ r
  · exact handOnPoint_handed s (.inr ⟨rfl, rfl⟩) _ _ r

theorem handOnProbe_handed : Handed s (s.handOnProbe r) ∧ (s.handOnProbe r).ptc = s.ptc := by
  cases r with
  | temp d => exact ⟨setTme_handed s _, rfl⟩
  | short => exact ⟨(latch_handed s _).trans (loseProbe_handed _).1, State.latch_ptc s _⟩
  | _ => exact ⟨(loseProbe_handed s).1, rfl⟩

theorem handOnBoard_handed : Handed s (s.handOnBoard r) := by
  cases r with
  | temp d =>
    unfold State.handOnBoard
    dsimp only
    split
    · exact (boardHold s _ _).1
    · split
      · exact removeHold_handed s _
      · exact Handed.refl s
  | unavailable => exact removeHold_handed s _
  | _ => exact (boardHold s _ _).1

theorem handOn_handed (c : Sensor) : Handed s (s.handOn c r) := by
  cases c with
  | cav => exact (handOn_point s r (.inl ⟨rfl, rfl, rfl, rfl⟩)).handed
  | grl => exact (handOn_point s r (.inr ⟨rfl, rfl, rfl, rfl⟩)).handed
  | prb => exact (handOnProbe_handed s r).1
  | brd => exact handOnBoard_handed s r

end

theorem timers_mapTimers (m : Tme) (f : Timer → Timer) : (m.mapTimers f).timers = m.timers.map f := by
  unfold Tme.timers Tme.mapTimers
  dsimp only
  rw [List.filterMap_map, List.map_filterMap]
  exact List.filterMap_congr fun y _ => rfl

section
variable (s : State) {r : Reading}

/-- A probe that gives no temperature ends every PROBE stop (R57, R153). -/
theorem handOnProbe_bad (bad : r = .open ∨ r = .short) :
    (s.handOnProbe r).tme = (s.tme.mapTimers fun u => if u.probe.isSome then u.probeGone else u) ∧
      (∀ u ∈ s.tme.timers, u.probe ≠ none → ∀ q, s.timerAudience u q = true →
        ((s.handOnProbe r).ports.get q).posted.get .feedback = true) ∧
      (r = .short → (s.handOnProbe r).stc.faults.plain.probe = true) := by
  obtain rfl | rfl := bad
  · exact ⟨rfl, fun u slot stop q audience => loseProbe_told s slot stop audience, nofun⟩
  · refine ⟨?_, fun u slot stop q audience => ?_, fun _ => latch_plain s .probe⟩
    · change (s.latch (.plain .probe)).tme.mapTimers _ = _
      rw [State.latch_tme]
      rfl
    · refine loseProbe_told (s.latch (.plain .probe)) (by rw [State.latch_tme]; exact slot) stop ?_
      unfold State.timerAudience at audience ⊢
      rw [State.latch_ptc, State.latch_squ]
      exact audience

/-- A board sensor that gives no temperature latches SENSOR and holds the part (R149, R152). -/
theorem handOnBoard_bad (bad : r = .open ∨ r = .short) : s.handOnBoard r = (s.latch (.plain .sensor)).addHold .boardOvertemp := by
  obtain rfl | rfl := bad <;> rfl

theorem handOnBoard_tme (r : Reading) (op : (s.handOnBoard r).stc.op = s.stc.op) : (s.handOnBoard r).tme = s.tme := by
  cases r with
  | temp d =>
    unfold State.handOnBoard at op ⊢
    dsimp only at op ⊢
    split at op
    · next hot =>
      rw [if_pos hot]
      exact (boardHold s _ _).2.2.2.2 op
    · next mild =>
      rw [if_neg mild]
      split
      · rw [State.removeHold_eq]
      · rfl
  | unavailable =>
    change (s.removeHold .boardOvertemp).tme = _
    rw [State.removeHold_eq]
  | _ => exact (boardHold s _ _).2.2.2.2 op

end

/-- Settles O48. -/
theorem conversionsGiveReadings : Obligations.ConversionsGiveReadings := by
  intro c rest samples s left scan m ch deg r
  have reads : r = .open ∨ r = .short ∨ r = .temp deg := readingOf_cases _ _ _
  obtain ⟨t, ran, closed⟩ := event_closed (i := .conversionEnd samples) rfl nofun s
  have effect : s.effect (.conversionEnd samples) = (s.setSnu (s.snu.converted c rest r m s.tbu.seconds)).handOn c r :=
    endConversion_eq s left scan
  rw [effect] at closed
  have handed := handOn_handed (s.setSnu (s.snu.converted c rest r m s.tbu.seconds)) r c
  have points := fun (x : Point) (limit : Int) (f : PlainFlag) =>
    handOn_point (s.setSnu (s.snu.converted c rest r m s.tbu.seconds)) r (c := c) (x := x) (limit := limit) (f := f)
  have snu : t.snu = s.snu.converted c rest r m s.tbu.seconds := by
    rw [closed.snu, handed.rest]
    rfl
  obtain ⟨planner, demand, drive, whole⟩ := handed.close closed
  refine ⟨t, ran, snu, planner, demand, drive, ?_, fun x limit f of is => ?_, fun x of => ⟨fun bad gates => ?_, ?_⟩, fun bad other => ?_,
    fun is => ⟨?_, ?_⟩, fun is bad => ⟨?_, ?_, ?_⟩, fun is reads hot => ?_, fun is bad => ?_, fun is reads warm less => ?_,
    fun is reads cool => ?_, fun is op => ?_⟩
  · rw [snu]
    exact whole
  · have point := points x limit f of
    rw [closed.stc, closed.ptc]
    exact ⟨point.hot deg is, point.cool deg is, point.between deg is⟩
  · obtain ⟨limit, f, of⟩ : ∃ (limit : Int) (f : PlainFlag), c = .cav ∧ x = .ov ∧ limit = s.snu.cavLimit ∧ f = .cavOvertemp ∨
        c = .grl ∧ x = .gr ∧ limit = s.snu.grlLimit ∧ f = .grlOvertemp := by
      obtain ⟨a, b⟩ | ⟨a, b⟩ := of
      · exact ⟨_, _, .inl ⟨a, b, rfl, rfl⟩⟩
      · exact ⟨_, _, .inr ⟨a, b, rfl, rfl⟩⟩
    obtain ⟨-, fault, overtemp⟩ := (points x limit f of).failed bad
    rw [closed.ptc]
    exact ⟨fault gates.faultMarks, overtemp⟩
  · obtain ⟨limit, f, of⟩ : ∃ (limit : Int) (f : PlainFlag), c = .cav ∧ x = .ov ∧ limit = s.snu.cavLimit ∧ f = .cavOvertemp ∨
        c = .grl ∧ x = .gr ∧ limit = s.snu.grlLimit ∧ f = .grlOvertemp := by
      obtain ⟨a, b⟩ | ⟨a, b⟩ := of
      · exact ⟨_, _, .inl ⟨a, b, rfl, rfl⟩⟩
      · exact ⟨_, _, .inr ⟨a, b, rfl, rfl⟩⟩
    exact (closed.tme.trans (points x limit f of).tme).trans (mapTimers_congr s.tme (offerTemp_eq x deg reads))
  · rw [closed.stc]
    cases c with
    | cav => exact ((points .ov _ _ (.inl ⟨rfl, rfl, rfl, rfl⟩)).failed bad).1
    | grl => exact ((points .gr _ _ (.inr ⟨rfl, rfl, rfl, rfl⟩)).failed bad).1
    | prb => exact absurd rfl other
    | brd =>
      change ((s.setSnu _).handOnBoard r).stc.faults.plain.sensor = true
      rw [handOnBoard_bad _ bad, (boardHold _ _ _).2.2.1]
      exact latch_plain _ .sensor
  · subst is
    exact closed.ptc.trans (handOnProbe_handed _ r).2
  · subst is
    rw [closed.tme]
    change ((s.setSnu (s.snu.converted .prb rest r m s.tbu.seconds)).handOnProbe r).tme = _
    obtain bad | temp : (r = .open ∨ r = .short) ∨ r = .temp deg := or_assoc.2 reads
    · rw [(handOnProbe_bad _ bad).1]
      exact mapTimers_congr s.tme (probeGone_eq deg (by obtain is | is := bad <;> rw [is] <;> nofun))
    · rw [temp]
      exact mapTimers_congr s.tme (offerProbe_eq deg)
  · subst is
    intro u slot
    have tme : t.tme = _ := (closed.tme : t.tme = ((s.setSnu _).handOnProbe r).tme).trans (handOnProbe_bad _ bad).1
    rw [tme, timers_mapTimers, List.mem_map] at slot
    obtain ⟨v, -, rfl⟩ := slot
    cases stop : v.probe with
    | none => simp [stop]
    | some threshold => simp [Timer.probeGone]
  · subst is
    intro u slot stop q audience
    exact closed.keeps (c := .feedback) nofun
      ((handOnProbe_bad (s.setSnu (s.snu.converted .prb rest r m s.tbu.seconds)) bad).2.1 u slot stop q audience)
  · subst is
    rw [closed.stc]
    exact (handOnProbe_bad _ bad).2.2
  · subst is
    have eq : (s.setSnu (s.snu.converted .brd rest r m s.tbu.seconds)).handOn .brd r =
        ((s.setSnu (s.snu.converted .brd rest r m s.tbu.seconds)).latch (.plain .boardOvertemp)).addHold .boardOvertemp := by
      rw [reads]
      exact if_pos hot
    obtain ⟨-, held, faults, run, -⟩ := boardHold (s.setSnu (s.snu.converted .brd rest r m s.tbu.seconds)) .boardOvertemp
      (.plain .boardOvertemp)
    rw [closed.stc, eq, faults]
    exact ⟨latch_plain _ .boardOvertemp, held, run⟩
  · subst is
    obtain ⟨-, held, -, run, -⟩ := boardHold (s.setSnu (s.snu.converted .brd rest r m s.tbu.seconds)) .boardOvertemp (.plain .sensor)
    rw [closed.stc]
    change ((s.setSnu _).handOnBoard r).stc.holds.boardOvertemp = true ∧ (_ → _ → ((s.setSnu _).handOnBoard r).stc.op = .hold)
    rw [handOnBoard_bad _ bad]
    exact ⟨held, run⟩
  · subst is
    have eq : (s.setSnu (s.snu.converted .brd rest r m s.tbu.seconds)).handOn .brd r =
        s.setSnu (s.snu.converted .brd rest r m s.tbu.seconds) := by
      rw [reads]
      exact (if_neg (by omega)).trans (if_neg (by omega))
    rw [closed.stc, closed.ptc, eq]
    exact ⟨rfl, rfl⟩
  · subst is
    have eq : (s.setSnu (s.snu.converted .brd rest r m s.tbu.seconds)).handOn .brd r =
        (s.setSnu (s.snu.converted .brd rest r m s.tbu.seconds)).removeHold .boardOvertemp := by
      rw [reads]
      exact (if_neg (by omega)).trans (if_pos cool)
    rw [closed.stc, eq, State.removeHold_eq]
    exact ⟨PerHold.get_set_self _ .boardOvertemp _, rfl⟩
  · subst is
    exact closed.tme.trans (handOnBoard_tme _ r ((congrArg Stc.op closed.stc).symm.trans op))

end Sys2Proof.Machine

/-! # Gates that only close (R27, R34, R35, R115, R122) -/

namespace Sys2Proof.Machine

/-- A slot still named as it was: its probe stop, its owner and its point (R57, R199). -/
def Timer.Named (u v : Timer) : Prop := v.probe = u.probe ∧ v.owner = u.owner ∧ v.point = u.point

/-- Reasons only join, and exactly the loads and permission lines of the gates that close with them are withdrawn (R34, R35);
no SHORTFALL is posted, a pass in flight stays one, no slot is renamed, and a drive test that does not run stays as it is. -/
structure Shut (s t : State) : Prop where
  grows : ∀ x o, (s.ptc.reasons.get x).get o = true → (t.ptc.reasons.get x).get o = true
  loads : ∀ l, t.spl.withdrawals.get l = (s.spl.withdrawals.get l || (s.gateOpen l.point && !t.gateOpen l.point)) ∧
    t.dru.withdrawLoads.get l = (s.dru.withdrawLoads.get l || (s.gateOpen l.point && !t.gateOpen l.point))
  gas : ∀ z, t.dru.withdrawGas.get z = (s.dru.withdrawGas.get z || (s.gateOpen z.point && !t.gateOpen z.point))
  shortfall : ∀ q, (t.ports.get q).posted.get .shortfall = (s.ports.get q).posted.get .shortfall
  building : (∃ b, s.spl.pending = .building b) → ∃ b, t.spl.pending = .building b
  slots : ∀ u ∈ s.tme.timers, ∃ v ∈ t.tme.timers, u.Named v
  status : s.dru.test.status ≠ .running → t.dru.test.status = s.dru.test.status

theorem closing_self (w g : Bool) : (w || (g && !g)) = w := by cases w <;> cases g <;> rfl

/-- A gate that is open after reasons joined was open before. -/
theorem gateOpen_of_grows {s t : State} {x : Point} (grows : ∀ o, (s.ptc.reasons.get x).get o = true → (t.ptc.reasons.get x).get o = true)
    (open_ : t.gateOpen x = true) : s.gateOpen x = true := by
  rw [gateOpen_eq, clearReasons_iff] at open_ ⊢
  intro o
  by_contra has
  have joined := grows o (by simpa using has)
  rw [open_ o] at joined
  cases joined

theorem Shut.trans {s t u : State} (h : Shut s t) (k : Shut t u) : Shut s u := by
  have chain : ∀ (x : Point) (a b c : Bool), b = (a || (s.gateOpen x && !t.gateOpen x)) → c = (b || (t.gateOpen x && !u.gateOpen x)) →
      c = (a || (s.gateOpen x && !u.gateOpen x)) := fun x a b c first second => by
    have back := gateOpen_of_grows (h.grows x)
    have back' := gateOpen_of_grows (k.grows x)
    subst second first
    revert back back'
    cases s.gateOpen x <;> cases t.gateOpen x <;> cases u.gateOpen x <;> cases a <;> simp
  refine ⟨fun x o has => k.grows x o (h.grows x o has), fun l => ⟨chain _ _ _ _ (h.loads l).1 (k.loads l).1, chain _ _ _ _ (h.loads l).2
    (k.loads l).2⟩, fun z => chain _ _ _ _ (h.gas z) (k.gas z), fun q => (k.shortfall q).trans (h.shortfall q),
    fun b => k.building (h.building b), fun u slot => ?_, fun still => ?_⟩
  rotate_left
  · have same := h.status still
    exact (k.status (by rw [same]; exact still)).trans same
  obtain ⟨v, slot', probe, owner, point⟩ := h.slots u slot
  obtain ⟨w, slot'', probe', owner', point'⟩ := k.slots v slot'
  exact ⟨w, slot'', probe'.trans probe, owner'.trans owner, point'.trans point⟩

/-- Nothing of what `Shut` speaks of is touched. -/
theorem Shut.of_same {s t : State} (ptc : t.ptc.reasons = s.ptc.reasons) (withdrawals : t.spl.withdrawals = s.spl.withdrawals)
    (pending : t.spl.pending = s.spl.pending)
    (loads : t.dru.withdrawLoads = s.dru.withdrawLoads) (gas : t.dru.withdrawGas = s.dru.withdrawGas)
    (shortfall : ∀ q, (t.ports.get q).posted.get .shortfall = (s.ports.get q).posted.get .shortfall)
    (slots : ∀ u ∈ s.tme.timers, ∃ v ∈ t.tme.timers, u.Named v)
    (status : s.dru.test.status ≠ .running → t.dru.test.status = s.dru.test.status) : Shut s t := by
  have gate : ∀ x, t.gateOpen x = s.gateOpen x := gateOpen_congr ptc
  refine ⟨fun x o has => by rw [ptc]; exact has, fun l => ?_, fun z => ?_, shortfall, by rw [pending]; exact id, slots, status⟩
  · rw [withdrawals, loads, gate]
    exact ⟨(closing_self _ _).symm, (closing_self _ _).symm⟩
  · rw [gas, gate]
    exact (closing_self _ _).symm

theorem Shut.refl (s : State) : Shut s s :=
  .of_same rfl rfl rfl rfl rfl (fun _ => rfl) (fun u slot => ⟨u, slot, rfl, rfl, rfl⟩) fun _ => rfl

section
variable (s : State)

theorem setDru_shut {d : Dru} (loads : d.withdrawLoads = s.dru.withdrawLoads) (gas : d.withdrawGas = s.dru.withdrawGas)
    (status : d.test.status = s.dru.test.status) : Shut s (s.setDru d) :=
  .of_same rfl rfl rfl loads gas (fun _ => rfl) (fun u slot => ⟨u, slot, rfl, rfl, rfl⟩) fun _ => status

theorem postTo_shut {c : EventClass} (who : Port → Bool) (other : c ≠ .shortfall) : Shut s (s.postTo c who) :=
  .of_same rfl rfl rfl rfl rfl (fun q => by rw [State.postTo_posted]; simp [other.symm]) (fun u slot => ⟨u, slot, rfl, rfl, rfl⟩) fun _ => rfl

theorem latch_shut (i : FaultId) : Shut s (s.latch i) := by
  refine .of_same (by rw [State.latch_ptc]) (by rw [State.latch_spl]) (by rw [State.latch_spl]) (by rw [State.latch_dru])
    (by rw [State.latch_dru]) (fun q => latch_posted_ne s i q nofun) (fun u slot => ⟨u, by rw [State.latch_tme]; exact slot, rfl, rfl, rfl⟩)
    fun _ => by rw [State.latch_dru]

theorem Gas.point_injective {y z : Gas} (same : y.point = z.point) : y = z := by
  revert same
  cases y <;> cases z <;> decide

/-- The withdrawals that a change of one point's reasons brings, reasons only joining. -/
theorem changeReasons_withdrawn (x : Point) {r : PerReason Bool} (closes : s.gateOpen x = true) (shut : clearReasons r = false) :
    (∀ l, (s.changeReasons x r).spl.withdrawals.get l = (s.spl.withdrawals.get l || decide (l.point = x)) ∧
      (s.changeReasons x r).dru.withdrawLoads.get l = (s.dru.withdrawLoads.get l || decide (l.point = x))) ∧
      ∀ z : Gas, (s.changeReasons x r).dru.withdrawGas.get z = (s.dru.withdrawGas.get z || decide (z.point = x)) := by
  have changed : r ≠ s.ptc.reasons.get x := fun same => by
    rw [gateOpen_eq, ← same, shut] at closes
    cases closes
  obtain ⟨v, rest, eq, now⟩ := changeReasons_announced s x r changed
  have same : v.spl = s.spl ∧ v.dru = s.dru := by rw [rest]; exact ⟨rfl, rfl⟩
  rw [eq, ← same.1, ← same.2]
  unfold State.announceGate
  rw [closes, now, shut]
  cases gas : x.gas with
  | some z =>
    have loads : ∀ l : Load, l.point ≠ x := fun l at_ => by
      have := (Point.mem_loads l x).2 at_
      rw [Point.loads_of_gas gas] at this
      cases this
    have at_ : z.point = x := by
      revert gas
      cases x <;> cases z <;> decide
    refine ⟨fun l => ?_, fun y => ?_⟩
    · rw [decide_eq_false (loads l), Bool.or_false, Bool.or_false]
      exact ⟨rfl, rfl⟩
    · change (v.dru.withdrawGas.set z true).get y = _
      rw [PerGas.get_set, ← at_]
      by_cases is : y = z
      · subst is
        simp
      · rw [if_neg is, decide_eq_false fun same => is (Gas.point_injective same), Bool.or_false]
  | none =>
    have none_ : ∀ z : Gas, z.point ≠ x := fun z at_ => by
      rw [← at_] at gas
      revert gas
      cases z <;> decide
    refine ⟨fun l => ?_, fun z => ?_⟩
    · rw [show decide (l.point = x) = decide (l ∈ x.loads) from decide_eq_decide.2 (Point.mem_loads l x).symm]
      exact ⟨State.withdrawLoads_spl v x.loads l, State.withdrawLoads_dru v x.loads l⟩
    · rw [decide_eq_false (none_ z), Bool.or_false]
      have same : (v.withdrawLoads x.loads).dru.withdrawGas = v.dru.withdrawGas :=
        foldl_keeps (f := State.withdrawLoad) (fun s t => t.dru.withdrawGas = s.dru.withdrawGas) (fun _ => rfl)
          (fun h k => k.trans h) (fun _ _ => rfl) x.loads v
      exact congrArg (fun g => g.get z) same

end

end Sys2Proof.Machine

/-! # The Drive Unit's latchings close gates alone (R31, R34, R178) -/

namespace Sys2Proof.Machine

section
variable (s : State)

theorem changeReasons_shut (x : Point) {r : PerReason Bool} (grows : ∀ o, (s.ptc.reasons.get x).get o = true → r.get o = true) :
    Shut s (s.changeReasons x r) := by
  have ptc := changeReasons_ptc s x r
  have others : ∀ y, y ≠ x → (s.changeReasons x r).gateOpen y = s.gateOpen y := fun y other => by
    rw [gateOpen_eq, gateOpen_eq, ptc, PerPoint.get_set_ne _ _ other]
  have itself := changeReasons_gateOpen s x r
  have tme : (s.changeReasons x r).tme = s.tme := by rw [changeReasons_whole]
  refine ⟨fun y o has => ?_, ?_, ?_, fun q => ?_, (changeReasons_onward s x r).building,
    fun u slot => ⟨u, by rw [tme]; exact slot, rfl, rfl, rfl⟩, fun _ => by rw [(State.changeReasons_gateFrame s x r).dru]⟩
  · rw [ptc]
    dsimp only
    by_cases is : y = x
    · subst is
      rw [PerPoint.get_set_self]
      exact grows o has
    · rw [PerPoint.get_set_ne _ _ is]
      exact has
  all_goals by_cases closing : s.gateOpen x = true ∧ clearReasons r = false
  · obtain ⟨loads, -⟩ := changeReasons_withdrawn s x closing.1 closing.2
    intro l
    rw [(loads l).1, (loads l).2]
    by_cases at_ : l.point = x
    · rw [at_, itself, closing.1, closing.2, decide_eq_true rfl]
      exact ⟨rfl, rfl⟩
    · rw [others _ at_, decide_eq_false at_, closing_self, closing_self, Bool.or_false, Bool.or_false]
      exact ⟨rfl, rfl⟩
  · obtain ⟨spl, dru⟩ := changeReasons_releases s x r fun open_ => by simpa using fun h => closing ⟨open_, h⟩
    intro l
    rw [spl, dru]
    by_cases at_ : l.point = x
    · rw [at_, itself]
      cases open_ : s.gateOpen x
      · simp
      · have clear : clearReasons r = true := by simpa using fun h => closing ⟨open_, h⟩
        simp [clear]
    · rw [others _ at_, closing_self, closing_self]
      exact ⟨rfl, rfl⟩
  · obtain ⟨-, gas⟩ := changeReasons_withdrawn s x closing.1 closing.2
    intro z
    rw [gas z]
    by_cases at_ : z.point = x
    · rw [at_, itself, closing.1, closing.2, decide_eq_true rfl]
      rfl
    · rw [others _ at_, decide_eq_false at_, closing_self, Bool.or_false]
  · obtain ⟨spl, dru⟩ := changeReasons_releases s x r fun open_ => by simpa using fun h => closing ⟨open_, h⟩
    intro z
    rw [dru]
    by_cases at_ : z.point = x
    · rw [at_, itself]
      cases open_ : s.gateOpen x
      · simp
      · have clear : clearReasons r = true := by simpa using fun h => closing ⟨open_, h⟩
        simp [clear]
    · rw [others _ at_, closing_self]
  · rw [(changeReasons_portsAfter s x r).posted q .shortfall]
    simp
  · rw [(changeReasons_portsAfter s x r).posted q .shortfall]
    simp

theorem addReason_shut (x : Point) (o : Reason) : Shut s (s.addReason x o) :=
  changeReasons_shut s x fun p has => by rw [PerReason.get_set, has]; split <;> rfl

/-! ## Attribution that only grows (R31) -/

theorem onPoint_member {a b : Attribution} (grow : ∀ x, a.member x → b.member x) {x : Point} (changed : b.onPoint x ≠ a.onPoint x) :
    b.holds x = true := by
  rw [holds_iff]
  by_contra none
  exact changed ((onPoint_empty none).trans (onPoint_empty fun has => none (grow x has)).symm)

theorem setAttribution_shut {a : Attribution} (grow : ∀ x, s.ptc.attribution.member x → a.member x) : Shut s (s.setAttribution a) := by
  have step : ∀ v : State, v.ptc.attribution = a → ∀ p, Shut v (v.followAttribution p (s.ptc.attribution.onPoint p)) ∧
      (v.followAttribution p (s.ptc.attribution.onPoint p)).ptc.attribution = a := fun v sets p => by
    refine ⟨?_, by rw [(State.followAttribution_gateFrame v p _).ptc]; exact sets⟩
    unfold State.followAttribution
    split
    · exact Shut.refl v
    · next changed =>
      refine (postTo_shut v (c := .pointChanged) _ nofun).trans (changeReasons_shut _ p fun o has => ?_)
      rw [sets] at changed ⊢
      rw [onPoint_member grow changed, PerReason.get_set]
      split
      · rfl
      · exact has
  have fold : ∀ (ps : List Point) (v : State), v.ptc.attribution = a →
      Shut v (ps.foldl (fun v p => v.followAttribution p (s.ptc.attribution.onPoint p)) v) := by
    intro ps
    induction ps with
    | nil => exact fun v _ => Shut.refl v
    | cons p ps ih => exact fun v sets => (step v sets p).1.trans (ih _ (step v sets p).2)
  have before : Shut s (s.setPtc { s.ptc with attribution := a }) :=
    .of_same rfl rfl rfl rfl rfl (fun _ => rfl) (fun u slot => ⟨u, slot, rfl, rfl, rfl⟩) fun _ => rfl
  exact before.trans (fold Point.all _ rfl)

/-- Members that join leave every member there. -/
theorem member_mono {a b : Attribution} (drive : ∀ l, a.drive.get l = true → b.drive.get l = true)
    (stuckOn : ∀ l, a.stuckOn.get l = true → b.stuckOn.get l = true) (valve : b.valve = a.valve)
    (valveUnexpected : b.valveUnexpected = a.valveUnexpected) (cav : b.sensorCav = a.sensorCav) (grl : b.sensorGrl = a.sensorGrl)
    (x : Point) (has : a.member x) : b.member x := by
  unfold Attribution.member at has ⊢
  rw [valve, valveUnexpected, cav, grl]
  obtain ⟨l, at_, member⟩ | rest := has
  · exact .inl ⟨l, at_, member.imp (drive l) (stuckOn l)⟩
  · exact .inr rest

theorem set_grows (m : PerLoad Bool) (l k : Load) (has : m.get k = true) : (m.set l true).get k = true := by
  rw [PerLoad.get_set, has]
  split <;> rfl

/-! ## LOCKOUT entered (R69, R172) -/

theorem timers_mapped {m : Tme} {f : Timer → Timer} (named : ∀ u : Timer, u.Named (f u)) :
    ∀ u ∈ m.timers, ∃ v ∈ (m.mapTimers f).timers, u.Named v := fun u slot =>
  ⟨f u, by rw [timers_mapTimers]; exact List.mem_map_of_mem slot, named u⟩

theorem halted_named (u : Timer) : u.Named u.halted := by
  unfold Timer.halted
  split <;> exact ⟨rfl, rfl, rfl⟩

theorem haltGates_shut : Shut s s.haltGates :=
  foldl_keeps Shut Shut.refl Shut.trans (fun t p => addReason_shut t p .halted) Point.all s

theorem enterLockout_shut : Shut s (s.enterState .lockout) := by
  have stamped : ∀ q, ((s.stamped .lockout).ports.get q).posted.get .shortfall = (s.ports.get q).posted.get .shortfall := fun q => by
    unfold State.stamped State.abortTest
    dsimp only
    rw [if_neg nofun]
    split <;> simp [State.postTo_posted]
  have before : Shut s (s.enteredBeforeGates .lockout) := by
    refine .of_same ?_ ?_ ?_ ?_ ?_ (fun q => ?_) ?_ fun still => ?_
    all_goals simp only [State.enteredBeforeGates, State.setMasters, State.setTme, State.setDru]
    · rw [stamped_eq]
    · rw [stamped_eq]
    · rw [stamped_eq]
    · rw [stamped_eq]
    · rw [stamped_eq]
    · exact stamped q
    · rw [stamped_eq]
      exact timers_mapped halted_named
    · unfold State.stamped
      dsimp only
      rw [if_neg nofun, abortTest_status]
      exact if_neg still
  have eq : s.enterState .lockout = (s.enteredBeforeGates .lockout).haltGates := rfl
  rw [eq]
  exact before.trans (haltGates_shut _)

theorem requestLockout_shut : Shut s s.requestLockout := by
  obtain eq | ⟨eq, -⟩ := requestLockout_cases s <;> rw [eq]
  · exact enterLockout_shut s
  · exact Shut.refl s

/-! ## The latchings of a period boundary (R132, R134) -/

theorem latchStuck_shut (l : Load) : Shut s (s.latchStuck l) := by
  cases latched : s.stc.faults.stuckOn.get l with
  | true =>
    have same : s.latchStuck l = s := if_pos latched
    rw [same]
    exact Shut.refl s
  | false =>
    have eq : s.latchStuck l = _ := if_neg (by rw [latched]; nofun)
    rw [eq]
    refine (((latch_shut s _).trans (setAttribution_shut _ ?_)).trans (setDru_shut _ ?_ ?_ ?_)).trans (requestLockout_shut _)
    · rw [State.latch_ptc]
      exact member_mono (fun _ h => h) (set_grows _ l) rfl rfl rfl rfl
    · rfl
    · rfl
    · rfl

theorem latchDrive_shut (l : Load) : Shut s (s.latchDrive l) := by
  cases latched : s.stc.faults.drive.get l with
  | true =>
    have same : s.latchDrive l = s := if_pos latched
    rw [same]
    exact Shut.refl s
  | false =>
    have eq : s.latchDrive l = _ := if_neg (by rw [latched]; nofun)
    rw [eq]
    refine (latch_shut s _).trans (setAttribution_shut _ ?_)
    rw [State.latch_ptc]
    exact member_mono (set_grows _ l) (fun _ h => h) rfl rfl rfl rfl

theorem judge_shut (l : Load) (count : Nat) : Shut s (s.judge l count) := by
  have standing : ∀ v, Shut s (s.setStanding l v) := fun _ => setDru_shut s rfl rfl rfl
  unfold State.judge
  split
  · exact (standing _).trans (latchDrive_shut _ l)
  · exact standing _

end

end Sys2Proof.Machine

/-! # The Drive Unit at a period boundary (R132, R134) -/

namespace Sys2Proof.Machine

/-! ## The stuck-on check (R134) -/

/-- A STUCK_ON member. -/
def FaultId.isStuck : FaultId → Prop
  | .stuckOn _ => True
  | _ => False

/-- The stuck-on check of some loads. -/
structure StuckRuled (s u : State) : Prop where
  guarded : Guarded FaultId.isStuck Dru.ems s u
  shut : Shut s u
  dru : u.dru = { s.dru with
    withdrawLoads := u.dru.withdrawLoads, withdrawGas := u.dru.withdrawGas, gms := u.dru.gms, ems := u.dru.ems
    test := { s.dru.test with status := u.dru.test.status }, findings := u.dru.findings }
  others : ∀ i, ¬ i.isStuck → u.stc.faults.get i = s.stc.faults.get i

theorem StuckRuled.refl (s : State) : StuckRuled s s := ⟨Guarded.refl s, Shut.refl s, rfl, fun _ _ => rfl⟩

theorem StuckRuled.trans {s u v : State} (h : StuckRuled s u) (k : StuckRuled u v) : StuckRuled s v := by
  refine ⟨h.guarded.trans k.guarded, h.shut.trans k.shut, ?_, fun i other => (k.others i other).trans (h.others i other)⟩
  rw [k.dru, h.dru]

section
variable (s : State) (l : Load)

theorem latchStuck_ruled : StuckRuled s (s.latchStuck l) ∧
    ∀ k, (s.latchStuck l).stc.faults.stuckOn.get k = (s.stc.faults.stuckOn.get k || decide (k = l)) := by
  have shut := latchStuck_shut s l
  cases latched : s.stc.faults.stuckOn.get l with
  | true =>
    have same : s.latchStuck l = s := if_pos latched
    rw [same]
    refine ⟨StuckRuled.refl s, fun k => ?_⟩
    by_cases is : k = l
    · rw [is, latched]
      rfl
    · rw [decide_eq_false is, Bool.or_false]
  | false =>
    obtain ⟨tripped, low⟩ := latchStuck_trips s latched
    refine ⟨⟨tripped.guarded (i := .stuckOn l) trivial latched low, shut, ?_, fun i other => ?_⟩, fun k => ?_⟩
    · have drive := tripped.drive
      unfold DriveKept at drive
      rw [drive]
    · have apart : i ≠ .stuckOn l := fun is => other (is ▸ trivial)
      rw [tripped.faults i, decide_eq_false apart, Bool.or_false]
    · refine (tripped.faults (.stuckOn k)).trans ?_
      simp [Faults.get]

/-- The Drive Unit's findings replaced. -/
theorem setFindings_ruled (f : PerLoad Bool) : StuckRuled s (s.setDru { s.dru with findings := f }) :=
  ⟨⟨setDru_judged s _, fun _ => ⟨rfl, rfl, rfl⟩, fun _ _ clear latched => absurd (clear.symm.trans latched) nofun, id⟩,
    setDru_shut s rfl rfl rfl, rfl, fun _ _ => rfl⟩

/-- The stuck-on check of one load, where it is fitted. -/
def State.examine (fit : Load → Bool) (s : State) (l : Load) : State := if fit l then s.checkStuck l else s

theorem examine_ruled (fit : Load → Bool) : StuckRuled s (s.examine fit l) ∧
    (∀ k, (s.examine fit l).dru.findings.get k = if k = l ∧ fit l then s.dru.counts.stuck l else s.dru.findings.get k) ∧
    ∀ k, (s.examine fit l).stc.faults.stuckOn.get k = (s.stc.faults.stuckOn.get k || (decide (k = l) && (fit l && s.dru.counts.stuck l))) := by
  unfold State.examine
  cases fitted : fit l with
  | false =>
    refine ⟨StuckRuled.refl s, fun k => (if_neg (by simp)).symm, fun k => ?_⟩
    rw [Bool.false_and, Bool.and_false, Bool.or_false]
    rfl
  | true =>
    rw [if_pos rfl]
    have stored := setFindings_ruled s (s.dru.findings.set l (s.dru.counts.stuck l))
    have read : ∀ k, (s.dru.findings.set l (s.dru.counts.stuck l)).get k =
        if k = l ∧ true = true then s.dru.counts.stuck l else s.dru.findings.get k := fun k => by
      rw [PerLoad.get_set]
      by_cases is : k = l <;> simp [is]
    unfold State.checkStuck
    dsimp only
    cases stuck : s.dru.counts.stuck l with
    | false =>
      rw [stuck] at stored read
      refine ⟨stored, read, fun k => ?_⟩
      simp
    | true =>
      rw [stuck] at stored read
      obtain ⟨ruled, flag⟩ := latchStuck_ruled (s.setDru { s.dru with findings := s.dru.findings.set l true }) l
      refine ⟨stored.trans ruled, fun k => ?_, fun k => ?_⟩
      · have tripped : ((s.setDru { s.dru with findings := s.dru.findings.set l true }).latchStuck l).dru.findings =
            s.dru.findings.set l true := by
          cases latched : s.stc.faults.stuckOn.get l with
          | true => exact congrArg (fun v : State => v.dru.findings) (if_pos latched)
          | false =>
            have drive := (latchStuck_trips (s.setDru { s.dru with findings := s.dru.findings.set l true }) (l := l) latched).1.drive
            unfold DriveKept at drive
            rw [drive]
            rfl
        rw [if_pos rfl, tripped]
        exact read k
      · rw [if_pos rfl, flag k, Bool.and_self, Bool.and_true]
        rfl

theorem examineAll (fit : Load → Bool) : StuckRuled s (Load.all.foldl (State.examine fit) s) ∧
    (∀ k, (Load.all.foldl (State.examine fit) s).dru.findings.get k =
      if fit k then s.dru.counts.stuck k else s.dru.findings.get k) ∧
    ∀ k, (Load.all.foldl (State.examine fit) s).stc.faults.stuckOn.get k =
      (s.stc.faults.stuckOn.get k || (fit k && s.dru.counts.stuck k)) := by
  have rule := fun u k => examine_ruled u k fit
  have counts : ∀ (u : State) (k : Load), (u.examine fit k).dru.counts = u.dru.counts := fun u k => by rw [(rule u k).1.dru]
  refine ⟨foldl_keeps StuckRuled StuckRuled.refl StuckRuled.trans (fun u k => (rule u k).1) _ s, fun k => ?_, fun k => ?_⟩
  · have finding := fun (u : State) x => (rule u x).2.1
    rw [foldl_each (fun u y => u.dru.findings.get y) (fun u y => if fit y then u.dru.counts.stuck y else u.dru.findings.get y)
      (fun u x => ?_) (fun u x y other => ?_) (fun u x y other => ?_) Load.all s (by decide) k, if_pos (Load.mem_all k)]
    · rw [finding]
      simp
    · rw [finding, if_neg fun h => other h.1]
    · rw [counts, finding, if_neg fun h : y = x ∧ fit x = true => other h.1]
  · have flag := fun (u : State) x => (rule u x).2.2
    rw [foldl_each (fun u y => u.stc.faults.stuckOn.get y) (fun u y => u.stc.faults.stuckOn.get y || (fit y && u.dru.counts.stuck y))
      (fun u x => ?_) (fun u x y other => ?_) (fun u x y other => ?_) Load.all s (by decide) k, if_pos (Load.mem_all k)]
    · rw [flag u x x, decide_eq_true rfl, Bool.true_and]
    · rw [flag u x y, decide_eq_false other, Bool.false_and, Bool.or_false]
    · rw [flag u x y, decide_eq_false other, Bool.false_and, Bool.or_false, counts]

/-! ## The verifier (R132) -/

/-- Whether the period that ends gives a verdict on a load. -/
def State.verdictOn (s : State) (l : Load) : Bool := decide (s.dru.verifier.verified = some l) && s.dru.verifier.usable

/-- The result of a verdict stored, before its judgement. -/
def State.resultStored (s : State) (k : Load) : State := s.setDru { s.dru with verifier := { s.dru.verifier with
  last := some { load := k, count := s.dru.counts.verify, pass := s.dru.counts.verify ≤ s.dru.verifier.tolerance } } }

/-- What the end of a period leaves of the verifier. -/
structure Verified (s u : State) : Prop where
  judged : Judged s u
  shut : Shut s u
  dru : u.dru = { s.dru with
    withdrawLoads := u.dru.withdrawLoads, withdrawGas := u.dru.withdrawGas, standing := u.dru.standing
    verifier := { s.dru.verifier with last := u.dru.verifier.last } }
  op : u.stc.op = s.stc.op
  others : ∀ i, (∀ l, i ≠ .drive l) → u.stc.faults.get i = s.stc.faults.get i
  drive : ∀ l, u.stc.faults.drive.get l = (s.stc.faults.drive.get l ||
    (s.verdictOn l && decide (s.dru.verifier.tolerance < s.dru.counts.verify)))
  standing : ∀ l, u.dru.standing.get l =
    if s.verdictOn l then testOutcome s.dru.verifier.tolerance s.dru.counts.verify else s.dru.standing.get l
  last : ∀ l, s.verdictOn l = true → u.dru.verifier.last =
    some { load := l, count := s.dru.counts.verify, pass := s.dru.counts.verify ≤ s.dru.verifier.tolerance }

theorem verify_verified : Verified s s.verify := by
  have none : (∀ l, s.verdictOn l = false) → s.verify = s → Verified s s.verify := fun quiet same => by
    rw [same]
    exact ⟨Judged.refl s, Shut.refl s, rfl, rfl, fun _ _ => rfl, fun l => by rw [quiet, Bool.false_and, Bool.or_false],
      fun l => by rw [quiet]; rfl, fun l verdict => absurd (verdict.symm.trans (quiet l)) nofun⟩
  cases verified : s.dru.verifier.verified with
  | none => exact none (fun l => by simp [State.verdictOn, verified]) (by unfold State.verify; rw [verified])
  | some k =>
    cases usable : s.dru.verifier.usable with
    | false => exact none (fun l => by simp [State.verdictOn, usable]) (by unfold State.verify; rw [verified, usable]; rfl)
    | true =>
      have on : ∀ l, s.verdictOn l = decide (l = k) := fun l => by
        unfold State.verdictOn
        rw [verified, usable, Bool.and_true]
        exact decide_eq_decide.2 ⟨fun h => (Option.some.inj h).symm, fun h => congrArg some h.symm⟩
      have eq : s.verify = (s.resultStored k).judge k s.dru.counts.verify := by
        unfold State.verify
        rw [verified, usable]
        rfl
      obtain ⟨judged, dru, faults, op⟩ := judge_verdict (s.resultStored k) k s.dru.counts.verify
      have shut := (setDru_shut s rfl rfl rfl : Shut s (s.resultStored k)).trans (judge_shut (s.resultStored k) k s.dru.counts.verify)
      rw [eq]
      refine ⟨(setDru_judged s _ : Judged s (s.resultStored k)).trans judged, shut, ?_, op, fun i other => ?_, fun l => ?_, fun l => ?_, fun l verdict => ?_⟩
      · rw [dru]
        rfl
      · rw [faults i, decide_eq_false (other k), Bool.false_and, Bool.or_false]
        rfl
      · rw [on]
        refine (faults (.drive l)).trans ?_
        rw [show decide (FaultId.drive l = .drive k) = decide (l = k) from decide_eq_decide.2 (by simp)]
        rfl
      · rw [dru, on]
        refine (PerLoad.get_set _ _ _ _).trans ?_
        by_cases is : l = k <;> simp [is, State.resultStored]
      · rw [on, decide_eq_true_iff] at verdict
        subst verdict
        rw [dru]
        rfl

/-! ## The whole period (R132, R134) -/

theorem checkAllStuck_eq : s.checkAllStuck = if s.dru.allSampled then Load.all.foldl (State.examine s.fitted) s else s := by
  unfold State.checkAllStuck
  rw [show State.examine s.fitted = fun t l => if s.fitted l then t.checkStuck l else t from rfl]

/-- What a period boundary leaves of the Drive Unit, after the lines of slice 0. -/
structure PeriodDriven (s u : State) : Prop where
  judged : Judged s u
  shut : Shut s u
  dru : u.dru = { s.dru with
    withdrawLoads := u.dru.withdrawLoads, withdrawGas := u.dru.withdrawGas, gms := u.dru.gms, ems := u.dru.ems
    test := { s.dru.test with status := u.dru.test.status }
    standing := u.dru.standing, findings := u.dru.findings
    verifier := { s.dru.verifier with
      last := u.dru.verifier.last
      verified := s.chooseVerified
      position := if s.dru.verifier.mode = .auto then s.autoLoad.or s.dru.verifier.position else s.dru.verifier.position
      usable := decide (s.dru.test.status ≠ .running) || s.dru.test.exhausted }
    counts := { s.dru.counts with verify := 0, driven := .of fun _ => 0, closedLow := .of fun _ => 0 }
    allSampled := true }
  drive : ∀ l, u.stc.faults.drive.get l = (s.stc.faults.drive.get l ||
    (s.verdictOn l && decide (s.dru.verifier.tolerance < s.dru.counts.verify)))
  standing : ∀ l, u.dru.standing.get l =
    if s.verdictOn l then testOutcome s.dru.verifier.tolerance s.dru.counts.verify else s.dru.standing.get l
  last : ∀ l, s.verdictOn l = true → u.dru.verifier.last =
    some { load := l, count := s.dru.counts.verify, pass := s.dru.counts.verify ≤ s.dru.verifier.tolerance }
  findings : ∀ l, u.dru.findings.get l = if s.dru.allSampled && s.fitted l then s.dru.counts.stuck l else s.dru.findings.get l
  stuckOn : ∀ l, u.stc.faults.stuckOn.get l =
    (s.stc.faults.stuckOn.get l || (s.dru.allSampled && s.fitted l && s.dru.counts.stuck l))
  quiet : (∀ l, u.stc.faults.stuckOn.get l = s.stc.faults.stuckOn.get l) → u.stc.op = s.stc.op ∧ u.dru.ems = s.dru.ems
  trips : ∀ l, s.stc.faults.stuckOn.get l = false → u.stc.faults.stuckOn.get l = true →
    u.dru.ems = false ∧ (s.stc.op ≠ .selftest → u.stc.op = .lockout)

/-- The stuck-on check of the loads, where every slice was sampled. -/
theorem checkAllStuck_ruled : StuckRuled s s.checkAllStuck ∧
    (∀ l, s.checkAllStuck.dru.findings.get l =
      if s.dru.allSampled && s.fitted l then s.dru.counts.stuck l else s.dru.findings.get l) ∧
    ∀ l, s.checkAllStuck.stc.faults.stuckOn.get l =
      (s.stc.faults.stuckOn.get l || (s.dru.allSampled && s.fitted l && s.dru.counts.stuck l)) := by
  rw [checkAllStuck_eq]
  cases s.dru.allSampled with
  | false =>
    refine ⟨StuckRuled.refl s, fun l => rfl, fun l => ?_⟩
    rw [Bool.false_and, Bool.false_and, Bool.or_false]
    rfl
  | true => exact examineAll s s.fitted

theorem drivePeriod_driven : PeriodDriven s s.drivePeriod := by
  have verdict := verify_verified s
  have eq : s.drivePeriod = s.verify.startVerifier.checkAllStuck.startStuckCounts := rfl
  rw [eq]
  generalize s.verify = a at *
  obtain ⟨judged, shut, dru, op, others, drive, standing, last⟩ := verdict
  have planner := judged.planner
  have fitted : a.fitted = s.fitted := by
    unfold State.fitted
    rw [planner]
  have auto : a.autoLoad = s.autoLoad := by
    unfold State.autoLoad
    rw [fitted, dru]
  have chosen : a.chooseVerified = s.chooseVerified := by
    unfold State.chooseVerified
    rw [fitted, auto, dru]
  have bDru : a.startVerifier.dru = { s.dru with
      withdrawLoads := a.dru.withdrawLoads, withdrawGas := a.dru.withdrawGas, standing := a.dru.standing
      verifier := { s.dru.verifier with
        last := a.dru.verifier.last
        verified := s.chooseVerified
        position := if s.dru.verifier.mode = .auto then s.autoLoad.or s.dru.verifier.position else s.dru.verifier.position
        usable := decide (s.dru.test.status ≠ .running) || s.dru.test.exhausted }
      counts := { s.dru.counts with verify := 0 } } := by
    unfold State.startVerifier
    dsimp only [State.setDru]
    rw [chosen, auto, dru]
  have bJudged : Judged a a.startVerifier := setDru_judged a _
  have bShut : Shut a a.startVerifier := setDru_shut a rfl rfl rfl
  have bStc : a.startVerifier.stc = a.stc := rfl
  have bFitted : a.startVerifier.fitted = s.fitted := fitted
  generalize a.startVerifier = b at *
  obtain ⟨⟨guarded, cShut, cDru, cOthers⟩, findings, flags⟩ := checkAllStuck_ruled b
  have bCounts : b.dru.counts = { s.dru.counts with verify := 0 } := by rw [bDru]
  have bSampled : b.dru.allSampled = s.dru.allSampled := by rw [bDru]
  have bStuck : ∀ l, b.dru.counts.stuck l = s.dru.counts.stuck l := fun l => by rw [bCounts]; rfl
  have aStuck : ∀ l, a.stc.faults.stuckOn.get l = s.stc.faults.stuckOn.get l := fun l => others (.stuckOn l) nofun
  have bMasters : b.dru.ems = s.dru.ems := by rw [bDru]
  generalize b.checkAllStuck = c at *
  have dJudged : Judged c c.startStuckCounts := setDru_judged c _
  have dShut : Shut c c.startStuckCounts := setDru_shut c rfl rfl rfl
  have dDru : c.startStuckCounts.dru = { c.dru with
      counts := { c.dru.counts with driven := .of fun _ => 0, closedLow := .of fun _ => 0 }, allSampled := true } := rfl
  have dStc : c.startStuckCounts.stc = c.stc := rfl
  generalize c.startStuckCounts = d at *
  refine ⟨((judged.trans bJudged).trans guarded.judged).trans dJudged, ((shut.trans bShut).trans cShut).trans dShut, ?_, fun l => ?_,
    fun l => ?_, fun l verdict => ?_, fun l => ?_, fun l => ?_, fun same => ?_, fun l clear latched => ?_⟩
  · rw [dDru, cDru, bDru]
  · rw [dStc, ← drive l, ← bStc]
    exact cOthers (.drive l) id
  · rw [dDru, cDru, bDru]
    exact standing l
  · rw [dDru, cDru, bDru]
    exact last l verdict
  · rw [dDru, findings l, bSampled, bFitted, bStuck, bDru, dru]
  · rw [dStc, flags l, bSampled, bFitted, bStuck, bStc, aStuck]
  · obtain ⟨op', -, ems⟩ := guarded.quiet fun i stuck => by
      cases i with
      | stuckOn l =>
        refine Eq.trans ?_ ((same l).trans ?_)
        · rw [dStc]
          rfl
        · rw [bStc]
          exact (aStuck l).symm
      | _ => exact absurd stuck id
    rw [dStc, op', bStc, op, dDru, ← bMasters]
    exact ⟨rfl, ems⟩
  · rw [dStc] at latched
    obtain ⟨low, lock⟩ := guarded.trips (.stuckOn l) trivial (by
      rw [bStc]
      exact (aStuck l).trans clear) latched
    rw [dStc, dDru]
    exact ⟨low, fun busy => lock (by rw [bStc, op]; exact busy)⟩

end

end Sys2Proof.Machine

/-! # What a boundary does after the Drive Unit's part (R2, R11, R57, R144, R152, R159, R165) -/

namespace Sys2Proof.Machine

/-- Nothing of the Drive Unit, the fault record or the operating state moves, no reason joins, and none but OVERTEMP leaves. -/
structure After (s t : State) : Prop where
  dru : t.dru = s.dru
  stc : t.stc = { s.stc with holds := t.stc.holds }
  planner : PlannerKept s t
  withdrawals : t.spl.withdrawals = s.spl.withdrawals
  onward : Onward s t
  points : t.ptc = { s.ptc with reasons := t.ptc.reasons }
  reasons : ∀ x o, o ≠ .overtemp → (t.ptc.reasons.get x).get o = (s.ptc.reasons.get x).get o
  lifted : ∀ x, (t.ptc.reasons.get x).overtemp = true → (s.ptc.reasons.get x).overtemp = true
  shortfall : ∀ q, (t.ports.get q).posted.get .shortfall = (s.ports.get q).posted.get .shortfall
  clock : t.tbu.slice = s.tbu.slice ∧ t.tbu.seconds = s.tbu.seconds ∧ t.tbu.timeOfDay = s.tbu.timeOfDay
  rest : t = { s with
    tbu := t.tbu, ptc := t.ptc, tme := t.tme, spl := t.spl, snu := t.snu, alc := t.alc, stc := t.stc, ports := t.ports }

theorem After.refl (s : State) : After s s :=
  ⟨rfl, rfl, rfl, rfl, Onward.refl s, rfl, fun _ _ _ => rfl, fun _ h => h, fun _ => rfl, ⟨rfl, rfl, rfl⟩, rfl⟩

theorem After.trans {s t u : State} (h : After s t) (k : After t u) : After s u := by
  refine ⟨k.dru.trans h.dru, ?_, ?_, k.withdrawals.trans h.withdrawals, h.onward.trans k.onward, ?_,
    fun x o other => (k.reasons x o other).trans (h.reasons x o other), fun x has => h.lifted x (k.lifted x has),
    fun q => (k.shortfall q).trans (h.shortfall q),
    ⟨k.clock.1.trans h.clock.1, k.clock.2.1.trans h.clock.2.1, k.clock.2.2.trans h.clock.2.2⟩, ?_⟩
  · rw [k.stc, h.stc]
  · have a := h.planner
    have b := k.planner
    unfold PlannerKept at *
    rw [b, a]
  · rw [k.points, h.points]
  · rw [k.rest, h.rest]

section
variable (s : State)

theorem setAlc_after (v : Alc) : After s (s.setAlc v) :=
  ⟨rfl, rfl, rfl, rfl, setAlc_onward s v, rfl, fun _ _ _ => rfl, fun _ h => h, fun _ => rfl, ⟨rfl, rfl, rfl⟩, rfl⟩

theorem setTme_after (v : Tme) : After s (s.setTme v) :=
  ⟨rfl, rfl, rfl, rfl, setTme_onward s v, rfl, fun _ _ _ => rfl, fun _ h => h, fun _ => rfl, ⟨rfl, rfl, rfl⟩, rfl⟩

theorem setSnu_after (v : Snu) : After s (s.setSnu v) :=
  ⟨rfl, rfl, rfl, rfl, .of_same rfl rfl, rfl, fun _ _ _ => rfl, fun _ h => h, fun _ => rfl, ⟨rfl, rfl, rfl⟩, rfl⟩

theorem postTo_after {c : EventClass} (who : Port → Bool) (other : c ≠ .shortfall) : After s (s.postTo c who) :=
  ⟨rfl, rfl, rfl, rfl, postTo_onward s c who, rfl, fun _ _ _ => rfl, fun _ h => h,
    fun q => by rw [State.postTo_posted]; simp [other.symm], ⟨rfl, rfl, rfl⟩, rfl⟩

theorem removeHold_after (h : Hold) : After s (s.removeHold h) := by
  have eq := State.removeHold_eq s h
  have shortfall : ∀ q, ((s.removeHold h).ports.get q).posted.get .shortfall = (s.ports.get q).posted.get .shortfall := fun q => by
    unfold State.removeHold
    split
    · rw [(storeHolds_portsAfter s _).posted q .shortfall]
      simp [toAll]
    · rfl
  have posts := removeHold_postsStay s h
  refine ⟨by rw [eq], by rw [eq], ?_, by rw [eq], ⟨by rw [eq]; exact id, posts⟩, by rw [eq], ?_, ?_, shortfall, ?_, ?_⟩
  · unfold PlannerKept
    rw [eq]
  · rw [eq]
    exact fun _ _ _ => rfl
  · rw [eq]
    exact fun _ h => h
  · rw [eq]
    exact ⟨rfl, rfl, rfl⟩
  · rw [eq]

/-- OVERTEMP that leaves can open a gate and closes none (R33, R34). -/
theorem removeOvertemp_after (x : Point) : After s (s.removeReason x .overtemp) := by
  have ptc := changeReasons_ptc s x ((s.ptc.reasons.get x).set .overtemp false)
  have whole := changeReasons_whole s x ((s.ptc.reasons.get x).set .overtemp false)
  have opens : s.gateOpen x = true → clearReasons ((s.ptc.reasons.get x).set .overtemp false) = true := fun open_ => by
    rw [gateOpen_eq, clearReasons_iff] at open_
    rw [clearReasons_iff]
    intro o
    rw [PerReason.get_set]
    split
    · rfl
    · exact open_ o
  obtain ⟨withdrawals, dru⟩ := changeReasons_releases s x _ opens
  have posted := (changeReasons_portsAfter s x ((s.ptc.reasons.get x).set .overtemp false)).posted
  have planner := (State.changeReasons_gateFrame s x ((s.ptc.reasons.get x).set .overtemp false)).spl
  have onward := changeReasons_onward s x ((s.ptc.reasons.get x).set .overtemp false)
  have eq : s.removeReason x .overtemp = s.changeReasons x ((s.ptc.reasons.get x).set .overtemp false) := rfl
  rw [eq]
  refine ⟨dru, by rw [whole], planner, withdrawals, onward, by rw [ptc], fun y o other => ?_, fun y has => ?_, fun q => ?_,
    by rw [whole]; exact ⟨rfl, rfl, rfl⟩, by rw [whole, dru]⟩
  · rw [ptc]
    dsimp only
    by_cases is : y = x
    · subst is
      rw [PerPoint.get_set_self, PerReason.get_set_ne _ _ other]
    · rw [PerPoint.get_set_ne _ _ is]
  · rw [ptc] at has
    dsimp only at has
    by_cases is : y = x
    · subst is
      rw [PerPoint.get_set_self] at has
      exact absurd (has.symm.trans (PerReason.get_set_self _ .overtemp _)) nofun
    · rw [PerPoint.get_set_ne _ _ is] at has
      exact has
  · rw [posted q .shortfall]
    simp

theorem loseProbe_after : After s s.loseProbe := (setTme_after s _).trans (postTo_after _ (c := .feedback) _ nofun)

theorem qualifyCrystal_after : After s s.qualifyCrystal := by
  have first : After s ((s.setTbu ({ s.tbu with crystal := .qualified }.switched .xtal)).postAll .timebaseChanged) :=
    ⟨rfl, rfl, rfl, rfl, ⟨id, (postTo_portsAfter (s.setTbu ({ s.tbu with crystal := .qualified }.switched .xtal)) .timebaseChanged _).postsStay⟩, rfl, fun _ _ _ => rfl, fun _ h => h,
      fun q => by rw [State.postAll_eq, State.postTo_posted]; simp [State.setTbu], ⟨rfl, rfl, rfl⟩, rfl⟩
  exact first.trans (removeHold_after _ _)

/-! ## A channel that the scan no longer takes (R144, R148) -/

/-- What the loss of a channel makes of a slot (R49, R57). -/
def Timer.unread (c : Sensor) (u : Timer) : Timer :=
  match c with
  | .cav => u.offerTemp .ov .unavailable
  | .grl => u.offerTemp .gr .unavailable
  | .prb => if u.probe.isSome then u.probeGone else u
  | .brd => u

/-- The Sensing Unit with a channel UNAVAILABLE (R144). -/
def Snu.unread (n : Snu) (c : Sensor) (now : BitVec 32) : Snu :=
  { n with
    channels := n.channels.set c { n.channels.get c with reading := .unavailable, mean := none, updatedAt := some now } }

/-- A channel updated to UNAVAILABLE. -/
structure Unread (c : Sensor) (s u : State) : Prop where
  after : After s u
  snu : u.snu = s.snu.unread c s.tbu.seconds
  tme : u.tme = s.tme.mapTimers (Timer.unread c)
  alc : u.alc = s.alc
  tbu : u.tbu = s.tbu
  overtemp : ∀ x, (u.ptc.reasons.get x).overtemp =
    if c = .cav ∧ x = .ov ∨ c = .grl ∧ x = .gr then false else (s.ptc.reasons.get x).overtemp
  hold : u.stc.holds = if c = .brd then s.stc.holds.set .boardOvertemp false else s.stc.holds
  told : c = .prb → ∀ v ∈ s.tme.timers, v.probe ≠ none → ∀ q, s.timerAudience v q = true → (u.ports.get q).posted.get .feedback = true

theorem mapTimers_same (m : Tme) : m.mapTimers (fun u => u) = m := by
  unfold Tme.mapTimers Slot.mapTimer
  simp

theorem point_unread {c : Sensor} {x : Point} (of : c = .cav ∧ x = .ov ∨ c = .grl ∧ x = .gr)
    (eq : s.updateSensor c .unavailable none = ((s.setSnu (s.snu.unread c s.tbu.seconds)).removeReason x .overtemp).setTme
      (((s.setSnu (s.snu.unread c s.tbu.seconds)).removeReason x .overtemp).tme.mapTimers (Timer.unread c))) :
    Unread c s (s.updateSensor c .unavailable none) := by
  have first := setSnu_after s (s.snu.unread c s.tbu.seconds)
  have removed := removeOvertemp_after (s.setSnu (s.snu.unread c s.tbu.seconds)) x
  obtain ⟨-, stc, tme, none_⟩ := removeOvertemp (s.setSnu (s.snu.unread c s.tbu.seconds)) x
  have whole := changeReasons_whole (s.setSnu (s.snu.unread c s.tbu.seconds)) x
    (((s.setSnu (s.snu.unread c s.tbu.seconds)).ptc.reasons.get x).set .overtemp false)
  have ptc := changeReasons_ptc (s.setSnu (s.snu.unread c s.tbu.seconds)) x
    (((s.setSnu (s.snu.unread c s.tbu.seconds)).ptc.reasons.get x).set .overtemp false)
  change (s.setSnu (s.snu.unread c s.tbu.seconds)).removeReason x .overtemp = _ at whole
  change ((s.setSnu (s.snu.unread c s.tbu.seconds)).removeReason x .overtemp).ptc = _ at ptc
  have point : ∀ y, (c = .cav ∧ y = .ov ∨ c = .grl ∧ y = .gr) ↔ y = x := fun y => by
    obtain ⟨rfl, rfl⟩ | ⟨rfl, rfl⟩ := of <;> simp
  have other : c ≠ .brd ∧ c ≠ .prb := by obtain ⟨rfl, rfl⟩ | ⟨rfl, rfl⟩ := of <;> exact ⟨nofun, nofun⟩
  rw [eq]
  refine ⟨(first.trans removed).trans (setTme_after _ _), ?_, ?_, ?_, ?_, fun y => ?_, ?_, fun probe => absurd probe other.2⟩
  · change ((s.setSnu (s.snu.unread c s.tbu.seconds)).removeReason x .overtemp).snu = _
    rw [whole]
    rfl
  · change ((s.setSnu (s.snu.unread c s.tbu.seconds)).removeReason x .overtemp).tme.mapTimers _ = _
    rw [tme]
    rfl
  · change ((s.setSnu (s.snu.unread c s.tbu.seconds)).removeReason x .overtemp).alc = _
    rw [whole]
    rfl
  · change ((s.setSnu (s.snu.unread c s.tbu.seconds)).removeReason x .overtemp).tbu = _
    rw [whole]
    rfl
  · simp only [point]
    change (((s.setSnu (s.snu.unread c s.tbu.seconds)).removeReason x .overtemp).ptc.reasons.get y).overtemp = _
    by_cases is : y = x
    · rw [if_pos is, is]
      exact none_
    · rw [if_neg is, ptc]
      exact congrArg (fun r : PerReason Bool => r.overtemp) (PerPoint.get_set_ne _ _ is)
  · rw [if_neg other.1]
    change ((s.setSnu (s.snu.unread c s.tbu.seconds)).removeReason x .overtemp).stc.holds = _
    rw [stc]
    rfl

theorem updateSensor_unread (c : Sensor) : Unread c s (s.updateSensor c .unavailable none) := by
  cases c with
  | cav => exact point_unread s (.inl ⟨rfl, rfl⟩) rfl
  | grl => exact point_unread s (.inr ⟨rfl, rfl⟩) rfl
  | prb =>
    have eq : s.updateSensor .prb .unavailable none = (s.setSnu (s.snu.unread .prb s.tbu.seconds)).loseProbe := rfl
    rw [eq]
    exact ⟨(setSnu_after s _).trans (loseProbe_after _), rfl, rfl, rfl, rfl, fun x => (if_neg (by simp)).symm, rfl,
      fun _ v slot stop q audience => loseProbe_told _ slot stop audience⟩
  | brd =>
    have eq : s.updateSensor .brd .unavailable none = (s.setSnu (s.snu.unread .brd s.tbu.seconds)).removeHold .boardOvertemp := rfl
    have whole := State.removeHold_eq (s.setSnu (s.snu.unread .brd s.tbu.seconds)) .boardOvertemp
    have after := removeHold_after (s.setSnu (s.snu.unread .brd s.tbu.seconds)) .boardOvertemp
    rw [eq]
    refine ⟨(setSnu_after s _).trans after, ?_, ?_, ?_, ?_, fun x => ?_, ?_, nofun⟩
    · rw [whole]
      rfl
    · rw [whole]
      exact (mapTimers_same _).symm
    · rw [whole]
      rfl
    · rw [whole]
      rfl
    · rw [whole]
      exact (if_neg (by simp)).symm
    · rw [whole]
      rfl

end

end Sys2Proof.Machine

/-! # The second tick (R2, R16, R52, R144, R159) -/

namespace Sys2Proof.Machine

/-! ## A scan begins (R144) -/

/-- Whether the last scan begun took a channel that the next one does not (R144, log 36). -/
def Snu.loses (n : Snu) (c : Sensor) : Bool := n.lastScan.get c && !n.scans c

/-- A channel updated to UNAVAILABLE where the scan loses it. -/
def State.drop (lost : Bool) (c : Sensor) (s : State) : State := if lost then s.updateSensor c .unavailable none else s

/-- A channel that the scan may lose. -/
structure Unscanned (lost : Bool) (c : Sensor) (s u : State) : Prop where
  after : After s u
  snu : u.snu = if lost then s.snu.unread c s.tbu.seconds else s.snu
  tme : u.tme = s.tme.mapTimers fun v => if lost then v.unread c else v
  alc : u.alc = s.alc
  tbu : u.tbu = s.tbu
  overtemp : ∀ x, (u.ptc.reasons.get x).overtemp =
    if lost = true ∧ (c = .cav ∧ x = .ov ∨ c = .grl ∧ x = .gr) then false else (s.ptc.reasons.get x).overtemp
  hold : u.stc.holds = if lost = true ∧ c = .brd then s.stc.holds.set .boardOvertemp false else s.stc.holds
  told : lost = true → c = .prb → ∀ v ∈ s.tme.timers, v.probe ≠ none → ∀ q, s.timerAudience v q = true →
    (u.ports.get q).posted.get .feedback = true

theorem drop_unscanned (lost : Bool) (c : Sensor) (s : State) : Unscanned lost c s (s.drop lost c) := by
  cases lost with
  | false =>
    exact ⟨After.refl s, rfl, (mapTimers_same _).symm, rfl, rfl, fun x => (if_neg (by simp)).symm, (if_neg (by simp)).symm, nofun⟩
  | true =>
    obtain ⟨after, snu, tme, alc, tbu, overtemp, hold, told⟩ := updateSensor_unread s c
    rw [show s.drop true c = s.updateSensor c .unavailable none from rfl]
    exact ⟨after, snu, tme, alc, tbu, fun x => by simpa using overtemp x, by simpa using hold, fun _ => told⟩

theorem beginScan_eq (s : State) : s.beginScan = State.drop (s.snu.loses .brd) .brd (State.drop (s.snu.loses .prb) .prb
    (State.drop (s.snu.loses .grl) .grl (State.drop (s.snu.loses .cav) .cav (s.setSnu s.snu.scanBegun)))) := rfl

/-- CAV is in every scan. -/
theorem loses_cav (n : Snu) : n.loses .cav = false := by simp [Snu.loses, Snu.scans]

/-- What the beginning of a scan makes of a slot: `grl` and `prb` say which of the two channels it loses (R49, R57). -/
def Timer.scanned (grl prb : Prop) [Decidable grl] [Decidable prb] (v : Timer) : Timer :=
  { v with
    tempMark := match v.phase, v.start with
      | .waiting, .atTemp _ => if v.point = some .gr ∧ grl then false else v.tempMark
      | _, _ => v.tempMark
    probe := if prb then none else v.probe
    probeMark := if v.probe ≠ none ∧ prb then false else v.probeMark }

theorem scanned_eq (grl prb : Bool) (v : Timer) :
    (if prb then (if grl then v.unread .grl else v).unread .prb else if grl then v.unread .grl else v) = v.scanned grl prb := by
  have temp : (if grl then v.unread .grl else v) = { v with
      tempMark := match v.phase, v.start with
        | .waiting, .atTemp _ => if v.point = some .gr ∧ grl = true then false else v.tempMark
        | _, _ => v.tempMark } := by
    obtain ⟨kind, point, owner, phase, duration, remaining, start, probe, follower, pause, level, endCause, tick, temp, mark⟩ := v
    cases phase with
    | waiting =>
      cases start with
      | atTemp threshold =>
        cases grl with
        | false => simp
        | true => by_cases at_ : point = some .gr <;> simp [Timer.unread, Timer.offerTemp, at_]
      | _ => cases grl <;> rfl
    | _ => cases grl <;> rfl
  rw [temp]
  unfold Timer.scanned
  cases prb with
  | false => simp
  | true =>
    unfold Timer.unread Timer.probeGone
    cases v.probe <;> simp

/-- A scan begun. -/
structure Scanned (s u : State) : Prop where
  after : After s u
  alc : u.alc = s.alc
  tbu : u.tbu = s.tbu
  snu : u.snu = { s.snu with
    scanN := some s.snu.averaging
    lastScan := .of s.snu.scans
    scanLeft := Sensor.all.filter s.snu.scans
    channels := .of fun c =>
      if s.snu.loses c then
        { s.snu.channels.get c with reading := .unavailable, mean := none, updatedAt := some s.tbu.seconds }
      else s.snu.channels.get c }
  tme : u.tme = s.tme.mapTimers (Timer.scanned (s.snu.loses .grl) (s.snu.loses .prb))
  overtemp : ∀ x, (u.ptc.reasons.get x).overtemp =
    if x = .gr ∧ s.snu.loses .grl = true then false else (s.ptc.reasons.get x).overtemp
  hold : u.stc.holds.boardOvertemp = if s.snu.loses .brd then false else s.stc.holds.boardOvertemp
  told : s.snu.loses .prb = true → ∀ v ∈ s.tme.timers, v.probe ≠ none → ∀ q, s.timerAudience v q = true →
    (u.ports.get q).posted.get .feedback = true

theorem mapTimers_mapTimers (m : Tme) (f g : Timer → Timer) : (m.mapTimers f).mapTimers g = m.mapTimers fun v => g (f v) := by
  unfold Tme.mapTimers Slot.mapTimer
  simp [Function.comp_def]

theorem unread_named {c : Sensor} (other : c ≠ .prb) (v : Timer) : v.Named (v.unread c) := by
  have temp : ∀ x, v.Named (v.offerTemp x .unavailable) := fun x => by
    unfold Timer.offerTemp
    split
    · split <;> exact ⟨rfl, rfl, rfl⟩
    · split <;> exact ⟨rfl, rfl, rfl⟩
    · exact ⟨rfl, rfl, rfl⟩
  cases c with
  | cav => exact temp .ov
  | grl => exact temp .gr
  | prb => exact absurd rfl other
  | brd => exact ⟨rfl, rfl, rfl⟩

/-- The ports that hear of a slot are read from what a rename would change (R199). -/
theorem audience_of_named {s t : State} (squ : t.squ = s.squ) (panel : t.ptc.panel = s.ptc.panel) {u v : Timer} (named : u.Named v) (q : Port) :
    t.timerAudience v q = s.timerAudience u q := by
  obtain ⟨-, owner, point⟩ := named
  unfold State.timerAudience
  rw [squ, panel, owner, point]

section
variable (n : Snu) (lost : Bool) (c : Sensor) (now : BitVec 32)

theorem unreadIf_rest : (if lost then n.unread c now else n) = { n with channels := (if lost then n.unread c now else n).channels } := by
  cases lost <;> rfl

theorem unreadIf_get (k : Sensor) : (if lost then n.unread c now else n).channels.get k =
    if lost = true ∧ k = c then { n.channels.get c with reading := .unavailable, mean := none, updatedAt := some now }
    else n.channels.get k := by
  cases lost with
  | false => exact (if_neg (by simp)).symm
  | true =>
    rw [if_pos rfl]
    refine (PerSensor.get_set _ _ _ _).trans ?_
    simp

end

theorem beginScan_scanned (s : State) : Scanned s s.beginScan := by
  obtain ⟨scan, begun⟩ : ∃ scan, s.setSnu s.snu.scanBegun = scan := ⟨_, rfl⟩
  have first := drop_unscanned (s.snu.loses .cav) .cav scan
  rw [beginScan_eq, begun]
  rw [loses_cav] at first ⊢
  generalize State.drop false .cav scan = a at *
  have second := drop_unscanned (s.snu.loses .grl) .grl a
  generalize State.drop (s.snu.loses .grl) .grl a = b at *
  have third := drop_unscanned (s.snu.loses .prb) .prb b
  generalize State.drop (s.snu.loses .prb) .prb b = d at *
  have fourth := drop_unscanned (s.snu.loses .brd) .brd d
  generalize State.drop (s.snu.loses .brd) .brd d = e at *
  have after := setSnu_after s s.snu.scanBegun
  rw [begun] at after
  have tme : b.tme = s.tme.mapTimers fun v => if s.snu.loses .grl then v.unread .grl else v := by
    rw [second.tme, first.tme]
    have same : scan.tme = s.tme := by rw [← begun]; rfl
    rw [same]
    exact congrArg (Tme.mapTimers _) (mapTimers_same _)
  have seconds : a.tbu.seconds = s.tbu.seconds ∧ b.tbu.seconds = s.tbu.seconds ∧ d.tbu.seconds = s.tbu.seconds := by
    have same : scan.tbu = s.tbu := by rw [← begun]; rfl
    rw [third.tbu, second.tbu, first.tbu, same]
    exact ⟨rfl, rfl, rfl⟩
  have toB := (after.trans first.after).trans second.after
  refine ⟨(toB.trans third.after).trans fourth.after, ?_, ?_, ?_, ?_, fun x => ?_, ?_, fun lost v slot stop q audience => ?_⟩
  · rw [fourth.alc, third.alc, second.alc, first.alc, ← begun]
    rfl
  · rw [fourth.tbu, third.tbu, second.tbu, first.tbu, ← begun]
    rfl
  · have chain : e.snu = { s.snu.scanBegun with channels := e.snu.channels } := by
      rw [fourth.snu, unreadIf_rest, third.snu, unreadIf_rest, second.snu, unreadIf_rest, first.snu, ← begun]
      rfl
    have each : e.snu.channels = .of fun c => if s.snu.loses c then
        { s.snu.channels.get c with reading := .unavailable, mean := none, updatedAt := some s.tbu.seconds }
        else s.snu.channels.get c := PerSensor.eq_of_get fun c => by
      have base : scan.snu.channels = s.snu.channels := by rw [← begun]; rfl
      have aGet : a.snu.channels = s.snu.channels := by rw [first.snu, if_neg Bool.false_ne_true, base]
      have bGet := fun k => congrArg (fun n : Snu => n.channels.get k) second.snu
      have dGet := fun k => congrArg (fun n : Snu => n.channels.get k) third.snu
      have eGet := fun k => congrArg (fun n : Snu => n.channels.get k) fourth.snu
      simp only [unreadIf_get, aGet, seconds.1, seconds.2.1, seconds.2.2] at bGet dGet eGet
      rw [PerSensor.get_of]
      cases c <;> simp [eGet, dGet, bGet, loses_cav]
    rw [chain, each]
    rfl
  · rw [fourth.tme, third.tme, tme, mapTimers_mapTimers, mapTimers_mapTimers]
    refine congrArg (fun f => s.tme.mapTimers f) (funext fun v => ?_)
    rw [← scanned_eq]
    split <;> rfl
  · rw [fourth.overtemp, third.overtemp, second.overtemp, first.overtemp, ← begun]
    simp [and_comm]
  · have same : d.stc.holds = s.stc.holds := by
      rw [third.hold, second.hold, first.hold, if_neg (by simp), if_neg (by simp), if_neg (by simp), ← begun]
      rfl
    rw [fourth.hold, same]
    cases s.snu.loses .brd with
    | false => rfl
    | true => exact PerHold.get_set_self _ .boardOvertemp _
  · obtain ⟨w, slot', named⟩ : ∃ w ∈ b.tme.timers, v.Named w := by
      rw [tme]
      refine timers_mapped (fun u => ?_) v slot
      split
      · exact unread_named (c := .grl) nofun u
      · exact ⟨rfl, rfl, rfl⟩
    refine fourth.after.onward.posts _ _ (third.told lost rfl w slot' (by rw [named.1]; exact stop) q ?_)
    have squ : b.squ = s.squ := by rw [toB.rest]
    have panel : b.ptc.panel = s.ptc.panel := by rw [toB.points]
    exact (audience_of_named squ panel named q).trans audience

end Sys2Proof.Machine

/-! # SLICE_BOUNDARY, part by part (R2, R11, R52, R159, R165) -/

namespace Sys2Proof.Machine

/-! ## The second tick -/

/-- The second tick does to a slot what R52 says. -/
theorem tick_eq (u : Timer) : u.tick = ticked u := by
  obtain ⟨kind, point, owner, phase, duration, remaining, start, probe, follower, pause, level, endCause, tick, temp, mark⟩ := u
  cases phase with
  | waiting =>
    cases start with
    | atTime start k =>
      unfold Timer.tick ticked
      dsimp only
      by_cases few : k ≤ 1
      · rw [if_pos few, if_neg (by omega)]
      · rw [if_neg few, if_pos (by omega)]
    | _ => rfl
  | started =>
    unfold Timer.tick ticked Timer.running
    dsimp only
    rw [decide_eq_true rfl, Bool.true_and]
    cases paused : (Timer.mk kind point owner .started duration remaining start probe follower pause level endCause tick temp mark).paused with
    | true => rfl
    | false =>
      rw [if_neg Bool.false_ne_true, Bool.not_false, if_pos rfl]
      by_cases few : remaining ≤ 1
      · rw [if_pos few, if_neg (by omega)]
      · rw [if_neg few, if_pos (by omega)]
  | expired => rfl

theorem tick_named (u : Timer) : u.Named u.tick := by
  unfold Timer.tick
  split
  · split <;> exact ⟨rfl, rfl, rfl⟩
  · split
    · exact ⟨rfl, rfl, rfl⟩
    · split <;> exact ⟨rfl, rfl, rfl⟩
  · exact ⟨rfl, rfl, rfl⟩

/-- Whether the scan of a second tick loses a channel: none begins in SELFTEST (R144). -/
def State.losing (s : State) (c : Sensor) : Bool := s.stc.op ≠ .selftest && s.snu.loses c

theorem scanned_none (v : Timer) : v.scanned (false = true) (false = true) = v := by
  obtain ⟨kind, point, owner, phase, duration, remaining, start, probe, follower, pause, level, endCause, tick, temp, mark⟩ := v
  unfold Timer.scanned
  cases phase with
  | waiting => cases start <;> simp
  | _ => simp

/-- The second tick. -/
structure SecondTicked (s u : State) : Prop where
  after : After s u
  tbu : u.tbu = s.tbu
  alc : u.alc = { s.alc with entries := s.alc.entries.map (Alert.escalated s.tbu.seconds) }
  asleep : s.stc.op = .selftest → u.snu = s.snu
  snu : s.stc.op ≠ .selftest → u.snu = { s.snu with
    scanN := some s.snu.averaging
    lastScan := .of s.snu.scans
    scanLeft := Sensor.all.filter s.snu.scans
    channels := .of fun c =>
      if s.snu.loses c then
        { s.snu.channels.get c with reading := .unavailable, mean := none, updatedAt := some s.tbu.seconds }
      else s.snu.channels.get c }
  tme : u.tme = s.tme.mapTimers fun v => (ticked v).scanned (s.losing .grl) (s.losing .prb)
  overtemp : ∀ x, (u.ptc.reasons.get x).overtemp =
    if x = .gr ∧ s.losing .grl = true then false else (s.ptc.reasons.get x).overtemp
  hold : u.stc.holds.boardOvertemp = if s.losing .brd then false else s.stc.holds.boardOvertemp
  told : s.losing .prb = true → ∀ v ∈ s.tme.timers, v.probe ≠ none → ∀ q, s.timerAudience v q = true →
    (u.ports.get q).posted.get .feedback = true

theorem secondTick_ticked (s : State) : SecondTicked s s.secondTick := by
  obtain ⟨t, ticks⟩ : ∃ t, (s.setTme (s.tme.mapTimers Timer.tick)).escalate = t := ⟨_, rfl⟩
  have eq : s.secondTick = if t.stc.op = .selftest then t else t.beginScan := by rw [← ticks]; rfl
  have stc : t.stc = s.stc := by rw [← ticks]; rfl
  have tme : t.tme = s.tme.mapTimers ticked := by rw [← ticks, ← show Timer.tick = ticked from funext tick_eq]; rfl
  have snu : t.snu = s.snu := by rw [← ticks]; rfl
  have tbu : t.tbu = s.tbu := by rw [← ticks]; rfl
  have alc : t.alc = { s.alc with entries := s.alc.entries.map (Alert.escalated s.tbu.seconds) } := by rw [← ticks]; rfl
  have ptc : t.ptc = s.ptc := by rw [← ticks]; rfl
  have squ : t.squ = s.squ := by rw [← ticks]; rfl
  have after : After s t := by rw [← ticks]; exact (setTme_after s _).trans (setAlc_after _ _)
  rw [eq, stc]
  by_cases test : s.stc.op = .selftest
  · rw [if_pos test]
    have none_ : ∀ c, s.losing c = false := fun c => by simp [State.losing, test]
    refine ⟨after, tbu, alc, fun _ => snu, fun busy => absurd test busy, ?_, fun x => ?_, ?_, fun lost => ?_⟩
    · rw [tme, none_, none_]
      exact congrArg (fun f => s.tme.mapTimers f) (funext fun v => (scanned_none _).symm)
    · rw [none_, ptc]
      exact (if_neg (by simp)).symm
    · rw [none_, stc]
      rfl
    · rw [none_] at lost
      cases lost
  · rw [if_neg test]
    have lost : ∀ c, s.losing c = s.snu.loses c := fun c => by simp [State.losing, test]
    obtain ⟨after', alc', tbu', snu', tme', overtemp, hold, told⟩ := beginScan_scanned t
    rw [snu] at snu' tme' hold told
    rw [tbu] at snu'
    refine ⟨after.trans after', tbu'.trans tbu, alc'.trans alc, fun op => absurd op test, fun _ => snu', ?_, fun x => ?_, ?_,
      fun gone v slot stop q audience => ?_⟩
    · rw [tme', tme, mapTimers_mapTimers, lost, lost]
    · rw [overtemp, snu, ptc, lost]
    · rw [hold, stc, lost]
    · rw [lost] at gone
      obtain ⟨w, slot', named⟩ : ∃ w ∈ t.tme.timers, v.Named w := by
        rw [tme, ← show Timer.tick = ticked from funext tick_eq]
        exact timers_mapped tick_named v slot
      exact told gone w slot' (by rw [named.1]; exact stop) q
        ((audience_of_named squ (by rw [ptc]) named q).trans audience)

/-! ## The crystal qualifies (R11) -/

/-- The end of a boundary: the switch to XTAL where the crystal has qualified. -/
def State.maybeQualify (s : State) : State := if s.tbu.source = .rc ∧ s.tbu.qualRun = 4 then s.qualifyCrystal else s

/-- What the end of a boundary leaves. -/
structure Ended (s u : State) : Prop where
  after : After s u
  tme : u.tme = s.tme
  alc : u.alc = s.alc
  snu : u.snu = s.snu
  ptc : u.ptc = s.ptc
  hold : u.stc.holds.boardOvertemp = s.stc.holds.boardOvertemp
  tbu : u.tbu = if s.tbu.source = .rc ∧ s.tbu.qualRun = 4 then { s.tbu with crystal := .qualified }.switched .xtal else s.tbu
  timebase : s.tbu.source = .rc → s.tbu.qualRun = 4 → u.stc.holds.timebase = false

theorem maybeQualify_ended (s : State) : Ended s s.maybeQualify := by
  unfold State.maybeQualify
  by_cases ready : s.tbu.source = .rc ∧ s.tbu.qualRun = 4
  · rw [if_pos ready]
    have eq := State.removeHold_eq ((s.setTbu ({ s.tbu with crystal := .qualified }.switched .xtal)).postAll .timebaseChanged) .timebase
    have whole : s.qualifyCrystal =
        ((s.setTbu ({ s.tbu with crystal := .qualified }.switched .xtal)).postAll .timebaseChanged).removeHold .timebase := rfl
    rw [← whole] at eq
    refine ⟨qualifyCrystal_after s, by rw [eq]; rfl, by rw [eq]; rfl, by rw [eq]; rfl, by rw [eq]; rfl, ?_, ?_, fun _ _ => ?_⟩
    · rw [eq]
      exact PerHold.get_set_ne _ (i := .timebase) (j := .boardOvertemp) _ nofun
    · rw [eq, if_pos ready]
      rfl
    · rw [eq]
      exact PerHold.get_set_self _ .timebase _
  · rw [if_neg ready]
    exact ⟨After.refl s, rfl, rfl, rfl, rfl, rfl, (if_neg ready).symm, fun rc four => absurd ⟨rc, four⟩ ready⟩

theorem sliceBoundary_eq (s : State) (x m c : Nat) : s.sliceBoundary x m c =
    (if isEven ((s.boundaryPlan x m c).boundaryDrive).setBuzzer.tbu.slice then
      ((s.boundaryPlan x m c).boundaryDrive).setBuzzer.secondTick else ((s.boundaryPlan x m c).boundaryDrive).setBuzzer).maybeQualify := by
  unfold State.sliceBoundary State.maybeQualify
  rfl

end Sys2Proof.Machine

/-! # SLICE_BOUNDARY as a whole, and O20 (R2, R11) -/

namespace Sys2Proof.Machine

section
variable (s : State)

/-- The planner's part of a boundary reaches the planner and the pending sets alone, beside the slice that has ended. -/
theorem boundaryPlan_rest (x m c : Nat) : s.boundaryPlan x m c = { s with
    tbu := s.tbu.endSlice x m c, spl := (s.boundaryPlan x m c).spl, ports := (s.boundaryPlan x m c).ports } := by
  unfold State.boundaryPlan
  dsimp only
  split <;> rfl

theorem boundaryPlan_posts (x m c : Nat) : PostsStay s (s.boundaryPlan x m c) := by
  unfold State.boundaryPlan
  dsimp only
  split
  · exact (postTo_portsAfter (s.setTbu (s.tbu.endSlice x m c)) .shortfall _).postsStay
  · exact PostsStay.refl s

/-- The lines of the slice that has begun (R121 to R126). -/
def State.lined (s : State) : State := (s.setDru s.dru.endSlice).setDriveLines

/-- The Drive Unit's part of a boundary. -/
structure Driven (s d : State) : Prop where
  judged : Judged s d
  shut : Shut s.lined d
  same : s.tbu.slice ≠ 0 → d = s.lined.openSlice
  period : s.tbu.slice = 0 → ∃ p, PeriodDriven s.lined p ∧ d = p.openSlice

theorem lined_rest : s.lined = s.setDru s.lined.dru := rfl

theorem openSlice_judged : Judged s s.openSlice := setDru_judged s _

theorem openSlice_shut : Shut s s.openSlice := setDru_shut s rfl rfl rfl

theorem boundaryDrive_driven : Driven s s.boundaryDrive := by
  have eq : s.boundaryDrive = (if s.tbu.slice = 0 then s.lined.drivePeriod else s.lined).openSlice := rfl
  have first : Judged s s.lined := setDru_judged s s.lined.dru
  rw [eq]
  by_cases zero : s.tbu.slice = 0
  · rw [if_pos zero]
    have driven := drivePeriod_driven s.lined
    exact ⟨(first.trans driven.judged).trans (openSlice_judged _), driven.shut.trans (openSlice_shut _), fun other => absurd zero other,
      fun _ => ⟨_, driven, rfl⟩⟩
  · rw [if_neg zero]
    exact ⟨first.trans (openSlice_judged _), openSlice_shut _, fun _ => rfl, fun is => absurd is zero⟩

/-- A boundary as a chain of its parts: `b` after the planner, `d` after the Drive Unit, `e` after the buzzer, `f` after the
second tick, `g` at its end. -/
structure Boundary (s : State) (x m c : Nat) (b d e f g : State) : Prop where
  plan : b = s.boundaryPlan x m c
  drive : Driven b d
  buzzer : e = d.setBuzzer
  even : isEven (s.tbu.slice + 1) = true → SecondTicked e f
  odd : isEven (s.tbu.slice + 1) = false → f = e
  finish : Ended f g

theorem sliceBoundary_parts (x m c : Nat) : ∃ b d e f, Boundary s x m c b d e f (s.sliceBoundary x m c) := by
  have slice : ((s.boundaryPlan x m c).boundaryDrive).setBuzzer.tbu.slice = s.tbu.slice + 1 := by
    change ((s.boundaryPlan x m c).boundaryDrive).tbu.slice = _
    rw [(boundaryDrive_driven _).judged.rest]
    change (s.boundaryPlan x m c).tbu.slice = _
    rw [boundaryPlan_rest]
    rfl
  rw [sliceBoundary_eq, slice]
  refine ⟨_, _, _, _, rfl, boundaryDrive_driven _, rfl, fun even => ?_, fun odd => ?_, maybeQualify_ended _⟩
  · rw [if_pos even]
    exact secondTick_ticked _
  · rw [if_neg (by rw [odd]; nofun)]

end

section
variable {s b d e f g : State} {x m c : Nat} (h : Boundary s x m c b d e f g)
include h

theorem Boundary.planned : b = { s with tbu := s.tbu.endSlice x m c, spl := b.spl, ports := b.ports } := by
  rw [h.plan]
  exact boundaryPlan_rest s x m c

theorem Boundary.after : After d g := by
  have buzz : After d e := by
    rw [h.buzzer]
    exact setAlc_after d _
  refine (buzz.trans ?_).trans h.finish.after
  cases even : isEven (s.tbu.slice + 1) with
  | true => exact (h.even even).after
  | false =>
    rw [h.odd even]
    exact After.refl e

theorem Boundary.tbu : f.tbu = s.tbu.endSlice x m c := by
  have last : f.tbu = e.tbu := by
    cases even : isEven (s.tbu.slice + 1) with
    | true => exact (h.even even).tbu
    | false => rw [h.odd even]
  have drive : d.tbu = b.tbu := by rw [h.drive.judged.rest]
  rw [last, h.buzzer]
  change d.tbu = _
  rw [drive, h.planned]

theorem Boundary.clock : g.tbu.slice = s.tbu.slice + 1 ∧
    g.tbu.seconds = (if isEven (s.tbu.slice + 1) then s.tbu.seconds + 1 else s.tbu.seconds) ∧
    g.tbu.timeOfDay = (if isEven (s.tbu.slice + 1) then s.tbu.timeOfDay.map nextTime else s.tbu.timeOfDay) := by
  obtain ⟨slice, seconds, time⟩ := h.finish.after.clock
  rw [slice, seconds, time, h.tbu]
  exact ⟨rfl, rfl, rfl⟩

end

/-- Settles O20. -/
theorem fourRcSlicesQualifyTheCrystal : Obligations.FourRcSlicesQualifyTheCrystal := by
  intro x m c s rc few
  obtain ⟨t, ran, closed⟩ := event_closed (i := .sliceBoundary x m c) rfl nofun s
  obtain ⟨b, d, e, f, parts⟩ := sliceBoundary_parts s x m c
  change Closed none s (s.sliceBoundary x m c) t at closed
  generalize s.sliceBoundary x m c = g at *
  have tbu := parts.finish.tbu
  have timebase := parts.finish.timebase
  rw [parts.tbu] at tbu timebase
  have source : (s.tbu.endSlice x m c).source = .rc := rc
  have run : (s.tbu.endSlice x m c).qualRun = if s.tbu.slicePasses x then s.tbu.qualRun + 1 else 0 := by
    change s.tbu.nextQualRun (s.tbu.counts x m c).1 = _
    unfold Tbu.nextQualRun Tbu.counts
    rw [rc, if_pos rfl]
    dsimp only
    rw [Nat.min_eq_right (by omega)]
  have passes : s.tbu.sliceCrystal = true → 15074 ≤ x → x ≤ 17694 → s.tbu.slicePasses x = true := fun crystal low high => by
    simp [Tbu.slicePasses, Config.qualifyLow, Config.qualifyHigh, crystal, low, high]
  refine ⟨t, ran, fun crystal low high three => ?_, fun crystal low high less => ?_, fun fails => ?_⟩
  · have four : (s.tbu.endSlice x m c).qualRun = 4 := by rw [run, passes crystal low high, three]; rfl
    rw [if_pos ⟨source, four⟩] at tbu
    rw [closed.tbu, closed.stc, tbu]
    exact ⟨rfl, rfl, timebase source four, rfl⟩
  · have more : (s.tbu.endSlice x m c).qualRun = s.tbu.qualRun + 1 := by rw [run, passes crystal low high]; rfl
    rw [if_neg fun ready => by omega] at tbu
    rw [closed.tbu, tbu]
    exact ⟨source, more⟩
  · have fail : s.tbu.slicePasses x = false := by
      rw [← Bool.not_eq_true]
      simp only [Tbu.slicePasses, Config.qualifyLow, Config.qualifyHigh, Bool.and_eq_true, decide_eq_true_eq, not_and]
      intro crystal high
      obtain none | low | over_ := fails
      · rw [none] at crystal
        cases crystal.1
      · omega
      · omega
    have zero : (s.tbu.endSlice x m c).qualRun = 0 := by rw [run, fail]; rfl
    rw [if_neg fun ready => by omega] at tbu
    rw [closed.tbu, tbu]
    exact ⟨source, zero⟩

end Sys2Proof.Machine

/-! # O19 (R2, R3, R16, R52, R144, R159, R165, R167) -/

namespace Sys2Proof.Machine

/-! ## Timer entries through the end of a command (R157, R161) -/

/-- The timer entries of a list that was followed are its timer entries. -/
theorem timers_followed (s t : State) (es : List Alert) :
    (es.filterMap (followedEntry s t)).filter Alert.isTimer = es.filter Alert.isTimer := by
  induction es with
  | nil => rfl
  | cons e es ih =>
    cases timer : e.isTimer with
    | true => simp [followedEntry_timer timer, timer, ih]
    | false =>
      cases next : followedEntry s t e with
      | none => simp [next, timer, ih]
      | some f =>
        have kind : f.isTimer = false := (followedEntry_isTimer next).trans timer
        simp [next, timer, kind, ih]

/-- The end of a command leaves the timer entries as its effect left them. -/
theorem Closed.timerEntries {who : Option Port} {s u t : State} (closed : Closed who s u t) :
    t.alc.entries.filter Alert.isTimer = u.alc.entries.filter Alert.isTimer := by
  by_cases test : u.stc.op = .selftest
  · rw [closed.asleep test]
  · rw [closed.followed test, List.filter_append]
    have joined : (((SystemCause.all.filter fun c => u.causePresent c && !s.causePresent c && u.alc.entries.all fun e => !e.forCause c).map
        fun c => systemEntry c u.tbu.seconds).filter Alert.isTimer) = [] := by
      rw [List.filter_eq_nil_iff]
      intro e member
      obtain ⟨c, -, rfl⟩ := List.mem_map.1 member
      nofun
    rw [joined, List.append_nil, timers_followed]

theorem escalated_entries (now : BitVec 32) (es : List Alert) :
    (es.map (Alert.escalated now)).filter Alert.isTimer = (es.filter Alert.isTimer).map (aged now) := by
  have kept : ∀ e : Alert, (e.escalated now).isTimer = e.isTimer := fun e => by
    unfold Alert.escalated
    split <;> rfl
  rw [List.filter_map]
  simp only [Function.comp_def, kept]
  rfl

/-! ## The buzzer (R165, R167) -/

theorem soundingLevel_some {a : Alc} {e : Alert} (member : e ∈ a.entries) (sounds : e.sounding = true)
    (highest : ∀ y ∈ a.entries, y.sounding = true → y.level ≤ e.level) : a.soundingLevel = some e.level := by
  unfold Alc.soundingLevel
  rw [List.max?_eq_some_iff]
  refine ⟨List.mem_map.2 ⟨e, List.mem_filter.2 ⟨member, sounds⟩, rfl⟩, fun n level => ?_⟩
  obtain ⟨y, there, rfl⟩ := List.mem_map.1 level
  obtain ⟨member', sounds'⟩ := List.mem_filter.1 there
  exact highest y member' sounds'

theorem soundingLevel_none {a : Alc} (silent : ∀ e ∈ a.entries, e.sounding = false) : a.soundingLevel = none := by
  unfold Alc.soundingLevel
  rw [List.filter_eq_nil_iff.2 fun e member => by rw [silent e member]; nofun]
  rfl

section
variable (a : Alc) (n : Fin 40)

theorem atBoundary_sounding {level : Nat} (sounds : a.soundingLevel = some level) :
    a.atBoundary n = { a with buz := n.val % spacing level = 0, playing := none } := by
  unfold Alc.atBoundary
  rw [sounds]

theorem atBoundary_silent (silent : a.soundingLevel = none) :
    a.atBoundary n = { a with buz := noticeHigh a.nextNotice.1, playing := a.nextNotice.1, notices := a.nextNotice.2 } := by
  unfold Alc.atBoundary
  rw [silent]

theorem atBoundary_entries : (a.atBoundary n).entries = a.entries := by
  unfold Alc.atBoundary
  split <;> rfl

theorem noticeHigh_iff (p : Option (Notice × Nat)) : noticeHigh p = true ↔ ∃ k i, p = some (k, i) ∧ (i = 1 ∨ i = 3) := by
  cases p with
  | none => simp [noticeHigh]
  | some v =>
    obtain ⟨k, i⟩ := v
    simp [noticeHigh]

theorem nextNotice_plays {k : Notice} {i : Nat} (playing : a.playing = some (k, i)) (less : i < 4) :
    a.nextNotice = (some (k, i + 1), a.notices) := by
  unfold Alc.nextNotice
  rw [playing]
  exact if_pos less

theorem nextNotice_starts (done : ∀ k i, a.playing = some (k, i) → 4 ≤ i) :
    a.nextNotice = (a.notices.head?.map fun k => (k, 1), a.notices.tail) := by
  unfold Alc.nextNotice
  cases playing : a.playing with
  | none => cases a.notices <;> rfl
  | some v =>
    obtain ⟨k, i⟩ := v
    dsimp only
    rw [if_neg (Nat.not_lt.2 (done k i playing))]
    cases a.notices <;> rfl

end

end Sys2Proof.Machine

/-! # O19: the counts of a boundary (R2, R3, R16, R52, R144, R159, R165, R167) -/

namespace Sys2Proof.Machine

section
variable {s b d e f g : State} {x m c : Nat} (h : Boundary s x m c b d e f g)
include h

/-- The blocks that neither the planner nor the Drive Unit reaches at a boundary. -/
theorem Boundary.untouched : d.alc = s.alc ∧ d.snu = s.snu ∧ d.squ = s.squ ∧ d.tbu = s.tbu.endSlice x m c ∧ d.stc.holds = s.stc.holds := by
  have rest := h.drive.judged.rest
  have planned := h.planned
  refine ⟨by rw [rest, planned], by rw [rest, planned], by rw [rest, planned], by rw [rest, planned], ?_⟩
  rw [h.drive.judged.holds, planned]

theorem Boundary.selftest : d.stc.op = .selftest ↔ s.stc.op = .selftest := by
  have stc : b.stc = s.stc := by rw [h.planned]
  obtain ⟨op, -⟩ | ⟨lock, -, busy⟩ := h.drive.judged.ops
  · rw [op, stc]
  · rw [stc] at busy
    rw [lock]
    exact ⟨nofun, fun test => absurd test busy⟩

theorem Boundary.op : g.stc.op = d.stc.op := by rw [h.after.stc]

/-- Where the operating state stays, the Drive Unit's part leaves the slots alone. -/
theorem Boundary.drive_tme (op : g.stc.op = s.stc.op) : d.tme = s.tme := by
  have planned := h.planned
  have tme : b.tme = s.tme := by rw [planned]
  have stc : b.stc = s.stc := by rw [planned]
  rw [h.op] at op
  obtain ⟨-, same⟩ | ⟨lock, other, -⟩ := h.drive.judged.ops
  · rw [same, tme]
  · rw [stc, ← op] at other
    exact absurd lock other

theorem Boundary.e_facts : e.alc = (if s.stc.op = .selftest then { s.alc with buz := false } else s.alc.atBoundary (s.tbu.slice + 1)) ∧
    e.snu = s.snu ∧ e.tme = d.tme ∧ e.ptc = d.ptc ∧ e.stc = d.stc ∧ e.tbu = s.tbu.endSlice x m c ∧ e.squ = s.squ := by
  obtain ⟨alc, snu, squ, tbu, -⟩ := h.untouched
  have test := h.selftest
  rw [h.buzzer]
  refine ⟨?_, snu, rfl, rfl, rfl, tbu, squ⟩
  change (if d.stc.op = .selftest then { d.alc with buz := false } else d.alc.atBoundary d.tbu.slice) = _
  simp only [test, alc, tbu]
  rfl

theorem Boundary.e_entries : e.alc.entries = s.alc.entries := by
  rw [h.e_facts.1]
  split
  · rfl
  · exact atBoundary_entries _ _

theorem Boundary.losing (k : Sensor) : e.losing k = true ↔
    s.stc.op ≠ .selftest ∧ s.snu.lastScan.get k = true ∧ s.snu.scans k = false := by
  obtain ⟨-, snu, -, -, stc, -⟩ := h.e_facts
  unfold State.losing Snu.loses
  rw [snu, stc, Bool.and_eq_true, Bool.and_eq_true, Bool.not_eq_true', decide_eq_true_iff, ne_eq, h.selftest]

/-- OVERTEMP through the planner's and the Drive Unit's part. -/
theorem Boundary.e_overtemp (y : Point) : (e.ptc.reasons.get y).overtemp = (s.ptc.reasons.get y).overtemp := by
  rw [h.e_facts.2.2.2.1]
  refine (h.drive.judged.reasons y .overtemp nofun nofun).trans ?_
  rw [h.planned]
  rfl

theorem Boundary.slots : ∀ u ∈ s.tme.timers, ∃ v ∈ e.tme.timers, u.Named v := by
  intro u slot
  rw [h.e_facts.2.2.1]
  refine h.drive.shut.slots u ?_
  rw [lined_rest, h.planned]
  exact slot

end

/-- The demand of a point, its panel and the rank, and the blocks that no part of a boundary reaches. -/
structure Unreached (s g : State) : Prop where
  gas : g.ptc.gas = s.ptc.gas
  duty : g.ptc.duty = s.ptc.duty
  panel : g.ptc.panel = s.ptc.panel
  rank : g.ptc.rank = s.ptc.rank
  squ : g.squ = s.squ
  pmc : g.pmc = s.pmc
  presence : g.presence = s.presence
  watchdog : g.watchdog = s.watchdog
  free : g.free = s.free
  pending : g.pending = s.pending

theorem Boundary.unreached {s b d e f g : State} {x m c : Nat} (h : Boundary s x m c b d e f g) : Unreached s g := by
  have planned := h.planned
  obtain ⟨_, points, _, _, _, _, _, _, _, judged⟩ := h.drive.judged
  obtain ⟨_, _, _, _, _, after, _, _, _, _, rest⟩ := h.after
  have ptc : b.ptc = s.ptc := by rw [planned]
  unfold DemandKept at points
  constructor
  · rw [after, points, ptc]
  · rw [after, points, ptc]
  · rw [after, points, ptc]
  · rw [after, points, ptc]
  · rw [rest, judged, planned]
  · rw [rest, judged, planned]
  · rw [rest, judged, planned]
  · rw [rest, judged, planned]
  · rw [rest, judged, planned]
  · rw [rest, judged, planned]

theorem scanned_congr {p q p' q' : Prop} [Decidable p] [Decidable q] [Decidable p'] [Decidable q'] (first : p ↔ p') (second : q ↔ q')
    (v : Timer) : v.scanned p q = v.scanned p' q' := by
  simp only [Timer.scanned, first, second]

/-- Settles O19. -/
theorem sliceBoundaryCounts : Obligations.SliceBoundaryCounts := by
  intro x m c s
  obtain ⟨t, ran, closed⟩ := event_closed (i := .sliceBoundary x m c) rfl nofun s
  obtain ⟨b, d, e, f, parts⟩ := sliceBoundary_parts s x m c
  change Closed none s (s.sliceBoundary x m c) t at closed
  generalize s.sliceBoundary x m c = g at *
  obtain ⟨slice, seconds, time⟩ := parts.clock
  rw [← closed.tbu] at slice seconds time
  have isEven_iff : isEven (s.tbu.slice + 1) = true ↔ t.tbu.slice.val % 2 = 0 := by
    rw [slice]
    exact decide_eq_true_iff
  have lost_iff : ∀ k, t.tbu.slice.val % 2 = 0 → (e.losing k = true ↔ (t.tbu.slice.val % 2 = 0 ∧ s.stc.op ≠ .selftest ∧
      s.snu.lastScan.get k = true ∧ s.snu.scans k = false)) := fun k even => by
    rw [parts.losing]
    exact ⟨fun l => ⟨even, l⟩, fun l => l.2⟩
  have odd_of : ¬ t.tbu.slice.val % 2 = 0 → isEven (s.tbu.slice + 1) = false := fun odd => by
    rw [← Bool.not_eq_true]
    exact fun even => odd (isEven_iff.1 even)
  obtain ⟨eAlc, eSnu, eTme, ePtc, eStc, eTbu, eSqu⟩ := parts.e_facts
  have now : e.tbu.seconds = if isEven (s.tbu.slice + 1) then s.tbu.seconds + 1 else s.tbu.seconds := by rw [eTbu]; rfl
  have finish := parts.finish
  have tme : t.tme = f.tme := by rw [closed.tme, finish.tme]
  have snu : t.snu = f.snu := by rw [closed.snu, finish.snu]
  have ptc : t.ptc = f.ptc := by rw [closed.ptc, finish.ptc]
  have hold : t.stc.holds.boardOvertemp = f.stc.holds.boardOvertemp := by rw [closed.stc, finish.hold]
  have entries : t.alc.entries.filter Alert.isTimer = f.alc.entries.filter Alert.isTimer := by rw [closed.timerEntries, finish.alc]
  have alc : t.alc = { f.alc with entries := t.alc.entries } := by
    have alerts := closed.alerts
    rw [finish.alc] at alerts
    exact alerts
  have buzz : t.alc.buz = e.alc.buz ∧ t.alc.playing = e.alc.playing ∧ t.alc.notices = e.alc.notices := by
    rw [alc]
    cases even : isEven (s.tbu.slice + 1) with
    | true => rw [(parts.even even).alc]; exact ⟨rfl, rfl, rfl⟩
    | false => rw [parts.odd even]; exact ⟨rfl, rfl, rfl⟩
  refine ⟨t, ran, ?_, fun even => ?_, fun odd => ?_, ⟨fun even op => ?_, fun y => ?_, ?_, fun lost u slot stop q audience => ?_⟩,
    fun even => ⟨?_, fun test => ?_, fun busy => ?_⟩, fun odd => ⟨?_, fun op => ?_, ?_⟩, fun test => ?_, fun busy => ⟨fun v member sounds
      highest => ?_, fun silent => ⟨?_, fun k i playing less => ?_, fun done => ?_⟩⟩, ?_, ?_, ?_, ?_, ?_⟩
  · rw [slice, Fin.val_add]
    rfl
  · rw [seconds, time, isEven_iff.2 even]
    exact ⟨rfl, rfl⟩
  · rw [seconds, time, odd_of (by omega)]
    exact ⟨rfl, rfl⟩
  · rw [tme, (parts.even (isEven_iff.2 even)).tme, eTme, parts.drive_tme (by rw [← op, closed.stc])]
    exact mapTimers_congr s.tme fun u => scanned_congr (lost_iff .grl even) (lost_iff .prb even) (ticked u)
  · rw [ptc]
    by_cases even : t.tbu.slice.val % 2 = 0
    · rw [(parts.even (isEven_iff.2 even)).overtemp y, parts.e_overtemp y]
      simp only [lost_iff .grl even]
    · rw [parts.odd (odd_of even), parts.e_overtemp y]
      exact (if_neg fun gone => even gone.2.1).symm
  · have holds : e.stc.holds = s.stc.holds := by rw [eStc, parts.untouched.2.2.2.2]
    rw [hold]
    by_cases even : t.tbu.slice.val % 2 = 0
    · rw [(parts.even (isEven_iff.2 even)).hold, holds]
      simp only [lost_iff .brd even]
    · rw [parts.odd (odd_of even), holds]
      exact (if_neg fun gone => even gone.1).symm
  · have even := lost.1
    obtain ⟨v, slot', named⟩ := parts.slots u slot
    have panel : e.ptc.panel = s.ptc.panel := by rw [ePtc, parts.drive.judged.points, parts.planned]
    refine closed.keeps (c := .feedback) nofun (finish.after.onward.posts _ _ ?_)
    exact (parts.even (isEven_iff.2 even)).told ((lost_iff .prb even).2 lost) v slot' (by rw [named.1]; exact stop) q
      ((audience_of_named eSqu panel named q).trans audience)
  · rw [entries, (parts.even (isEven_iff.2 even)).alc]
    dsimp only
    rw [escalated_entries, parts.e_entries, now, ← seconds]
  · rw [snu, (parts.even (isEven_iff.2 even)).asleep (by rw [eStc]; exact parts.selftest.2 test), eSnu]
  · rw [snu, (parts.even (isEven_iff.2 even)).snu (by rw [eStc]; exact mt parts.selftest.1 busy), eSnu, now, ← seconds]
    rfl
  · rw [snu, parts.odd (odd_of (by omega)), eSnu]
  · rw [tme, parts.odd (odd_of (by omega)), eTme, parts.drive_tme (by rw [← op, closed.stc])]
  · rw [entries, parts.odd (odd_of (by omega)), parts.e_entries]
  · rw [buzz.1, buzz.2.1, buzz.2.2, eAlc, if_pos test]
    exact ⟨rfl, rfl, rfl⟩
  · rw [buzz.1, buzz.2.1, buzz.2.2, eAlc, if_neg busy, atBoundary_sounding s.alc _ (soundingLevel_some member sounds highest), slice]
    exact ⟨rfl, rfl, rfl⟩
  · rw [buzz.1, buzz.2.1, eAlc, if_neg busy, atBoundary_silent s.alc _ (soundingLevel_none silent)]
    exact noticeHigh_iff _
  · rw [buzz.2.1, buzz.2.2, eAlc, if_neg busy, atBoundary_silent s.alc _ (soundingLevel_none silent),
      nextNotice_plays s.alc playing less]
    exact ⟨rfl, rfl⟩
  · rw [buzz.2.1, buzz.2.2, eAlc, if_neg busy, atBoundary_silent s.alc _ (soundingLevel_none silent), nextNotice_starts s.alc done]
    exact ⟨rfl, rfl⟩
  all_goals obtain ⟨gas, duty, panel, rank, squ, pmc, presence, watchdog, free, pending⟩ := parts.unreached
  · rw [closed.ptc, gas]
  · rw [closed.ptc, duty]
  · rw [closed.ptc, panel]
  · rw [closed.ptc, rank]
  · rw [← closed.squ] at squ
    rw [← closed.pmc] at pmc
    rw [← closed.presence] at presence
    rw [← closed.watchdog] at watchdog
    rw [← closed.free] at free
    rw [← closed.pending] at pending
    rw [← squ, ← pmc, ← presence, ← watchdog, ← free, ← pending]

end Sys2Proof.Machine

/-! # The planner at a boundary (R103, R111 to R115) -/

namespace Sys2Proof.Machine

section
variable (s : State) (x m c : Nat)

/-- Nothing is left to withdraw at the planner, and the Load Table is as it was. -/
theorem boundaryPlan_withdrawals (l : Load) : (s.boundaryPlan x m c).spl.withdrawals.get l = false ∧
    (s.boundaryPlan x m c).spl.loads = s.spl.loads := by
  unfold State.boundaryPlan
  dsimp only
  split
  · refine ⟨PerLoad.get_of _ _, ?_⟩
    change (Spl.turned s.spl).loads = _
    unfold Spl.turned
    split <;> rfl
  · exact ⟨PerLoad.get_of _ _, rfl⟩

/-- A boundary within a period (R115). -/
theorem boundaryPlan_within (within : s.tbu.slice + 1 ≠ 0) :
    (s.boundaryPlan x m c).spl = s.spl.withdrawn ∧ (s.boundaryPlan x m c).ports = s.ports := by
  unfold State.boundaryPlan
  dsimp only
  rw [if_neg (show ¬ (s.setTbu (s.tbu.endSlice x m c)).tbu.slice = 0 from within)]
  exact ⟨rfl, rfl⟩

/-- The plan that a period boundary makes active (R111, R112). -/
def Spl.nextPlan (t : Spl) : Plan :=
  match t.pending with
  | .complete q => q
  | _ => t.active

theorem emptied_emptied (e : Entry) : e.emptied.emptied = e.emptied := rfl

/-- A boundary between two periods (R103, R111 to R114). -/
structure Turned (s b : State) : Prop where
  building : ∃ k, b.spl.pending = .building k
  active : b.spl.active = { s.spl.nextPlan with
    entries := .of fun l =>
      if s.gateOpen l.point = false ∨ s.ptc.duty.get l = 0 ∨ s.spl.withdrawals.get l = true then
        (s.spl.nextPlan.entries.get l).emptied else s.spl.nextPlan.entries.get l }
  repeats : b.spl.repeats = match s.spl.pending with
    | .building _ => min 255 (s.spl.repeats + 1)
    | _ => s.spl.repeats
  arrears : ∀ l, b.spl.arrears.get l = arrearsAfter (s.spl.loads.get l).carry
    (if s.spl.withdrawals.get l then 0 else s.spl.arrears.get l) (b.spl.active.entries.get l).d (b.spl.active.entries.get l).g
  shortfall : ∀ q, (b.ports.get q).posted.get .shortfall = ((s.ports.get q).posted.get .shortfall ||
    Load.all.any fun l => newShortfall s.spl.active b.spl.active l && s.demandSource l.point = q)

theorem turned_active (t : Spl) : t.turned.active = t.nextPlan := by
  unfold Spl.turned Spl.nextPlan
  cases t.pending <;> rfl

theorem turned_rest (t : Spl) : t.turned.loads = t.loads ∧ t.turned.arrears = t.arrears ∧ t.turned.withdrawals = t.withdrawals ∧
    t.turned.repeats = (match t.pending with
      | .building _ => min 255 (t.repeats + 1)
      | _ => t.repeats) := by
  unfold Spl.turned
  cases t.pending <;> exact ⟨rfl, rfl, rfl, rfl⟩

/-- The planner after the turn of a period, before its pass starts. -/
def State.turnedSpl (s : State) : Spl := ({ s.spl.turned with active := s.spl.turned.active.without s.filtered } : Spl).withdrawn.charged

theorem boundaryPlan_period (between : s.tbu.slice + 1 = 0) : s.boundaryPlan x m c =
    (((s.setTbu (s.tbu.endSlice x m c)).setSpl s.turnedSpl).reportShortfall s.spl.active).startPass := by
  unfold State.boundaryPlan
  dsimp only
  rw [if_pos (show (s.setTbu (s.tbu.endSlice x m c)).tbu.slice = 0 from between)]
  rfl

theorem boundaryPlan_turned (between : s.tbu.slice + 1 = 0) : Turned s (s.boundaryPlan x m c) := by
  rw [boundaryPlan_period s x m c between]
  obtain ⟨loads, arrears, withdrawals, repeats⟩ := turned_rest s.spl
  have active := turned_active s.spl
  refine ⟨⟨_, rfl⟩, ?_, repeats, fun l => ?_, fun q => ?_⟩
  · change ((s.spl.turned.active.without s.filtered).without s.spl.turned.withdrawals.get) = _
    rw [active, withdrawals]
    unfold Plan.without
    have each : ∀ l, (if s.spl.withdrawals.get l = true then
        (if s.filtered l = true then (s.spl.nextPlan.entries.get l).emptied else s.spl.nextPlan.entries.get l).emptied
        else if s.filtered l = true then (s.spl.nextPlan.entries.get l).emptied else s.spl.nextPlan.entries.get l) =
        if s.gateOpen l.point = false ∨ s.ptc.duty.get l = 0 ∨ s.spl.withdrawals.get l = true then
          (s.spl.nextPlan.entries.get l).emptied else s.spl.nextPlan.entries.get l := fun l => by
      have filtered : s.filtered l = true ↔ s.gateOpen l.point = false ∨ s.ptc.duty.get l = 0 := by
        unfold State.filtered
        rw [Bool.or_eq_true, Bool.not_eq_true', decide_eq_true_iff]
      simp only [filtered]
      by_cases gone : s.gateOpen l.point = false ∨ s.ptc.duty.get l = 0
      · rw [if_pos gone, if_pos (or_assoc.1 (.inl gone)), emptied_emptied, ite_self]
      · rw [if_neg gone]
        have same : (s.gateOpen l.point = false ∨ s.ptc.duty.get l = 0 ∨ s.spl.withdrawals.get l = true) ↔
            s.spl.withdrawals.get l = true := ⟨fun any => (or_assoc.2 any).resolve_left gone, fun w => .inr (.inr w)⟩
        simp only [same]
    simp only [PerLoad.get_of, each]
  · refine (PerLoad.get_of _ _).trans ?_
    change arrearsAfter (s.spl.turned.loads.get l).carry
      ((PerLoad.of fun l => if s.spl.turned.withdrawals.get l then 0 else s.spl.turned.arrears.get l).get l) _ _ = _
    rw [loads, PerLoad.get_of, withdrawals, arrears]
    rfl
  · change (((((s.setTbu (s.tbu.endSlice x m c)).setSpl s.turnedSpl).reportShortfall s.spl.active)).ports.get q).posted.get .shortfall = _
    unfold State.reportShortfall
    rw [State.postTo_posted, decide_eq_true rfl, Bool.true_and]
    rfl

end

end Sys2Proof.Machine

/-! # The lines of a slice (R121 to R126, R136) -/

namespace Sys2Proof.Machine

section
variable (s : State)

theorem atBoundary_test (d : DriveTest) : d.atBoundary = { d with begun := d.atBoundary.begun, left := d.atBoundary.left } ∧
    (d.status ≠ .running → d.atBoundary = d) ∧
    (d.status = .running → d.atBoundary.begun = true ∧ d.atBoundary.left = if d.begun then nextBars d.left else d.left) := by
  unfold DriveTest.atBoundary
  by_cases runs : d.status = .running
  · rw [if_pos runs]
    cases begun : d.begun with
    | true => exact ⟨rfl, fun still => absurd runs still, fun _ => ⟨rfl, rfl⟩⟩
    | false => exact ⟨rfl, fun still => absurd runs still, fun _ => ⟨rfl, rfl⟩⟩
  · rw [if_neg runs]
    exact ⟨rfl, fun _ => rfl, fun is => absurd is runs⟩

/-- The load whose bar covers the slice that has begun. -/
theorem atBoundary_load (d : DriveTest) (l : Load) :
    d.atBoundary.load = some l ↔ d.status = .running ∧ ∃ b, d.atBoundary.left.head? = some b ∧ b.load = l := by
  obtain ⟨whole, still, moves⟩ := atBoundary_test d
  have status : d.atBoundary.status = d.status := by rw [whole]
  unfold DriveTest.load
  rw [status]
  by_cases runs : d.status = .running
  · rw [if_pos ⟨runs, (moves runs).1⟩, Option.map_eq_some_iff]
    exact ⟨fun h => ⟨runs, h⟩, fun h => h.2⟩
  · rw [if_neg fun h => runs h.1]
    exact ⟨nofun, fun h => absurd h.1 runs⟩

theorem lined_en (l : Load) : s.lined.dru.en.get l = true ↔ s.dru.test.atBoundary.load = some l ∨
    s.stc.op = .run ∧ s.gateOpen l.point = true ∧ s.dru.withdrawLoads.get l = false ∧
      (s.spl.active.entries.get l).covers s.tbu.slice.val = true := by
  refine (Iff.of_eq (congrArg (· = true) (PerLoad.get_of _ _))).trans ?_
  unfold State.enableLine
  rw [Bool.or_eq_true, decide_eq_true_iff, Bool.and_eq_true, Bool.and_eq_true, Bool.and_eq_true, decide_eq_true_iff, Bool.not_eq_true',
    and_assoc, and_assoc]
  exact or_comm

theorem lined_gp (z : Gas) : s.lined.dru.gp.get z = true ↔
    s.stc.op = .run ∧ s.gateOpen z.point = true ∧ s.dru.withdrawGas.get z = false := by
  refine (Iff.of_eq (congrArg (· = true) (PerGas.get_of _ _))).trans ?_
  unfold State.permissionLine
  rw [Bool.and_eq_true, Bool.and_eq_true, decide_eq_true_iff, Bool.not_eq_true', and_assoc]
  exact Iff.rfl

/-- Whether the boundaries of a grace are counted (R126, log 8). -/
def State.countsGrace (s : State) : Bool := s.stc.op ≠ .selftest && s.dru.graceBegun

theorem lined_grace (z : Gas) : s.lined.dru.grace.get z =
      (s.dru.grace.get z).atBoundary s.countsGrace (s.dru.gp.get z) (s.lined.dru.gp.get z) ∧
    s.lined.dru.graceDue.get z =
      (s.dru.grace.get z).dueAt (s.dru.graceDue.get z) s.countsGrace (s.dru.gp.get z) (s.lined.dru.gp.get z) := by
  have gp : s.lined.dru.gp.get z = _ := PerGas.get_of _ z
  rw [gp]
  exact ⟨PerGas.get_of _ z, PerGas.get_of _ z⟩

theorem lined_withdrawn (l : Load) (z : Gas) :
    s.lined.dru.withdrawLoads.get l = false ∧ s.lined.dru.withdrawGas.get z = false := ⟨PerLoad.get_of _ _, PerGas.get_of _ _⟩

/-- What the lines leave of the rest of the Drive Unit. -/
theorem lined_dru : s.lined.dru = { s.dru with
    test := s.dru.test.atBoundary
    verifier := { s.dru.verifier with usable := s.dru.verifier.usable && s.dru.sampled }
    allSampled := s.dru.allSampled && s.dru.sampled
    en := s.lined.dru.en, gp := s.lined.dru.gp, grace := s.lined.dru.grace, graceDue := s.lined.dru.graceDue
    graceBegun := s.lined.dru.graceBegun
    withdrawLoads := s.lined.dru.withdrawLoads, withdrawGas := s.lined.dru.withdrawGas } := rfl

/-- The checks of a period leave the lines and the graces as they are (log 11). -/
theorem Driven.lines {d : State} (h : Driven s d) : d.dru.en = s.lined.dru.en ∧ d.dru.gp = s.lined.dru.gp ∧
    d.dru.grace = s.lined.dru.grace ∧ d.dru.graceDue = s.lined.dru.graceDue ∧
    d.dru.test = { s.lined.dru.test with status := d.dru.test.status } := by
  by_cases zero : s.tbu.slice = 0
  · obtain ⟨p, driven, rfl⟩ := h.period zero
    have dru := driven.dru
    have open_ : p.openSlice.dru = { p.dru with atSlice := p.dru.counts, runSpent := .of fun _ => false, sampled := false } := rfl
    rw [open_]
    dsimp only
    exact ⟨by rw [dru], by rw [dru], by rw [dru], by rw [dru], by rw [dru]⟩
  · rw [h.same zero]
    exact ⟨rfl, rfl, rfl, rfl, rfl⟩

end

/-! ## Gates through a boundary -/

section
variable {s b d e f g : State} {x m c : Nat} (h : Boundary s x m c b d e f g)
include h

/-- A gate that was open stands after the Drive Unit's part as it stands at the end: OVERTEMP alone leaves later. -/
theorem Boundary.gate {y : Point} (open_ : s.gateOpen y = true) : g.gateOpen y = d.gateOpen y := by
  have after := h.after
  have none_ : (d.ptc.reasons.get y).overtemp = false := by
    have same := h.e_overtemp y
    rw [h.e_facts.2.2.2.1] at same
    rw [same]
    exact (clearReasons_iff _).1 open_ .overtemp
  rw [Bool.eq_iff_iff, gateOpen_eq, gateOpen_eq, clearReasons_iff, clearReasons_iff]
  constructor
  · intro clear o
    by_cases is : o = .overtemp
    · subst is
      exact none_
    · rw [← after.reasons y o is]
      exact clear o
  · intro clear o
    by_cases is : o = .overtemp
    · subst is
      have lifted := after.lifted y
      rw [none_] at lifted
      exact Bool.eq_false_iff.2 fun has => absurd (lifted has) nofun
    · rw [after.reasons y o is]
      exact clear o

theorem Boundary.closing (y : Point) : (s.gateOpen y && !d.gateOpen y) = (s.gateOpen y && !g.gateOpen y) := by
  cases open_ : s.gateOpen y with
  | false => rfl
  | true => rw [h.gate open_]

/-- What waits to be withdrawn after a boundary: exactly what the checks of the boundary closed (R115, R122, R132). -/
theorem Boundary.withdrawn : (∀ l, g.spl.withdrawals.get l = (s.gateOpen l.point && !g.gateOpen l.point) ∧
      g.dru.withdrawLoads.get l = (s.gateOpen l.point && !g.gateOpen l.point)) ∧
    ∀ z, g.dru.withdrawGas.get z = (s.gateOpen z.point && !g.gateOpen z.point) := by
  have gate : ∀ y, b.lined.gateOpen y = s.gateOpen y := gateOpen_congr (by
    change b.ptc.reasons = _
    rw [h.planned])
  have planner : ∀ l, b.lined.spl.withdrawals.get l = false := fun l => by
    change b.spl.withdrawals.get l = false
    rw [h.plan]
    exact (boundaryPlan_withdrawals s x m c l).1
  rw [h.after.withdrawals, h.after.dru]
  refine ⟨fun l => ?_, fun z => ?_⟩
  · obtain ⟨loads, lines⟩ := h.drive.shut.loads l
    rw [loads, lines, planner, (lined_withdrawn b l .z1).1, gate, h.closing]
    exact ⟨rfl, rfl⟩
  · rw [h.drive.shut.gas z, (lined_withdrawn b .l0 z).2, gate, h.closing]
    rfl

end

end Sys2Proof.Machine

/-! # The lines and the checks of a boundary (R103, R111 to R115, R121 to R126, R132, R134, R136) -/

namespace Sys2Proof.Machine

section
variable {s b d e f g : State} {x m c : Nat} (h : Boundary s x m c b d e f g)
include h

/-! ## The planner -/

theorem Boundary.slice : b.tbu.slice = g.tbu.slice := by
  rw [h.clock.1, h.planned]
  rfl

/-- The Drive Unit's part and what follows it leave the plan that the boundary made active. -/
theorem Boundary.plan_kept : g.spl.active = b.spl.active ∧ g.spl.repeats = b.spl.repeats ∧ g.spl.arrears = b.spl.arrears := by
  have after := h.after.planner
  have drive := h.drive.judged.planner
  unfold PlannerKept at after drive
  rw [after, drive]
  exact ⟨rfl, rfl, rfl⟩

theorem Boundary.within (other : g.tbu.slice ≠ 0) : b.spl = s.spl.withdrawn ∧ b.ports = s.ports := by
  rw [h.plan]
  exact boundaryPlan_within s x m c (by rw [← h.clock.1]; exact other)

theorem Boundary.turned (zero : g.tbu.slice = 0) : Turned s b := by
  rw [h.plan]
  exact boundaryPlan_turned s x m c (by rw [← h.clock.1]; exact zero)

theorem Boundary.building (zero : g.tbu.slice = 0) : ∃ k, g.spl.pending = .building k :=
  h.after.onward.building (h.drive.shut.building (h.turned zero).building)

theorem Boundary.shortfall (q : Port) : (g.ports.get q).posted.shortfall = true ↔ (s.ports.get q).posted.shortfall = true ∨
    g.tbu.slice = 0 ∧ ∃ l, (s.spl.active.entries.get l).shortfall = false ∧ (g.spl.active.entries.get l).shortfall = true ∧
      q = if l.point = .ov then .supervisor else (s.ptc.panel.get l.point).port := by
  have same : (g.ports.get q).posted.shortfall = (b.ports.get q).posted.shortfall := (h.after.shortfall q).trans (h.drive.shut.shortfall q)
  rw [same, h.plan_kept.1]
  by_cases zero : g.tbu.slice = 0
  · have posted : (b.ports.get q).posted.shortfall = _ := (h.turned zero).shortfall q
    rw [posted, Bool.or_eq_true, List.any_eq_true]
    refine or_congr Iff.rfl ⟨?_, ?_⟩
    · rintro ⟨l, -, short⟩
      simp only [newShortfall, Bool.and_eq_true, Bool.not_eq_true', decide_eq_true_eq] at short
      exact ⟨zero, l, short.1.1, short.1.2, short.2.symm⟩
    · rintro ⟨-, l, fell, short, source⟩
      refine ⟨l, Load.mem_all l, ?_⟩
      simp only [newShortfall, Bool.and_eq_true, Bool.not_eq_true', decide_eq_true_eq]
      exact ⟨⟨fell, short⟩, source.symm⟩
  · rw [(h.within zero).2]
    exact ⟨.inl, fun any => any.resolve_right fun turned => zero turned.1⟩

/-! ## The lines -/

theorem Boundary.drive_lines : g.dru.en = b.lined.dru.en ∧ g.dru.gp = b.lined.dru.gp ∧ g.dru.grace = b.lined.dru.grace ∧
    g.dru.graceDue = b.lined.dru.graceDue ∧ g.dru.test = { s.dru.test.atBoundary with status := g.dru.test.status } := by
  rw [h.after.dru]
  obtain ⟨en, gp, grace, due, test⟩ := h.drive.lines
  refine ⟨en, gp, grace, due, test.trans ?_⟩
  have lined : b.lined.dru.test = b.dru.test.atBoundary := rfl
  rw [lined, h.planned]

theorem Boundary.test : g.dru.test = { s.dru.test with status := g.dru.test.status, begun := g.dru.test.begun, left := g.dru.test.left } ∧
    (s.dru.test.status ≠ .running → g.dru.test = s.dru.test) ∧
    (s.dru.test.status = .running → g.dru.test.begun = true ∧
      g.dru.test.left = if s.dru.test.begun then nextBars s.dru.test.left else s.dru.test.left) := by
  have test := h.drive_lines.2.2.2.2
  obtain ⟨whole, still, moves⟩ := atBoundary_test s.dru.test
  have stays : s.dru.test.status ≠ .running → g.dru.test.status = s.dru.test.status := fun idle => by
    have lined : b.lined.dru.test = s.dru.test := by
      refine Eq.trans ?_ (still idle)
      change b.dru.test.atBoundary = _
      rw [h.planned]
    rw [h.after.dru, h.drive.shut.status (by rw [lined]; exact idle), lined]
  refine ⟨?_, fun idle => ?_, fun runs => ?_⟩
  · rw [test, whole]
  · rw [test, still idle, stays idle]
  · rw [test]
    exact moves runs

theorem Boundary.en (l : Load) : g.dru.en.get l = true ↔
    (s.dru.test.status = .running ∧ ∃ r, g.dru.test.left.head? = some r ∧ r.load = l) ∨
    s.stc.op = .run ∧ s.gateOpen l.point = true ∧ s.dru.withdrawLoads.get l = false ∧
      (g.spl.active.entries.get l).covers g.tbu.slice.val = true := by
  obtain ⟨en, -, -, -, test⟩ := h.drive_lines
  have stc : b.stc = s.stc := by rw [h.planned]
  have dru : b.dru = s.dru := by rw [h.planned]
  have gate := gateOpen_congr (s := s) (t := b) (by rw [h.planned]) l.point
  rw [en, lined_en, atBoundary_load, stc, dru, gate, h.slice, h.plan_kept.1, test]

theorem Boundary.gp (z : Gas) : g.dru.gp.get z = true ↔
    s.stc.op = .run ∧ s.gateOpen z.point = true ∧ s.dru.withdrawGas.get z = false := by
  have stc : b.stc = s.stc := by rw [h.planned]
  have dru : b.dru = s.dru := by rw [h.planned]
  have gate := gateOpen_congr (s := s) (t := b) (by rw [h.planned]) z.point
  rw [h.drive_lines.2.1, lined_gp, stc, dru, gate]

theorem Boundary.grace (z : Gas) :
    g.dru.grace.get z = (s.dru.grace.get z).atBoundary s.countsGrace (s.dru.gp.get z) (g.dru.gp.get z) ∧
    g.dru.graceDue.get z = (s.dru.grace.get z).dueAt (s.dru.graceDue.get z) s.countsGrace (s.dru.gp.get z) (g.dru.gp.get z) := by
  obtain ⟨-, gp, grace, due, -⟩ := h.drive_lines
  have lined := lined_grace b z
  have dru : b.dru = s.dru := by rw [h.planned]
  have counts : b.countsGrace = s.countsGrace := by
    unfold State.countsGrace
    rw [h.planned]
  rw [gp, grace, due, lined.1, lined.2, dru, counts]
  exact ⟨rfl, rfl⟩

/-! ## The checks -/

theorem Boundary.faults : g.stc.faults = d.stc.faults ∧ g.stc.op = d.stc.op ∧ g.dru = d.dru := by
  rw [h.after.stc, h.after.dru]
  exact ⟨rfl, rfl, rfl⟩

/-- What the lines hand to the checks of a period. -/
theorem Boundary.lined_facts : b.lined.stc = s.stc ∧ b.lined.spl.loads = s.spl.loads ∧
    (∀ l, b.lined.verdictOn l = true ↔
      s.dru.verifier.verified = some l ∧ s.dru.verifier.usable = true ∧ s.dru.sampled = true) ∧
    b.lined.dru.allSampled = (s.dru.allSampled && s.dru.sampled) := by
  have dru : b.dru = s.dru := by rw [h.planned]
  have lined := lined_dru b
  rw [dru] at lined
  refine ⟨?_, ?_, fun l => ?_, by rw [lined]⟩
  · change b.stc = _
    rw [h.planned]
  · change b.spl.loads = _
    rw [h.plan]
    exact (boundaryPlan_withdrawals s x m c .l0).2
  · unfold State.verdictOn
    rw [lined]
    dsimp only
    rw [Bool.and_eq_true, Bool.and_eq_true, decide_eq_true_iff]

theorem Boundary.fitted (l : Load) : b.lined.fitted l = true ↔ (s.spl.loads.get l).power ≠ 0 := by
  unfold State.fitted
  rw [h.lined_facts.2.1, decide_eq_true_iff]

end

end Sys2Proof.Machine

/-! # O45: SLICE_BOUNDARY at the planner and the lines (R103, R111 to R115, R121 to R126, R132, R134, R136) -/

namespace Sys2Proof.Machine

/-- The period that ends gives a verdict on a load (R132). -/
def State.judges (s : State) (l : Load) : Prop :=
  s.dru.verifier.verified = some l ∧ s.dru.verifier.usable = true ∧ s.dru.sampled = true

/-- Every slice of the period that ends was sampled (R134). -/
def State.sampledPeriod (s : State) : Prop := s.dru.allSampled = true ∧ s.dru.sampled = true

/-- The period that ends shows a fitted load stuck (R134). -/
def State.findsStuck (s : State) (l : Load) : Prop :=
  (s.spl.loads.get l).power ≠ 0 ∧ s.dru.counts.driven.get l = 0 ∧ 20 ≤ s.dru.counts.closedLow.get l ∧ s.sampledPeriod

theorem stuck_iff (c : Counts) (l : Load) : c.stuck l = true ↔ c.driven.get l = 0 ∧ 20 ≤ c.closedLow.get l := by
  unfold Counts.stuck
  rw [Bool.and_eq_true, decide_eq_true_iff, decide_eq_true_iff]

theorem countsGrace_iff (s : State) : s.countsGrace = true ↔ s.stc.op ≠ .selftest ∧ s.dru.graceBegun = true := by
  unfold State.countsGrace
  rw [Bool.and_eq_true, decide_eq_true_iff]

/-- The verifier and the stuck-on check at the boundary into slice 0. -/
structure Checked (s g : State) : Prop where
  last : ∀ l, s.judges l → g.dru.verifier.last =
    some { load := l, count := s.dru.counts.verify, pass := s.dru.counts.verify ≤ s.dru.verifier.tolerance }
  judged : ∀ l, s.judges l → g.dru.standing.get l = testOutcome s.dru.verifier.tolerance s.dru.counts.verify
  unjudged : ∀ l, ¬ s.judges l → g.dru.standing.get l = s.dru.standing.get l
  drive : ∀ l, g.stc.faults.drive.get l = true ↔ s.stc.faults.drive.get l = true ∨
    s.judges l ∧ s.dru.verifier.tolerance < s.dru.counts.verify
  verified : g.dru.verifier.verified = s.chooseVerified
  position : g.dru.verifier.position =
    if s.dru.verifier.mode = .auto then s.autoLoad.or s.dru.verifier.position else s.dru.verifier.position
  usable : g.dru.verifier.usable = true ↔ (s.dru.test.status = .running → g.dru.test.left = [])
  counts : g.dru.counts = { s.dru.counts with verify := 0, driven := .of fun _ => 0, closedLow := .of fun _ => 0 }
  sampled : g.dru.allSampled = true
  examined : ∀ l, (s.spl.loads.get l).power ≠ 0 → s.sampledPeriod → (g.dru.findings.get l = true ↔ s.findsStuck l)
  unexamined : ∀ l, ¬ ((s.spl.loads.get l).power ≠ 0 ∧ s.sampledPeriod) → g.dru.findings.get l = s.dru.findings.get l
  stuckOn : ∀ l, g.stc.faults.stuckOn.get l = true ↔ s.stc.faults.stuckOn.get l = true ∨ s.findsStuck l
  trips : ∀ l, s.findsStuck l → s.stc.faults.stuckOn.get l = false →
    g.dru.ems = false ∧ (s.stc.op ≠ .selftest → g.stc.op = .lockout)
  quiet : (∀ l, s.findsStuck l → s.stc.faults.stuckOn.get l = true) → g.stc.op = s.stc.op ∧ g.dru.ems = s.dru.ems

section
variable {s b d e f g : State} {x m c : Nat} (h : Boundary s x m c b d e f g)
include h

/-- A boundary within a period leaves faults, findings and counts alone. -/
theorem Boundary.unchecked (other : g.tbu.slice ≠ 0) : g.stc.faults = s.stc.faults ∧ g.stc.op = s.stc.op ∧
    g.dru.standing = s.dru.standing ∧ g.dru.findings = s.dru.findings ∧ g.dru.counts = s.dru.counts ∧
    g.dru.verifier = { s.dru.verifier with usable := s.dru.verifier.usable && s.dru.sampled } ∧
    g.dru.allSampled = (s.dru.allSampled && s.dru.sampled) := by
  obtain ⟨faults, op, dru⟩ := h.faults
  have same : d = b.lined.openSlice := h.drive.same (by rw [h.slice]; exact other)
  have bDru : b.dru = s.dru := by rw [h.planned]
  have stc : d.stc = s.stc := by
    rw [same, ← h.lined_facts.1]
    rfl
  rw [faults, op, dru, stc, same]
  change _ ∧ _ ∧ b.lined.dru.standing = _ ∧ b.lined.dru.findings = _ ∧ b.lined.dru.counts = _ ∧ b.lined.dru.verifier = _ ∧
    b.lined.dru.allSampled = _
  rw [lined_dru b, bDru]
  exact ⟨rfl, rfl, rfl, rfl, rfl, rfl, rfl⟩

theorem Boundary.checked (zero : g.tbu.slice = 0) : Checked s g := by
  obtain ⟨faults, op, dru⟩ := h.faults
  obtain ⟨p, driven, same⟩ := h.drive.period (by rw [h.slice]; exact zero)
  have test := h.test
  obtain ⟨stc, loads, verdict, allSampled⟩ := h.lined_facts
  have fitted := h.fitted
  have bDru : b.dru = s.dru := by rw [h.planned]
  have lined := lined_dru b
  rw [bDru] at lined
  have gDru : g.dru = { p.dru with atSlice := p.dru.counts, runSpent := .of fun _ => false, sampled := false } := by
    rw [dru, same]
    rfl
  have gFaults : g.stc.faults = p.stc.faults ∧ g.stc.op = p.stc.op := by
    rw [faults, op, same]
    exact ⟨rfl, rfl⟩
  have unstuck : b.lined.stc.faults.stuckOn = s.stc.faults.stuckOn := by rw [stc]
  have same_fit : b.lined.fitted = s.fitted := by
    unfold State.fitted
    rw [loads]
  have examined_iff : ∀ l, (b.lined.dru.allSampled && b.lined.fitted l) = true ↔ (s.spl.loads.get l).power ≠ 0 ∧ s.sampledPeriod :=
    fun l => by
      rw [allSampled, Bool.and_eq_true, Bool.and_eq_true, fitted, and_comm]
      exact Iff.rfl
  have stuck_of : ∀ l, b.lined.dru.counts.stuck l = true ↔ s.dru.counts.driven.get l = 0 ∧ 20 ≤ s.dru.counts.closedLow.get l :=
    fun l => by
      rw [lined]
      exact stuck_iff _ l
  have finds_iff : ∀ l, (b.lined.dru.allSampled && b.lined.fitted l && b.lined.dru.counts.stuck l) = true ↔ s.findsStuck l := fun l => by
    rw [Bool.and_eq_true, examined_iff, stuck_of]
    exact ⟨fun ⟨⟨fit, all⟩, idle, closed⟩ => ⟨fit, idle, closed, all⟩, fun ⟨fit, idle, closed, all⟩ => ⟨⟨fit, all⟩, idle, closed⟩⟩
  have stuckOn : ∀ l, g.stc.faults.stuckOn.get l = true ↔ s.stc.faults.stuckOn.get l = true ∨ s.findsStuck l := fun l => by
    rw [gFaults.1, driven.stuckOn, Bool.or_eq_true, finds_iff, stc]
  have tolerance : b.lined.dru.verifier.tolerance = s.dru.verifier.tolerance ∧ b.lined.dru.counts = s.dru.counts := by
    rw [lined]
    exact ⟨rfl, rfl⟩
  refine ⟨fun l judged => ?_, fun l judged => ?_, fun l other => ?_, fun l => ?_, ?_, ?_, ?_, ?_, ?_, fun l fit all => ?_, fun l none => ?_,
    stuckOn, fun l finds clear => ?_, fun known => ?_⟩
  · rw [gDru]
    have last := driven.last l ((verdict l).2 judged)
    rw [tolerance.1, tolerance.2] at last
    exact last
  · rw [gDru]
    refine (driven.standing l).trans ?_
    rw [if_pos ((verdict l).2 judged), tolerance.1, tolerance.2]
  · rw [gDru]
    refine (driven.standing l).trans ?_
    rw [if_neg (mt (verdict l).1 other), lined]
  · rw [gFaults.1, driven.drive, Bool.or_eq_true, Bool.and_eq_true, verdict, stc, tolerance.1, tolerance.2, decide_eq_true_iff]
    exact Iff.rfl
  · rw [gDru, driven.dru]
    unfold State.chooseVerified State.autoLoad
    rw [same_fit, lined]
  · rw [gDru, driven.dru]
    unfold State.autoLoad
    rw [same_fit, lined]
  · have left : g.dru.test.left = b.lined.dru.test.left := by
      rw [gDru, driven.dru]
    have usable : g.dru.verifier.usable = (decide (b.lined.dru.test.status ≠ .running) || b.lined.dru.test.exhausted) := by
      rw [gDru, driven.dru]
    have begins : b.lined.dru.test = s.dru.test.atBoundary := by rw [lined]
    obtain ⟨whole, -, moves⟩ := atBoundary_test s.dru.test
    have status : s.dru.test.atBoundary.status = s.dru.test.status := by rw [whole]
    rw [usable, left, begins, status]
    unfold DriveTest.exhausted
    rw [status]
    by_cases runs : s.dru.test.status = .running
    · rw [(moves runs).1]
      simp [runs]
    · simp [runs]
  · rw [gDru, driven.dru]
    dsimp only
    rw [tolerance.2]
  · rw [gDru, driven.dru]
  · rw [gDru]
    refine (Iff.of_eq (congrArg (· = true) (driven.findings l))).trans ?_
    rw [if_pos ((examined_iff l).2 ⟨fit, all⟩), stuck_of]
    exact ⟨fun ⟨idle, closed⟩ => ⟨fit, idle, closed, all⟩, fun ⟨_, idle, closed, _⟩ => ⟨idle, closed⟩⟩
  · rw [gDru]
    refine (driven.findings l).trans ?_
    rw [if_neg (mt (examined_iff l).1 none), lined]
  · obtain ⟨low, lock⟩ := driven.trips l (by rw [unstuck]; exact clear) (by rw [← gFaults.1]; exact (stuckOn l).2 (.inr finds))
    rw [gDru, gFaults.2]
    exact ⟨low, fun busy => lock (by rw [stc]; exact busy)⟩
  · obtain ⟨op', ems⟩ := driven.quiet fun l => by
      rw [← gFaults.1, unstuck, Bool.eq_iff_iff, stuckOn l]
      exact ⟨fun any => any.elim id (known l), .inl⟩
    rw [gDru, gFaults.2, op', stc]
    refine ⟨rfl, ems.trans ?_⟩
    rw [lined]

end

/-- Settles O45. -/
theorem boundariesTurnPlansAndSetLines : Obligations.BoundariesTurnPlansAndSetLines := by
  intro x m c s
  obtain ⟨t, ran, closed⟩ := event_closed (i := .sliceBoundary x m c) rfl nofun s
  obtain ⟨b, d, e, f, parts⟩ := sliceBoundary_parts s x m c
  change Closed none s (s.sliceBoundary x m c) t at closed
  generalize s.sliceBoundary x m c = g at *
  have planner := closed.planner
  have active : t.spl.active = g.spl.active := by rw [planner]
  have repeats : t.spl.repeats = g.spl.repeats := by rw [planner]
  have arrears : t.spl.arrears = g.spl.arrears := by rw [planner]
  have withdrawals : t.spl.withdrawals = g.spl.withdrawals := by rw [planner]
  have gate : ∀ y, t.gateOpen y = g.gateOpen y := gateOpen_congr (by rw [closed.ptc])
  obtain ⟨gActive, gRepeats, gArrears⟩ := parts.plan_kept
  obtain ⟨waits, waitsGas⟩ := parts.withdrawn
  refine ⟨t, ran, fun other => ?_, fun y => ⟨fun l on => ?_, fun z at_ => ?_⟩, fun zero => ⟨?_, fun p is => ⟨?_, ?_, fun l => ?_⟩⟩, fun q => ?_,
    ⟨?_, ?_, ?_, fun l => ?_⟩, fun z => ?_, fun z => ⟨?_, ?_⟩, fun other => ?_, fun zero => ?_⟩
  · rw [closed.tbu] at other
    rw [active, repeats, arrears, gActive, gRepeats, gArrears, (parts.within other).1]
    exact ⟨rfl, rfl, fun l => PerLoad.get_of _ l⟩
  · rw [Point.mem_loads] at on
    subst on
    rw [withdrawals, closed.dru, gate]
    exact waits l
  · subst at_
    rw [closed.dru, gate]
    exact waitsGas z
  · rw [closed.tbu] at zero
    exact closed.building (parts.building zero)
  · rw [closed.tbu] at zero
    rw [active, gActive, (parts.turned zero).active, is]
    rfl
  · rw [closed.tbu] at zero
    refine ((repeats.trans gRepeats).trans (parts.turned zero).repeats).trans ?_
    cases s.spl.pending <;> rfl
  · rw [closed.tbu] at zero
    rw [arrears, active, gArrears, gActive, (parts.turned zero).arrears]
    rfl
  · rw [active, closed.tbu]
    exact (Iff.of_eq (congrArg (· = true) (closed.posted q .shortfall nofun))).trans (parts.shortfall q)
  · rw [closed.dru]
    exact parts.test.1
  · rw [closed.dru]
    exact parts.test.2.1
  · rw [closed.dru]
    exact parts.test.2.2
  · rw [closed.dru, closed.tbu, active]
    exact parts.en l
  · rw [closed.dru]
    exact parts.gp z
  · rw [closed.dru, (parts.grace z).1]
    unfold Grace.atBoundary
    cases s.dru.grace.get z with
    | counting n => simp only [Bool.and_eq_true, countsGrace_iff, decide_eq_true_eq]
    | _ => rfl
  · rw [closed.dru, (parts.grace z).2]
    unfold Grace.dueAt
    simp only [Bool.and_eq_true, Bool.or_eq_true, Bool.not_eq_true', countsGrace_iff, decide_eq_true_eq, and_assoc]
  · rw [closed.tbu] at other
    rw [closed.stc, closed.dru]
    exact parts.unchecked other
  · have left : t.dru.test.left = g.dru.test.left := by rw [closed.dru]
    rw [closed.tbu] at zero
    obtain ⟨last, judged, unjudged, drive, verified, position, usable, counts, sampled, examined, unexamined, stuckOn, trips, quiet⟩ :=
      parts.checked zero
    rw [closed.stc, closed.dru]
    refine ⟨fun l on => ⟨last l on, judged l on⟩, unjudged, fun l => ?_, ?_, ?_, usable, ?_, fun l => ?_, sampled, fun l fit all this => ?_,
      fun l none => unexamined l ?_, fun l => ?_, fun ⟨l, finds, clear⟩ => trips l ?_ clear, fun known => quiet fun l finds => known l ?_⟩
    · rw [Bool.eq_iff_iff, drive, Bool.or_eq_true, decide_eq_true_iff]
      exact Iff.rfl
    · rw [verified]
      unfold State.chooseVerified State.autoLoad State.fitted
      cases s.dru.verifier.mode with
      | off => rfl
      | fixed l => exact if_congr decide_eq_true_iff rfl rfl
      | auto => rfl
    · rw [position, verified]
      unfold State.chooseVerified
      split
      · next auto => rw [auto]
      · rfl
    · rw [counts]
    · rw [counts]
      exact ⟨PerLoad.get_of _ l, PerLoad.get_of _ l⟩
    · rw [Bool.eq_iff_iff, decide_eq_true_iff]
      exact examined l fit ⟨all, this⟩
    · rintro ⟨fit, all, this⟩
      obtain zero' | none' | none' := none
      · exact fit zero'
      · rw [all] at none'
        cases none'
      · rw [this] at none'
        cases none'
    · rw [Bool.eq_iff_iff, stuckOn, Bool.or_eq_true, decide_eq_true_iff]
      exact Iff.rfl
    · exact finds
    · exact finds

end Sys2Proof.Machine

/-! # The run that a load is given (R104 to R106) -/

namespace Sys2Proof.Machine

/-! ## Lengths and offsets -/

/-- The run lengths that R106 allows. -/
def AllowedLength (n : Nat) : Prop := n = 40 ∨ 2 ≤ n ∧ n ≤ 38

theorem mem_allowedLengths (n : Nat) : n ∈ allowedLengths ↔ AllowedLength n := by
  unfold allowedLengths AllowedLength
  rw [List.mem_cons, List.mem_map]
  refine or_congr Iff.rfl ⟨?_, fun within => ⟨38 - n, List.mem_range.2 (by omega), by omega⟩⟩
  rintro ⟨k, less, rfl⟩
  rw [List.mem_range] at less
  omega

theorem allowedLengths_descend : allowedLengths.Pairwise (· > ·) := by decide

/-- The offsets tried from a preferred one on, wrapping past slice 39 (R106). -/
def offsetAt (p k : Nat) : Nat := (p + k) % 40

theorem offset_reached (p : Nat) {o : Nat} (less : o < 40) : ∃ k < 40, o = offsetAt p k := by
  refine ⟨(o + 40 - p % 40) % 40, Nat.mod_lt _ (by decide), ?_⟩
  unfold offsetAt
  omega

/-! ## Fitting -/

/-- A run fits beside what the slices hold already (R106). -/
def FitsBeside (held : Nat → Nat) (budget watts o len : Nat) : Prop :=
  ∀ n < 40, (n + 40 - o) % 40 < len → held n + watts ≤ budget

theorem fits_iff (runs : List Run) (budget watts o len : Nat) :
    fits runs budget watts o len = true ↔ FitsBeside (occupancy runs) budget watts o len := by
  unfold fits FitsBeside covers
  rw [List.all_eq_true]
  simp only [List.mem_range, Bool.or_eq_true, Bool.not_eq_true', decide_eq_false_iff_not, decide_eq_true_eq]
  exact forall_congr' fun n => imp_congr_right fun _ => ⟨fun h cov => h.resolve_left (not_not_intro cov), fun h => (em _).symm.imp_right h⟩

section
variable (runs : List Run) (budget watts p : Nat)

/-- No offset takes a run of some length. -/
def NoOffset (len : Nat) : Prop := ∀ o < 40, ¬ FitsBeside (occupancy runs) budget watts o len

/-- The first offset at which a run of some length fits, from the preferred one on. -/
def FirstOffset (len o : Nat) : Prop := FitsBeside (occupancy runs) budget watts o len ∧
  ∃ k < 40, o = offsetAt p k ∧ ∀ j < k, ¬ FitsBeside (occupancy runs) budget watts (offsetAt p j) len

theorem offsets_find (len : Nat) : (offsetsFrom p).find? (fun o => fits runs budget watts o len) =
    ((List.range 40).find? fun k => fits runs budget watts (offsetAt p k) len).map (offsetAt p) :=
  List.find?_map ..

theorem find_some {len o : Nat} (found : (offsetsFrom p).find? (fun o => fits runs budget watts o len) = some o) :
    FirstOffset runs budget watts p len o := by
  rw [offsets_find, Option.map_eq_some_iff] at found
  obtain ⟨k, at_, rfl⟩ := found
  rw [List.find?_range_eq_some] at at_
  obtain ⟨fit, inside, before⟩ := at_
  refine ⟨(fits_iff ..).1 fit, k, List.mem_range.1 inside, rfl, fun j less fit' => ?_⟩
  have not := before j less
  rw [(fits_iff ..).2 fit'] at not
  cases not

theorem find_none {len : Nat} (none_ : (offsetsFrom p).find? (fun o => fits runs budget watts o len) = none) :
    NoOffset runs budget watts len := by
  intro o less fit
  rw [offsets_find, Option.map_eq_none_iff, List.find?_eq_none] at none_
  obtain ⟨k, inside, rfl⟩ := offset_reached p less
  exact none_ k (List.mem_range.2 inside) ((fits_iff ..).2 fit)

/-! ## The search -/

theorem searchRun_none {lengths : List Nat} (none_ : searchRun runs budget watts p lengths = none) :
    ∀ len ∈ lengths, NoOffset runs budget watts len := by
  induction lengths with
  | nil => nofun
  | cons n shorter ih =>
    unfold searchRun at none_
    split at none_
    · cases none_
    · next noOffset =>
      intro len member
      obtain rfl | later := List.mem_cons.1 member
      · exact find_none _ _ _ _ noOffset
      · exact ih none_ len later

/-- The search takes the first length that some offset accepts. -/
theorem searchRun_some {lengths : List Nat} (descend : lengths.Pairwise (· > ·)) {o n : Nat}
    (found : searchRun runs budget watts p lengths = some (o, n)) :
    n ∈ lengths ∧ FirstOffset runs budget watts p n o ∧ ∀ len ∈ lengths, n < len → NoOffset runs budget watts len := by
  induction lengths with
  | nil => cases found
  | cons m shorter ih =>
    rw [List.pairwise_cons] at descend
    unfold searchRun at found
    split at found
    · next first =>
      cases found
      refine ⟨List.mem_cons_self, find_some _ _ _ _ first, fun len member longer => ?_⟩
      obtain rfl | later := List.mem_cons.1 member
      · exact absurd longer (lt_irrefl _)
      · exact absurd longer (Nat.lt_asymm (descend.1 len later))
    · next noOffset =>
      obtain ⟨member, first, longest⟩ := ih descend.2 found
      refine ⟨List.mem_cons_of_mem _ member, first, fun len inside longer => ?_⟩
      obtain rfl | later := List.mem_cons.1 inside
      · exact find_none _ _ _ _ noOffset
      · exact longest len later longer

/-- A run that R106 gives: an allowed length within the request, at the first offset, and the longest that fits. -/
structure GivenRun (r o n : Nat) : Prop where
  allowed : AllowedLength n
  within : n ≤ r
  first : FirstOffset runs budget watts p n o
  longest : ∀ len, AllowedLength len → n < len → len ≤ r → NoOffset runs budget watts len

theorem mem_lengthsWithin (r len : Nat) : len ∈ allowedLengths.filter (fun n => n ≤ r) ↔ AllowedLength len ∧ len ≤ r := by
  rw [List.mem_filter, mem_allowedLengths, decide_eq_true_iff]

theorem placeRun_some {r o n : Nat} (given : placeRun runs budget watts p r = some (o, n)) : GivenRun runs budget watts p r o n := by
  unfold placeRun at given
  split at given
  · cases given
  · obtain ⟨member, first, longest⟩ := searchRun_some runs budget watts p (allowedLengths_descend.filter _) given
    obtain ⟨allowed, within⟩ := (mem_lengthsWithin r n).1 member
    exact ⟨allowed, within, first, fun len allows longer less => longest len ((mem_lengthsWithin r len).2 ⟨allows, less⟩) longer⟩

theorem AllowedLength.pos {n : Nat} (h : AllowedLength n) : 0 < n := by
  unfold AllowedLength at h
  omega

theorem placeRun_none {r : Nat} (none_ : placeRun runs budget watts p r = none) :
    ∀ len, AllowedLength len → len ≤ r → NoOffset runs budget watts len := by
  intro len allowed less
  have pos := allowed.pos
  unfold placeRun at none_
  split at none_
  · next out =>
    obtain zero | poor := out
    · omega
    · intro o small fit
      have alone := fit o small (by omega)
      omega
  · exact searchRun_none runs budget watts p none_ len ((mem_lengthsWithin r len).2 ⟨allowed, less⟩)

theorem FirstOffset.small {len o : Nat} (h : FirstOffset runs budget watts p len o) : o < 40 := by
  obtain ⟨-, k, -, rfl, -⟩ := h
  exact Nat.mod_lt _ (by decide)

end

end Sys2Proof.Machine

/-! # A planning pass, and O43 (R100 to R107, R110) -/

namespace Sys2Proof.Machine

/-! ## The request of a load (R100 to R102, R105) -/

/-- The entry of a load before placement. -/
def Snapshot.request (t : Snapshot) (l : Load) : Entry := requestEntry t.running (t.loads.get l)

/-- What the run of a load draws in a slice. -/
def Snapshot.draw (t : Snapshot) (entries : PerLoad Entry) (n : Nat) (l : Load) : Nat :=
  if (entries.get l).covers n then (t.loads.get l).record.power else 0

/-- The entry of a load after a pass: its request as it was, or with a run granted that keeps to it. -/
def Entry.ServedFrom (e₀ e : Entry) : Prop :=
  e = e₀ ∨ ∃ o n, e = e₀.granted o n ∧ o < 40 ∧ AllowedLength n ∧ n ≤ e₀.r

theorem slicesOf_zero : slicesOf 0 = 0 := rfl

theorem requestOf_zero (carry : Bool) (a : Nat) : requestOf carry 0 a = 0 := by cases carry <;> rfl

theorem effectiveDuty_eq (running : Bool) (i : LoadInput) : effectiveDuty running i =
    if running = true ∧ i.gateOpen = true ∧ i.record.power ≠ 0 then
      match i.restriction with
      | .free => i.duty
      | .capped c => min i.duty c
      | .held => 0
    else 0 := by
  unfold effectiveDuty
  refine if_congr ?_ ?_ rfl
  · rw [Bool.and_eq_true, Bool.and_eq_true, decide_eq_true_iff, and_assoc]
  · cases i.restriction <;> rfl

/-- A closed gate, a duty of 0 and a part not in RUN ask for nothing (R100). -/
theorem effectiveDuty_idle {running : Bool} {i : LoadInput} (idle : running = false ∨ i.gateOpen = false ∨ i.duty = 0) :
    effectiveDuty running i = 0 := by
  rw [effectiveDuty_eq]
  split
  · next active =>
    obtain ⟨runs, open_, -⟩ := active
    obtain stop | shut | zero := idle
    · rw [runs] at stop
      cases stop
    · rw [open_] at shut
      cases shut
    · rw [zero]
      cases i.restriction with
      | free => rfl
      | capped c => exact Nat.zero_min c
      | held => rfl
  · rfl

theorem request_idle {t : Snapshot} {l : Load}
    (idle : t.running = false ∨ (t.loads.get l).gateOpen = false ∨ (t.loads.get l).duty = 0) : (t.request l).r = 0 := by
  have zero := effectiveDuty_idle idle
  change requestOf _ (slicesOf (effectiveDuty t.running (t.loads.get l))) _ = 0
  rw [zero, slicesOf_zero, requestOf_zero]

theorem preferredOffset_eq (i : LoadInput) : (preferredOffset i).2 = i.record.pin.isSome ∧
    (preferredOffset i).1 = (match i.record.pin with
      | some o => o
      | none => if 0 < i.grant then i.start.getD 0 else 0) := by
  unfold preferredOffset
  cases i.record.pin <;> exact ⟨rfl, rfl⟩

theorem requestOf_eq (carry : Bool) (d a : Nat) : requestOf carry d a =
    let owed := if carry = true ∧ 0 < d then min 40 (d + a) else d
    if owed = 1 then 2 else if owed = 39 then 40 else owed := by
  unfold requestOf normalise
  simp only [Bool.and_eq_true, decide_eq_true_eq]

/-! ## Entries served from their requests -/

section
variable {t : Snapshot} {l : Load} {e : Entry} (h : (t.request l).ServedFrom e)
include h

theorem Entry.ServedFrom.request : e.d = (t.request l).d ∧ e.r = (t.request l).r ∧ e.p = (t.request l).p ∧
    e.pinned = (t.request l).pinned := by
  obtain rfl | ⟨o, n, rfl, -⟩ := h <;> exact ⟨rfl, rfl, rfl, rfl⟩

theorem Entry.ServedFrom.grant : (e.g = 0 ∨ AllowedLength e.g) ∧ e.g ≤ e.r ∧ (e.s = none ↔ e.g = 0) ∧ (∀ o, e.s = some o → o < 40) ∧
    (e.shortfall = true ↔ e.g < e.r) := by
  obtain rfl | ⟨o, n, rfl, small, allowed, within⟩ := h
  · exact ⟨.inl rfl, Nat.zero_le _, ⟨fun _ => rfl, fun _ => rfl⟩, nofun, decide_eq_true_iff⟩
  · have pos := allowed.pos
    exact ⟨.inr allowed, within, ⟨nofun, fun zero => absurd zero (Nat.ne_of_gt pos)⟩, fun x is => Option.some.inj is ▸ small,
      decide_eq_true_iff⟩

end

/-! ## Placing the loads (R104, R106) -/

section
variable (t : Snapshot)

/-- A load that is placed has a run that R106 gives. -/
theorem placeLoad_cases (acc : Placing) (l : Load) :
    (placeLoad t acc l = acc ∧ ∀ len, AllowedLength len → len ≤ (t.request l).r →
      NoOffset acc.runs t.budget (t.loads.get l).record.power len) ∨
    ∃ o n, GivenRun acc.runs t.budget (t.loads.get l).record.power (t.request l).p (t.request l).r o n ∧ placeLoad t acc l =
      { runs := ⟨o, n, (t.loads.get l).record.power⟩ :: acc.runs, entries := acc.entries.set l ((t.request l).granted o n) } := by
  unfold placeLoad
  dsimp only
  split
  · next none_ => exact .inl ⟨rfl, placeRun_none _ _ _ _ none_⟩
  · next o n given => exact .inr ⟨o, n, placeRun_some _ _ _ _ given, rfl⟩

theorem occupancy_cons (r : Run) (runs : List Run) (n : Nat) :
    occupancy (r :: runs) n = (if covers r.start r.length n then r.watts else 0) + occupancy runs n := List.sum_cons

theorem granted_covers (e : Entry) (o n k : Nat) : (e.granted o n).covers k = covers o n k := rfl

theorem draw_set (entries : PerLoad Entry) (l : Load) (e : Entry) (n : Nat) :
    (∀ k ≠ l, t.draw (entries.set l e) n k = t.draw entries n k) ∧
      t.draw (entries.set l e) n l = if e.covers n then (t.loads.get l).record.power else 0 := by
  unfold Snapshot.draw
  refine ⟨fun k other => ?_, ?_⟩
  · rw [PerLoad.get_set, if_neg other]
  · rw [PerLoad.get_set, if_pos rfl]

theorem sum_le_of_change {α : Type} {f f' : α → Nat} {a : α} (same : ∀ b ≠ a, f' b = f b) {xs : List α} (nodup : xs.Nodup) :
    (xs.map f').sum ≤ f' a + (xs.map f).sum := by
  induction xs with
  | nil => exact Nat.zero_le _
  | cons x xs ih =>
    obtain ⟨apart, nodup⟩ := List.nodup_cons.1 nodup
    rw [List.map_cons, List.map_cons, List.sum_cons, List.sum_cons]
    by_cases is : x = a
    · subst is
      rw [List.map_congr_left fun b member => same b fun eq => apart (eq ▸ member)]
      omega
    · rw [same x is]
      have := ih nodup
      omega

/-- What every part of a pass keeps: runs within the budget, which hold what the entries draw. -/
structure Placed (acc : Placing) : Prop where
  served : ∀ l, (t.request l).ServedFrom (acc.entries.get l)
  budget : ∀ n < 40, occupancy acc.runs n ≤ t.budget
  total : ∀ n, (Load.all.map (t.draw acc.entries n)).sum ≤ occupancy acc.runs n

theorem request_draws (entries : PerLoad Entry) (l : Load) (request : entries.get l = t.request l) (n : Nat) :
    t.draw entries n l = 0 := by
  unfold Snapshot.draw
  rw [request]
  rfl

theorem placing_get (l : Load) : t.placing.entries.get l = t.request l := PerLoad.get_of _ l

theorem placing_placed : Placed t t.placing := by
  refine ⟨fun l => .inl (placing_get t l), fun n _ => Nat.zero_le _, fun n => ?_⟩
  rw [List.map_congr_left fun l _ => request_draws t _ l (placing_get t l) n]
  exact Nat.zero_le _

theorem placeLoad_placed {acc : Placing} (h : Placed t acc) (l : Load) : Placed t (placeLoad t acc l) := by
  obtain ⟨same, -⟩ | ⟨o, n, given, eq⟩ := placeLoad_cases t acc l
  · rw [same]
    exact h
  · rw [eq]
    refine ⟨fun k => ?_, fun m less => ?_, fun m => ?_⟩
    · rw [PerLoad.get_set]
      by_cases is : k = l
      · rw [if_pos is, is]
        exact .inr ⟨o, n, rfl, given.first.small, given.allowed, given.within⟩
      · rw [if_neg is]
        exact h.served k
    · rw [occupancy_cons]
      dsimp only
      split
      · next covered =>
        have fit := given.first.1 m less (of_decide_eq_true covered)
        omega
      · rw [Nat.zero_add]
        exact h.budget m less
    · obtain ⟨others, own⟩ := draw_set t acc.entries l ((t.request l).granted o n) m
      refine (sum_le_of_change others (by decide)).trans ?_
      rw [own, granted_covers, occupancy_cons]
      exact Nat.add_le_add_left (h.total m) _

theorem foldl_placed (ls : List Load) {acc : Placing} (h : Placed t acc) : Placed t (ls.foldl (placeLoad t) acc) := by
  induction ls generalizing acc with
  | nil => exact h
  | cons l ls ih => exact ih (placeLoad_placed t h l)

/-! ## Each load placed once -/

theorem placeLoad_other {acc : Placing} {l k : Load} (other : k ≠ l) : (placeLoad t acc l).entries.get k = acc.entries.get k := by
  obtain ⟨same, -⟩ | ⟨o, n, -, eq⟩ := placeLoad_cases t acc l
  · rw [same]
  · rw [eq, PerLoad.get_set, if_neg other]

theorem foldl_other {ls : List Load} {k : Load} (apart : k ∉ ls) (acc : Placing) :
    (ls.foldl (placeLoad t) acc).entries.get k = acc.entries.get k := by
  induction ls generalizing acc with
  | nil => rfl
  | cons l ls ih =>
    rw [List.mem_cons, not_or] at apart
    exact (ih apart.2 _).trans (placeLoad_other t apart.1)

theorem placeLoad_occupancy {acc : Placing} {l : Load} (request : acc.entries.get l = t.request l) (n : Nat) :
    occupancy (placeLoad t acc l).runs n = t.draw (placeLoad t acc l).entries n l + occupancy acc.runs n := by
  obtain ⟨same, -⟩ | ⟨o, m, -, eq⟩ := placeLoad_cases t acc l
  · rw [same, request_draws t _ l request, Nat.zero_add]
  · rw [eq, (draw_set t _ l _ n).2]
    exact occupancy_cons _ _ n

/-- Where no load comes twice, the slices hold what the entries of the loads placed draw. -/
theorem foldl_occupancy {ls : List Load} (nodup : ls.Nodup) {acc : Placing} (requests : ∀ k ∈ ls, acc.entries.get k = t.request k) (n : Nat) :
    occupancy (ls.foldl (placeLoad t) acc).runs n =
      (ls.map (t.draw (ls.foldl (placeLoad t) acc).entries n)).sum + occupancy acc.runs n := by
  induction ls generalizing acc with
  | nil => exact (Nat.zero_add _).symm
  | cons l ls ih =>
    obtain ⟨apart, nodup⟩ := List.nodup_cons.1 nodup
    have later := ih nodup (acc := placeLoad t acc l) fun k member =>
      (placeLoad_other t (ne_of_mem_of_not_mem member apart)).trans (requests k (List.mem_cons_of_mem _ member))
    have own : t.draw (ls.foldl (placeLoad t) (placeLoad t acc l)).entries n l = t.draw (placeLoad t acc l).entries n l := by
      unfold Snapshot.draw
      rw [foldl_other t apart]
    rw [List.foldl_cons, later, placeLoad_occupancy t (requests l List.mem_cons_self), List.map_cons, List.sum_cons, own]
    omega

/-- A rank list without repeats is a permutation of the four electric points, so the placement order has each load once. -/
theorem placementOrder_perm {r : Rank} (nodup : r.toList.Nodup) : r.placementOrder.Perm Load.all := by
  have points : r.toList.Perm EPoint.all :=
    (List.subperm_of_subset nodup fun x _ => by cases x <;> decide).perm_of_length_le (Nat.le_refl 4)
  exact (points.flatMap_right _).trans (by decide)

/-- What the plan gives a load beside what the loads placed before it draw. -/
structure LongestRun (held : Nat → Nat) (budget watts : Nat) (e : Entry) : Prop where
  first : ∀ o, e.s = some o → FitsBeside held budget watts o e.g ∧
    ∃ k < 40, o = offsetAt e.p k ∧ ∀ j < k, ¬ FitsBeside held budget watts (offsetAt e.p j) e.g
  longest : ∀ len, e.g < len → len ≤ e.r → AllowedLength len → ∀ o < 40, ¬ FitsBeside held budget watts o len

/-- The loads placed before a load. -/
def Rank.before (r : Rank) (l : Load) : List Load := r.placementOrder.takeWhile fun k => k ≠ l

theorem placementOrder_split {r : Rank} (nodup : r.toList.Nodup) (l : Load) :
    ∃ after, r.placementOrder = r.before l ++ l :: after ∧ (r.before l).Nodup ∧ l ∉ r.before l ∧ l ∉ after ∧
      ∀ k ∈ r.before l, k ∉ after := by
  have perm := placementOrder_perm nodup
  have once : r.placementOrder.Nodup := perm.nodup_iff.2 (by decide)
  obtain ⟨a, b, split⟩ := List.append_of_mem (perm.mem_iff.2 (Load.mem_all l))
  rw [split, List.nodup_append] at once
  obtain ⟨first, second, apart⟩ := once
  have before : l ∉ a := fun member => apart l member l List.mem_cons_self rfl
  have is : r.before l = a := by
    unfold Rank.before
    rw [split, List.takeWhile_append_of_pos fun k member => decide_eq_true (ne_of_mem_of_not_mem member before)]
    simp
  rw [is]
  exact ⟨b, split, first, before, (List.nodup_cons.1 second).1, fun k member later =>
    apart k member k (List.mem_cons_of_mem _ later) rfl⟩

theorem plan_longest (nodup : t.rank.toList.Nodup) (l : Load) :
    LongestRun (fun n => ((t.rank.before l).map (t.draw t.plan.entries n)).sum) t.budget (t.loads.get l).record.power
      (t.plan.entries.get l) := by
  obtain ⟨after, order, once, apart, last, before⟩ := placementOrder_split nodup l
  have plan : t.plan.entries = (after.foldl (placeLoad t) (placeLoad t ((t.rank.before l).foldl (placeLoad t) t.placing) l)).entries := by
    change (t.rank.placementOrder.foldl (placeLoad t) t.placing).entries = _
    rw [order, List.foldl_append]
    rfl
  have requested : ((t.rank.before l).foldl (placeLoad t) t.placing).entries.get l = t.request l :=
    (foldl_other t apart _).trans (placing_get t l)
  have held : (fun n => ((t.rank.before l).map (t.draw t.plan.entries n)).sum) =
      occupancy ((t.rank.before l).foldl (placeLoad t) t.placing).runs := by
    funext n
    rw [foldl_occupancy t once (fun k _ => placing_get t k)]
    refine (congrArg List.sum (List.map_congr_left fun k member => ?_)).trans (Nat.add_zero _).symm
    unfold Snapshot.draw
    rw [plan, foldl_other t (before k member), placeLoad_other t (ne_of_mem_of_not_mem member apart)]
  have own : t.plan.entries.get l = (placeLoad t ((t.rank.before l).foldl (placeLoad t) t.placing) l).entries.get l := by
    rw [plan, foldl_other t last]
  rw [held, own]
  generalize (t.rank.before l).foldl (placeLoad t) t.placing = acc at requested ⊢
  obtain ⟨same, none_⟩ | ⟨o, n, given, eq⟩ := placeLoad_cases t acc l
  · rw [same, requested]
    exact ⟨nofun, fun len _ less allowed => none_ len allowed less⟩
  · rw [eq, PerLoad.get_set, if_pos rfl]
    exact ⟨fun x is => Option.some.inj is ▸ given.first, fun len longer less allowed => given.longest len allowed longer less⟩

end

/-- Settles O43. -/
theorem plansKeepToTheBudget : Obligations.PlansKeepToTheBudget := by
  intro b s lines building
  have placed : Placed b (b.rank.placementOrder.foldl (placeLoad b) b.placing) := foldl_placed b _ (placing_placed b)
  have ran : exec .passComplete s = .next { s with spl := { s.spl with pending := .complete b.plan } } := by
    refine event_exact lines rfl nofun ?_ rfl rfl rfl rfl rfl
    change s.completePass = _
    unfold State.completePass
    rw [building]
    rfl
  refine ⟨b.plan, ran, rfl, rfl, fun n less => (placed.total n).trans (placed.budget n less), fun l => ?_⟩
  have served : (b.request l).ServedFrom (b.plan.entries.get l) := placed.served l
  obtain ⟨d, r, p, pinned⟩ := served.request
  obtain ⟨allowed, within, none_, small, short⟩ := served.grant
  obtain ⟨pin, offset⟩ := preferredOffset_eq (b.loads.get l)
  refine ⟨allowed, within, none_, small, short, fun idle => ?_, ?_, ?_, ?_, ?_, fun nodup => ?_⟩
  · rw [r, request_idle idle] at within
    exact Nat.le_zero.1 within
  · rw [d]
    exact congrArg slicesOf (effectiveDuty_eq _ _)
  · rw [d, r]
    exact requestOf_eq _ _ _
  · rw [pinned]
    exact pin
  · rw [p]
    exact offset
  · obtain ⟨first, longest⟩ := plan_longest b nodup l
    exact ⟨first, longest⟩

end Sys2Proof.Machine
